-- ==== Sys2Proof/Word.lean ====
section
/-! DEFINITION. The word types of the model and their plainest arithmetic. -/

namespace Sys2Proof

/-- A byte, the smallest addressable unit of every store (R11). -/
abbrev Byte := BitVec 8

/-- A 32-bit register or memory word. -/
abbrev Word := BitVec 32

/-- A 64-bit scalar register of a turner (R155). -/
abbrev DWord := BitVec 64

/-- A 512-bit vector register of a turner (R155). -/
abbrev VReg := BitVec 512

/-- A run of bytes, lowest address first. -/
abbrev Bytes := List Byte

/-- The value at which a 32-bit count stops. -/
def max32 : Nat := 0xFFFFFFFF

/-- The value at which a 64-bit count stops. -/
def max64 : Nat := 0xFFFFFFFFFFFFFFFF

/-- A 32-bit count that stops at 0xFFFF_FFFF, increased by `k`. -/
def satAdd32 (a k : Nat) : Nat := min (a + k) max32

/-- A 64-bit count that stops at its maximum, increased by `k`. -/
def satAdd64 (a k : Nat) : Nat := min (a + k) max64

/-- Bits `hi` down to `lo` of a number. -/
def bits (x hi lo : Nat) : Nat := (x >>> lo) % 2 ^ (hi + 1 - lo)

/-- Bit `i` of a number. -/
def bit (x i : Nat) : Bool := (x >>> i) % 2 == 1

/-- 1 for true, 0 for false. -/
def b2n (b : Bool) : Nat := if b then 1 else 0

/-- Round `n` up to a multiple of `k`. -/
def roundUp (n k : Nat) : Nat := (n + k - 1) / k * k

end Sys2Proof
end

