-- ==== Sys2Proof/Syntax.lean ====
section
/-! DEFINITION. The commands and events of the IL-2400: one constructor of `Instr` per row of opcode_table.json,
and the operand structures they carry. -/

namespace Sys2Proof

/-- The four controlling ports (chapter 17). -/
inductive Port where
  /-- the USB port -/
  | usb
  /-- the management port (I3C or I²C) -/
  | mgt
  /-- the fabric, on behalf of a group coordinator (R585) -/
  | fabric
  /-- the Yilrad monitor -/
  | monitor
deriving DecidableEq, Repr, Inhabited

/-- R566: what a command record carries beside its opcode and parameters. `flags` is the FLAGS byte (bit 0 DATA,
bit 1 RDATA), `rsv` the value of the reserved bytes 12 to 15, `tail` the value of the unused payload bytes read as
one number (0 where they are 0, as R567 asks). -/
structure Hdr where
  port : Port
  tag : Nat
  flags : Nat
  stream : Nat
  dlen : Nat
  rsv : Nat
  tail : Nat
deriving DecidableEq, Repr

/-- R162, format N: D, A, B, FN and the reserved bits [9:7]. -/
structure FmtN where
  d : BitVec 5
  a : BitVec 5
  b : BitVec 5
  fn : BitVec 7
  z : BitVec 3
deriving DecidableEq, Repr

/-- R162, format I: D, A and the 15-bit IMM. -/
structure FmtI where
  d : BitVec 5
  a : BitVec 5
  imm : BitVec 15
deriving DecidableEq, Repr

/-- R162, format M: T, A, W and the 12-bit OFF. -/
structure FmtM where
  t : BitVec 5
  a : BitVec 5
  w : BitVec 3
  off : BitVec 12
deriving DecidableEq, Repr

/-- R162, format V: VD, VA, VB, P, ET and FN. -/
structure FmtV where
  vd : BitVec 5
  va : BitVec 5
  vb : BitVec 5
  p : BitVec 3
  et : BitVec 3
  fn : BitVec 4
deriving DecidableEq, Repr

/-- R162, format X: D, A, B, C and FN. -/
structure FmtX where
  d : BitVec 5
  a : BitVec 5
  b : BitVec 5
  c : BitVec 5
  fn : BitVec 5
deriving DecidableEq, Repr

/-- R162, format S: D, A, NUM and FN. -/
structure FmtS where
  d : BitVec 5
  a : BitVec 5
  num : BitVec 12
  fn : BitVec 3
deriving DecidableEq, Repr

/-- R643: the PAYLOAD of ACC_SUBMIT, its twelve words in order. -/
structure SubmitP where
  service : Nat
  prompt : Nat
  n : Nat
  policy : Nat
  adapter : Nat
  stopset : Nat
  topk : Nat
  draftMax : Nat
  temp : Nat
  topp : Nat
  deadline : Nat
  maxnew : Nat
deriving DecidableEq, Repr

/-- R447: source package, group number and serial of a control message. -/
structure Msg where
  src : Nat
  group : Nat
  serial : Nat
deriving DecidableEq, Repr

/-- R523: one task's share of a domain's energy interval: collection, band, bound cycles. -/
structure Share where
  coll : Nat
  band : Nat
  cycles : Nat
deriving DecidableEq, Repr

/-- R596: what the parts of a cold start report: whether main store trained, whether the cave mounted, whether the
newest keep record verified, whether the crystal is stable, the junction sensors' and supply's readings are not
part of it; `failed` lists the units (fault site, number) whose self-test failed; `slotA` and `slotB` say whether
the firmware bundle in each slot is acceptable under R477, `msToReady` the time measured to READY in ms. -/
structure BootOut where
  trained : Bool
  mounted : Bool
  keepOk : Bool
  xtal : Bool
  slotA : Bool
  slotB : Bool
  failed : List (Nat × Nat)
  msToReady : Nat
deriving DecidableEq, Repr

/-- The commands and events of the part, one constructor per row of opcode_table.json, each whole and indivisible. Those with
operands stand first, the clearing and staging of registers last among them: compiled code builds no constructor with operands
beyond the 245th. -/
inductive Instr where
  /-- LOADW (R85). Vat command that loads the code area, headers and whey entries of a weight tile into one weight buffer. -/
  | loadw (v : Nat) (w : BitVec 128)
  /-- LOADW_T (R87). Vat command that loads a 128 x 128 region, transposed and dequantised where needed, into a buffer for BF16 mode. -/
  | loadwT (v : Nat) (w : BitVec 128)
  /-- STREAM (R89). Vat command that passes 1 to 64 activation rows through a loaded buffer into accumulator entries. -/
  | stream (v : Nat) (w : BitVec 128)
  /-- DRAIN (R94). Vat command that forms outputs from accumulator entries and writes them as FP32, BF16 or Q8A under the drain descriptor. -/
  | drain (v : Nat) (w : BitVec 128)
  /-- CLEAR (R105). Vat command that zeroes accumulator entries with an empty tag and zeroes the selected carry column groups. -/
  | clear (v : Nat) (w : BitVec 128)
  /-- SCAN (R126). Vat command that evaluates one scan-mode chunk of the recurrence by the segmented combine and updates the carry. -/
  | scan (v : Nat) (w : BitVec 128)
  /-- CARRY_IN (R107). Vat command that loads the selected carry groups from near store; for a stream it makes the carry object RESIDENT. -/
  | carryIn (v : Nat) (w : BitVec 128)
  /-- CARRY_OUT (R107). Vat command that writes the selected carry groups to near store. -/
  | carryOut (v : Nat) (w : BitVec 128)
  /-- CHECK (R108). Vat residue fence that completes when all earlier commands and comparisons are done, with optional check injection in TEST mode. -/
  | check (v : Nat) (w : BitVec 128)
  /-- VAT_OP_UNASSIGNED (R100). A vat command with an unassigned OP code ends the bound task with exception VAT_OP. -/
  | vatOpUnassigned (v : Nat) (w : BitVec 128)
  /-- RESIDUE_COMPARISON (R116). For each activation row and slice the vat compares the block-sum residue with the check-column residue and reports a mismatch as a detected fault. -/
  | residueComparison (v : Nat) (row : Nat) (slice : Nat) (err : Nat)
  /-- VAT_IDLE_ENTRY (R119). A vat that has executed no command for 256 cycles becomes idle and clock-gates its slices. -/
  | vatIdleEntry (v : Nat)
  /-- CURRENT_STEP_GRANT (R120). The package current-step governor grants a waiting vat its idle exit, at most 4 per microsecond, in arrival order. -/
  | currentStepGrant (v : Nat)
  /-- VAT_FULL_WIDTH (R119). The slice stagger completes and the vat reaches full width, releasing the first command after idle. -/
  | vatFullWidth (v : Nat)
  /-- SWAP_OUT_COMPLETE (R144). A CARRY_OUT issued for a stream swap completes and the carry object becomes STORED. -/
  | swapOutComplete (v : Nat) (handle : Nat)
  /-- DEFERRED_SWAP (R147). A non-forced swap deferred behind a queued chunk of the same stream is performed when that chunk completes. -/
  | deferredSwap (v : Nat) (handle : Nat)
  /-- INT (R165). Integer register-register instruction whose FN selects a 64-bit operation. -/
  | int (t : Nat) (f : FmtN)
  /-- ADDI (R166). Adds a sign-extended immediate to a scalar register. -/
  | addi (t : Nat) (f : FmtI)
  /-- ANDI (R166). Bitwise and with a sign-extended immediate. -/
  | andi (t : Nat) (f : FmtI)
  /-- ORI (R166). Bitwise or with a sign-extended immediate. -/
  | ori (t : Nat) (f : FmtI)
  /-- XORI (R166). Bitwise exclusive or with a sign-extended immediate. -/
  | xori (t : Nat) (f : FmtI)
  /-- SHLI (R166). Shifts left by an immediate amount. -/
  | shli (t : Nat) (f : FmtI)
  /-- SHRI (R166). Shifts right with zero fill by an immediate amount. -/
  | shri (t : Nat) (f : FmtI)
  /-- SRAI (R166). Shifts right with sign fill by an immediate amount. -/
  | srai (t : Nat) (f : FmtI)
  /-- SLTI (R166). Sets 1 if the register is less than the immediate as signed values. -/
  | slti (t : Nat) (f : FmtI)
  /-- LSH15 (R166). Shifts the destination left by 15 and adds an unsigned immediate, for building constants. -/
  | lsh15 (t : Nat) (f : FmtI)
  /-- BEQ (R167). Branches if the two registers are equal. -/
  | beq (t : Nat) (f : FmtI)
  /-- BNE (R167). Branches if the two registers differ. -/
  | bne (t : Nat) (f : FmtI)
  /-- BLT (R167). Branches if less, signed. -/
  | blt (t : Nat) (f : FmtI)
  /-- BGE (R167). Branches if greater or equal, signed. -/
  | bge (t : Nat) (f : FmtI)
  /-- BLTU (R167). Branches if less, unsigned. -/
  | bltu (t : Nat) (f : FmtI)
  /-- BGEU (R167). Branches if greater or equal, unsigned. -/
  | bgeu (t : Nat) (f : FmtI)
  /-- JMP (R167). Relative jump that writes the return offset. -/
  | jmp (t : Nat) (f : FmtI)
  /-- JMPR (R167). Register jump that writes the return offset and checks target alignment and range. -/
  | jmpr (t : Nat) (f : FmtI)
  /-- LD (R168). Scalar load, sign-extended. -/
  | ld (t : Nat) (f : FmtM)
  /-- LDU (R168). Scalar load, zero-extended. -/
  | ldu (t : Nat) (f : FmtM)
  /-- ST (R168). Scalar store of the low bytes of a register. -/
  | st (t : Nat) (f : FmtM)
  /-- VLD (R169). Loads 64 bytes into a vector register. -/
  | vld (t : Nat) (f : FmtM)
  /-- VST (R169). Stores a vector register as 64 bytes. -/
  | vst (t : Nat) (f : FmtM)
  /-- VSTM (R170). Stores the active elements of a vector register under a predicate. -/
  | vstm (t : Nat) (f : FmtV)
  /-- VLDB (R169). Loads one element and broadcasts it to every element. -/
  | vldb (t : Nat) (f : FmtM)
  /-- VARITH (R174). Element-wise vector arithmetic on two vector operands. -/
  | varith (t : Nat) (f : FmtV)
  /-- VSARITH (R174). Element-wise vector arithmetic with a scalar second operand. -/
  | vsarith (t : Nat) (f : FmtV)
  /-- VCMP (R176). Vector compare writing a predicate register. -/
  | vcmp (t : Nat) (f : FmtV)
  /-- VFMA (R175). Fused multiply-add with a single rounding. -/
  | vfma (t : Nat) (f : FmtX)
  /-- VCVT (R177). Converts elements between types, widening or narrowing. -/
  | vcvt (t : Nat) (f : FmtV)
  /-- VMOVE (R178). Vector moves, selects, extracts, inserts and predicate operations selected by FN. -/
  | vmove (t : Nat) (f : FmtV)
  /-- VRED (R179). Reduces the active elements of a vector to one scalar value. -/
  | vred (t : Nat) (f : FmtV)
  /-- VQUANT (R180). Quantises or dequantises one block held in a register group. -/
  | vquant (t : Nat) (f : FmtX)
  /-- VSPEC (R183). Applies EXP2, RCP, RSQRT or LOG2 element by element. -/
  | vspec (t : Nat) (f : FmtV)
  /-- VSEL (R184). Top-k buffer and prefix-sum operations selected by FN. -/
  | vsel (t : Nat) (f : FmtX)
  /-- VRAND (R186). Writes 16 counter-based random words from key and counter. -/
  | vrand (t : Nat) (f : FmtX)
  /-- VISSUE (R187). Sends a 128-bit vat command to the task's bound vat, stalling while its queue is full. -/
  | vissue (t : Nat) (f : FmtN)
  /-- VISSUE_RESUME (R111). A stalled VISSUE proceeds when a slot frees in the vat command queue. -/
  | vissueResume (t : Nat)
  /-- DISSUE (R188). Submits a 32-byte move request, checked at issue, to the DMA engines of the turner's stack. -/
  | dissue (t : Nat) (f : FmtN)
  /-- DISSUE_RESUME (R189). A DISSUE stalled at 16 outstanding moves proceeds when one completes. -/
  | dissueResume (t : Nat)
  /-- SWAIT (R190). Waits until a sync counter reaches a threshold. -/
  | swait (t : Nat) (f : FmtS)
  /-- SWAIT_RESUME (R190). A waiting SWAIT retires when its counter reaches the threshold. -/
  | swaitResume (t : Nat)
  /-- SSIG (R191). Adds 1 to a sync counter once the task's earlier vat commands and moves have completed. -/
  | ssig (t : Nat) (f : FmtS)
  /-- SPOLL (R190). Reads a sync counter without waiting. -/
  | spoll (t : Nat) (f : FmtS)
  /-- TEND (R192). Ends the task once its issued work has completed. -/
  | tend (t : Nat) (f : FmtS)
  /-- TYIELD (R193). Releases the turner and vat and suspends the task until a counter reaches a threshold. -/
  | tyield (t : Nat) (f : FmtS)
  /-- TYIELD_RESUME (R193). A suspended task resumes on a turner of the same cluster with its registers restored. -/
  | tyieldResume (t : Nat) (g : Nat) (i : Nat)
  /-- TRAP (R192). Ends the task with exception TRN_TRAP and a user code. -/
  | trap (t : Nat) (f : FmtS)
  /-- SYSR (R158). Reads a read-only system register into a scalar register. -/
  | sysr (t : Nat) (f : FmtS)
  /-- TRN_ILLEGAL (R163). An instruction with an unassigned opcode or field ends the task with exception TRN_ILLEGAL. -/
  | trnIllegal (t : Nat) (w : BitVec 32)
  /-- GRAPH_LOAD (R203). Loads a graph object as a resident graph after checks, returning a graph number or a status. -/
  | graphLoad (h : Hdr) (handle : Nat) (coll : Nat) (group : Nat)
  /-- GRAPH_RUN (R205). Submits an instance of a resident graph with band, completion object and binding object. -/
  | graphRun (h : Hdr) (graph : Nat) (band : Nat) (comp : Nat) (binding : Nat)
  /-- GRAPH_ABORT (R231). Ends the graph's running and queued instances ABORTED. -/
  | graphAbort (h : Hdr) (graph : Nat)
  /-- GRAPH_DROP (R204). Starts removal of a resident graph, discarding its queued instances. -/
  | graphDrop (h : Hdr) (graph : Nat)
  /-- GRAPH_DROP_COMPLETE (R204). After the running instance completes, the dropped graph's counters are zeroed and its slots and counters freed. -/
  | graphDropComplete (g : Nat)
  /-- INSTANCE_START (R207). The next queued instance of a graph starts after the previous one completes, resets the counters and makes its start checks. -/
  | instanceStart (g : Nat)
  /-- RESIDENCY_REQUEST (R214). The graph engine chooses a task's cluster and requests residency of all its operands. -/
  | residencyRequest (g : Nat) (i : Nat)
  /-- RESIDENCY_SPACE_GRANT (R268). A waiting residency request at the head of its cluster's queue is given near-store space. -/
  | residencySpaceGrant (c : Nat)
  /-- OBJ_SPACE_WAIT_EXPIRY (R268). The head residency request has waited past OBJ_SPACE_WAIT, ends FAILED_SPACE and its task ends OBJ_SPACE. -/
  | objSpaceWaitExpiry (c : Nat)
  /-- TASK_RELEASE (R213). A task whose conditions all hold becomes ready and joins a cluster ready queue or DMA engine. -/
  | taskRelease (g : Nat) (i : Nat)
  /-- TASK_DISPATCH (R217). A free turner or vat takes the first runnable task of its queue and binds to it. -/
  | taskDispatch (isVat : Bool) (u : Nat)
  /-- TASK_STEAL (R219). A unit with nothing to run steals a task from a sibling or far cluster under the stealing tiers. -/
  | taskSteal (isVat : Bool) (u : Nat)
  /-- TASK_COMPLETE (R218). A task reaches its completion point, its completion entry is written, DONE_SYNC signalled and successors re-evaluated. -/
  | taskComplete (g : Nat) (i : Nat)
  /-- OVER_BUDGET (R227). A task's counted cycles pass its budget and OVER_BUDGET is set while it runs on. -/
  | overBudget (g : Nat) (i : Nat)
  /-- BUDGET_HANG (R227). A task's count passes four times its budget and it is a detected hang fault, stopped and released for re-execution. -/
  | budgetHang (g : Nat) (i : Nat)
  /-- OBJ_CREATE (R642). Creates an object table entry with kind, role, size, home and placement, reserving main store where needed. -/
  | objCreate (h : Hdr) (kind : Nat) (size : Nat) (coll : Nat) (home : Nat) (place : Nat) (region : Nat) (entry : Nat) (aux : Nat)
  /-- OBJ_FREE (R265). Sets FREEING on an object and cancels its waiting requests. -/
  | objFree (h : Hdr) (handle : Nat)
  /-- OBJECT_RELEASE (R265). When PINCNT of a freeing object reaches 0 its upper copies are dropped, writable data zeroed and the entry released. -/
  | objectRelease (idx : Nat)
  /-- OBJ_PROMOTE (R279). Owner request to promote an object into main store or a cluster's near store. -/
  | objPromote (h : Hdr) (handle : Nat) (pos : Nat)
  /-- OBJ_EVICT (R279). Owner request to evict an object's copy from a position. -/
  | objEvict (h : Hdr) (handle : Nat) (pos : Nat)
  /-- OBJ_PLACE (R250). Changes an object's placement at once. -/
  | objPlace (h : Hdr) (handle : Nat) (place : Nat)
  /-- OBJ_QUERY (R279). Returns an object's 32-byte table entry. -/
  | objQuery (h : Hdr) (handle : Nat)
  /-- PROMOTION_COMPLETE (R258). A promotion into a position finishes, the position becomes STABLE, and requests waiting on it are re-evaluated. -/
  | promotionComplete (idx : Nat) (pos : Nat)
  /-- EVICTION_COMPLETE (R255). A drop or spill finishes, the main-store copy becomes authoritative after a spill, and waiting promotions restart. -/
  | evictionComplete (idx : Nat) (pos : Nat)
  /-- PIN_GRANT (R259). An operation waiting for a pin beyond 65,535 obtains it when a pin is released. -/
  | pinGrant (idx : Nat)
  /-- MOVE_START (R272). A DMA engine starts a move, promoting its source range first where no copy lies above the home tier. -/
  | moveStart (id : Nat) (e : Nat)
  /-- MOVE_COMPLETE (R272). A move writes its last byte, or fails after issue, and signals its counter. -/
  | moveComplete (id : Nat)
  /-- FETCH_POST (R275). The migration engine posts a fetch record on a free enabled stream. -/
  | fetchPost (id : Nat)
  /-- FETCH_ANSWER (R277). The host's answer to a fetch arrives whole, is verified and written to its target position. -/
  | fetchAnswer (stream : Nat) (bytes : Bytes)
  /-- OBJ_FETCH_TMO_EXPIRY (R276). A fetch not answered within OBJ_FETCH_TMO fails its attempt, is cancelled and reposted or ends FAILED_FETCH. -/
  | objFetchTmoExpiry (fid : Nat)
  /-- FETCH_CANCEL_HOLD_END (R276). The 100 ms interval after a FETCH_CANCEL on a stream ends and the stream may be used again. -/
  | fetchCancelHoldEnd (stream : Nat)
  /-- FETCH_NACK (R581). The host refuses an outstanding fetch, which fails its attempt. -/
  | fetchNack (h : Hdr) (fid : Nat)
  /-- CAVE_OPEN (R291). Reserves block sets and returns a region in WRITING. -/
  | caveOpen (h : Hdr) (coll : Nat) (sets : Nat)
  /-- CAVE_WRITE (R293). Appends wheels from a stream to a region after checking each wheel's CRC and tag, during a recovery slice. -/
  | caveWrite (h : Hdr) (region : Nat) (entry : Nat) (count : Nat)
  /-- CAVE_SEAL (R295). Writes the directory and header and makes the region SEALED once durable. -/
  | caveSeal (h : Hdr) (region : Nat)
  /-- CAVE_RELEASE (R297). Moves a SEALED or ABANDONED region to RELEASING. -/
  | caveRelease (h : Hdr) (region : Nat)
  /-- CAVE_SLICE (R305). Grants a SHARED or EXCLUSIVE recovery slice of given duration. -/
  | caveSlice (h : Hdr) (dur : Nat) (excl : Nat)
  /-- CAVE_SCAN (R316). Runs a READ or ERASE scan of the cave in TEST mode. -/
  | caveScan (h : Hdr) (mode : Nat)
  /-- CAVE_PROGRAM_FAIL (R294). A failed program operation retires the block and continues on a spare or ends NO_SPARE. -/
  | caveProgramFail (set : Nat) (ch : Nat)
  /-- CAVE_PAGE_READ (R300). A page read completes, increments the block's read counter and checks the read-disturb budget. -/
  | cavePageRead (set : Nat) (stripe : Nat) (ch : Nat) (ok : Bool)
  /-- READ_RETRY (R310). A page that failed hard-decision decoding is re-read with shifted references and soft decoding. -/
  | readRetry (set : Nat) (stripe : Nat) (ch : Nat) (ok : Bool)
  /-- CAVE_REBUILD (R311). A page is rebuilt by exclusive-or from its stripe, placed in the repair cache and its block queued for relocation. -/
  | caveRebuild (set : Nat) (stripe : Nat) (ch : Nat) (ok : Bool)
  /-- PEER_COPY_TIMEOUT (R312). No peer copy arrives within 20 ms and the next member is asked or the promotion ends FAILED_DAMAGED. -/
  | peerCopyTimeout (idx : Nat)
  /-- RELOCATION_DONE (R306). A block's relocation finishes copying to a spare. -/
  | relocationDone (set : Nat) (ch : Nat)
  /-- MAP_FLIP (R307). At a step boundary with no outstanding read of the original, the relocated block's map flips and the original is erased. -/
  | mapFlip (set : Nat) (ch : Nat)
  /-- ERASE_COMPLETE (R297). An erase of RELEASING blocks completes and they return to the free pool. -/
  | eraseComplete (region : Nat)
  /-- TABLE_LOAD (R334). Writes a decode table into a FREE slot and makes it CURRENT. -/
  | tableLoad (h : Hdr)
  /-- TABLE_REPLACE (R334). Writes a new table into a FREE slot and retires the old slot in the same instant. -/
  | tableReplace (h : Hdr) (slot : Nat)
  /-- TABLE_DROP (R334). Makes a CURRENT slot RETIRING. -/
  | tableDrop (h : Hdr) (slot : Nat)
  /-- TABLE_SLOT_FREE (R332). A RETIRING slot's reference count reaches 0, it becomes FREE and a waiting table command takes it. -/
  | tableSlotFree (n : Nat)
  /-- STEP_COMMIT (R29). At a step instance's end the engine applies acceptance, stop and deadline checks and queues result records. -/
  | stepCommit (g : Nat)
  /-- PRESSING_COMPLETE (R364). The page is linked VALID, HEAD and BASEPOS advance, and a twin copy is started where required. -/
  | pressingComplete (hoop : Nat)
  /-- PAGE_WAIT_SERVED (R376). A freed page goes to the earliest waiting request of its class within quota. -/
  | pageWaitServed (cls : Nat)
  /-- RECLAIM (R377). A request that has waited KVE_PAGE_WAIT selects a victim accession, which ends EVICTED and frees its pages. -/
  | reclaim (a : Nat)
  /-- ACC_SERVICE (R382). Writes a service record binding step graphs and objects. -/
  | accService (h : Hdr) (svc : Nat)
  /-- ACC_STOPSET (R396). Writes a stop set. -/
  | accStopset (h : Hdr) (set : Nat)
  /-- ACC_SUBMIT (R385). Submits an accession with its prompt and settings and returns its index. -/
  | accSubmit (h : Hdr) (p : SubmitP)
  /-- PROMPT_WRITTEN (R385). The whole prompt has arrived in the prompt object and the accession becomes QUEUED. -/
  | promptWritten (a : Nat)
  /-- ACC_CANCEL (R399). Sets CANCEL_PEND, acting at the next commit point or at once if no step is in flight. -/
  | accCancel (h : Hdr) (a : Nat) (tag : Nat)
  /-- ACC_SUSPEND (R387). Suspends an accession, at once or at its step's commit point. -/
  | accSuspend (h : Hdr) (a : Nat)
  /-- ACC_RESUME (R387). Returns a SUSPENDED accession to its previous state. -/
  | accResume (h : Hdr) (a : Nat)
  /-- ACC_HOLD_ALL (R403). Puts every live accession in HELD and lets steps in flight run to their commit points. -/
  | accHoldAll (h : Hdr)
  /-- ACC_RESUME_ALL (R403). Returns every HELD accession to its previous state and ends a coolant stop. -/
  | accResumeAll (h : Hdr)
  /-- FINAL_RECORD_SENT (R386). An accession's FINAL record has been sent and the entry returns to FREE. -/
  | finalRecordSent (a : Nat)
  /-- WGT_LOAD (R415). Starts a wheel load of a read-only home-MAIN object from a host stream. -/
  | wgtLoad (h : Hdr) (handle : Nat) (fmt : Nat) (count : Nat) (stream : Nat) (whey : Nat) (widx : Nat)
  /-- WHEEL_ARRIVAL (R410). A wheel passes CRC, decryption, tag check, expansion, quantisation and re-layout, or fails with a status. -/
  | wheelArrival (load : Nat) (bytes : Bytes)
  /-- WGT_HOST_TMO_EXPIRY (R415). No wheel arrives within WGT_HOST_TMO and the load ends TIMEOUT. -/
  | wgtHostTmoExpiry (load : Nat)
  /-- WGT_EXPECT (R417). A member declares an object it will keep from a broadcast. -/
  | wgtExpect (h : Hdr) (handle : Nat) (objId : Nat) (fmt : Nat) (whey : Nat) (widx : Nat)
  /-- WGT_BCAST (R417). Starts a broadcast from a reader's cave region to expecting members. -/
  | wgtBcast (h : Hdr) (group : Nat) (reader : Nat) (region : Nat) (entry : Nat) (mask : Nat)
  /-- BROADCAST_WHEEL (R418). A member receives a broadcast wheel, checks its CRC, forwards it to children and verifies it if expected. -/
  | broadcastWheel (load : Nat) (k : Nat) (bytes : Bytes)
  /-- WGT_WHEEL_TMO_EXPIRY (R419). A broadcast wheel is missing after WGT_WHEEL_TMO and recovery starts. -/
  | wgtWheelTmoExpiry (load : Nat) (k : Nat)
  /-- DIRECT_REQUEST_TIMEOUT (R419). No valid wheel within 100 ms of a direct request; one more is sent or the broadcast ends TIMEOUT. -/
  | directRequestTimeout (load : Nat) (k : Nat)
  /-- BROADCAST_MEMBER_REPORT (R420). The coordinator receives a member's report that all its wheels verified and sends LOAD_DONE when all have reported. -/
  | broadcastMemberReport (load : Nat) (src : Nat) (rereq : Nat) (direct : Nat)
  /-- WGT_GRANT (R421). Grants another collection read use of an object. -/
  | wgtGrant (h : Hdr) (handle : Nat) (grantee : Nat)
  /-- WGT_REVOKE (R422). Removes a grant. -/
  | wgtRevoke (h : Hdr) (handle : Nat) (grantee : Nat)
  /-- ADP_LOAD (R424). Writes an adapter slot with a READY adapter object. -/
  | adpLoad (h : Hdr) (slot : Nat) (handle : Nat)
  /-- ADP_FREE (R424). Empties an adapter slot. -/
  | adpFree (h : Hdr) (slot : Nat)
  /-- ADP_PUBLISH (R426). Rounds training state to BF16 into an adapter object and makes it READY. -/
  | adpPublish (h : Hdr) (train : Nat) (layout : Nat) (adapter : Nat)
  /-- ADP_EXPORT (R426). Seals an adapter as wheels and sends them to the host. -/
  | adpExport (h : Hdr) (handle : Nat)
  /-- WGT_REPLACE (R428). Starts a layer-wise weight replacement and increases the generation of its services. -/
  | wgtReplace (h : Hdr) (plan : Nat)
  /-- GROUP_STAGED (R429). All wheels of a replacement group have verified into the staging reservation. -/
  | groupStaged (k : Nat)
  /-- FLIP (R430). A staged group with no older-generation user flips to the new content and releases held steps. -/
  | flip (k : Nat)
  /-- WGT_RESUME (R434). Resumes a stopped replacement with a new plan. -/
  | wgtResume (h : Hdr) (plan : Nat)
  /-- WGT_ABANDON (R434). Abandons a stopped replacement and aborts held instances. -/
  | wgtAbandon (h : Hdr)
  /-- TRAINING_COMPLETE (R440). Port training ends with a lane check and identity exchange, making the link UP, DOWN or MISMATCH. -/
  | trainingComplete (p : Nat) (lanes : Bool) (sysid : Nat) (nbPkg : Nat) (nbPort : Nat)
  /-- TRAINING_RETRY (R440). A port in MISMATCH retrains every 1 s. -/
  | trainingRetry (p : Nat)
  /-- FLIT_RECEIVE (R443). A DATA flit arrives, is checked for CRC and sequence, acknowledged or NAKed, and delivered or forwarded. -/
  | flitReceive (p : Nat) (flit : Bytes)
  /-- NAK (R443). A received NAK makes the transmitter resend from the flit after ACK. -/
  | nak (p : Nat) (ack : Nat)
  /-- LINK_NO_PROGRESS (R443). Eight successive NAKs or 100 µs without ACK progress take the link DOWN to retrain. -/
  | linkNoProgress (p : Nat)
  /-- IDLE_FLIT_SEND (R465). An UP link with nothing to send sends an IDLE flit at least every 100 µs. -/
  | idleFlitSend (p : Nat)
  /-- KEEPALIVE_TIMEOUT (R465). A receiver sees no good flit for 4 ms, declares the link DOWN and sends PORT_DOWN. -/
  | keepaliveTimeout (p : Nat)
  /-- PORT_DOWN (R452). A PORT_DOWN message arrives and the routing table is recomputed and package loss judged. -/
  | portDown (m : Msg) (pkg : Nat) (port : Nat) (nb : Nat)
  /-- CACK (R447). An acknowledgement of a control message stops its resending. -/
  | cack (m : Msg) (acked : Nat)
  /-- CONTROL_RESEND (R447). A control message without CACK within 200 µs is resent with the same SERIAL. -/
  | controlResend (dst : Nat) (serial : Nat)
  /-- START (R238). A member receives START from the coordinator and starts its instance of the group graph. -/
  | start (m : Msg) (gid : Nat) (inst : Nat) (band : Nat) (gen : Nat)
  /-- EDGE (R238). A member receives EDGE, counting as a predecessor completion or SKIPPED. -/
  | edge (m : Msg) (inst : Nat) (edge : Nat) (ok : Bool)
  /-- REPORT (R239). The coordinator receives a member's instance record and reports or starts the next instance once all have reported. -/
  | report (m : Msg) (record : Bytes)
  /-- PACE (R459). A pace notice arrives and stands, withdrawing votes and optionally matching the level. -/
  | pace (m : Msg) (reason : Nat) (rate : Nat) (extra : Nat) (valid : Nat)
  /-- PACE_LAPSE (R459). A pace notice's validity passes and it stops standing. -/
  | paceLapse (src : Nat)
  /-- MANIFEST (R417). A member receives a broadcast manifest. -/
  | manifest (m : Msg) (load : Nat) (reader : Nat) (region : Nat) (entry : Nat) (objId : Nat) (count : Nat) (mask : Nat)
  /-- LOAD_DONE (R420). A member receives LOAD_DONE and makes its broadcast objects READY. -/
  | loadDone (m : Msg) (load : Nat)
  /-- REREQ (R419). A parent receives a re-request and resends the wheel or answers MISS. -/
  | rereq (m : Msg) (load : Nat) (k : Nat)
  /-- MISS (R419). A member receives MISS, counting one failure toward a direct request. -/
  | miss (m : Msg) (load : Nat) (k : Nat)
  /-- DIRECT (R419). The reader receives a direct request and rereads the wheel from its cave. -/
  | direct (m : Msg) (load : Nat) (k : Nat)
  /-- PEER_COPY (R312). A member receives a request for a peer copy of damaged wheels and sends them. -/
  | peerCopy (m : Msg) (objId : Nat) (first : Nat) (count : Nat)
  /-- REMOTE_MOVE_RECEIVE (R456). The destination of a remote move checks, writes the data and answers WRITE_ACK or NOT_STARTED. -/
  | remoteMoveReceive (src : Nat) (vc : Nat) (dstH : Nat) (gid : Nat) (coll : Nat) (off : Nat) (mtag : Nat) (data : Bytes)
  /-- WRITE_ACK (R456). A WRITE_ACK completes or fails a remote move or twin page copy. -/
  | writeAck (m : Msg) (mtag : Nat) (status : Nat)
  /-- REMOTE_MOVE_RETRY (R456). After NOT_STARTED the source sends the move again after 50 µs. -/
  | remoteMoveRetry (id : Nat)
  /-- REMOTE_MOVE_TIMEOUT (R456). A remote move without WRITE_ACK OK for 10 ms fails with TRN_MOVE. -/
  | remoteMoveTimeout (id : Nat)
  /-- TWIN_PAGE_RECEIVE (R461). The partner accepts or refuses a twin page of an accession. -/
  | twinPageReceive (src : Nat) (acc : Nat) (coll : Nat) (la : Nat) (hh : Nat) (k : Nat) (mtag : Nat) (data : Bytes)
  /-- TWIN_STATE (R463). The partner keeps the latest state of a twin accession and answers TWIN_ACK. -/
  | twinState (m : Msg) (acc : Nat) (entry : Bytes) (tpages : Nat) (tokens : List Nat)
  /-- TWIN_ACK (R463). The home queues the row's result records on receipt of TWIN_ACK. -/
  | twinAck (m : Msg) (acc : Nat) (status : Nat)
  /-- CMD_RELAY (R585). A command record from a fabric owner arrives as a control message. -/
  | cmdRelay (m : Msg) (record : Bytes)
  /-- SEC_COLL_OPEN (R481). Opens a FREE collection and generates its X25519 and ML-KEM key pairs. -/
  | secCollOpen (h : Hdr) (coll : Nat)
  /-- SEC_KEY_INSTALL (R482). Unwraps a model key into an OPEN slot, making it KEYED. -/
  | secKeyInstall (h : Hdr) (coll : Nat)
  /-- SEC_COLL_CLOSE (R491). Starts closure of a collection, refusing its work and ending its instances, accessions and loads. -/
  | secCollClose (h : Hdr) (coll : Nat)
  /-- CLOSURE_SCRUB (R491). After the collection's running tasks complete, transfers are dropped, frames purged, data scrubbed, keys zeroed and the closure event sent. -/
  | closureScrub (coll : Nat)
  /-- SEC_FW_STAGE (R479). Writes and verifies a firmware bundle into the inactive slot. -/
  | secFwStage (h : Hdr)
  /-- SEC_FW_DISCARD (R479). Clears UPDATE_STAGED. -/
  | secFwDiscard (h : Hdr)
  /-- SEC_FW_COMMIT (R479). Blows ROLLBACK fuses up to the running SVN. -/
  | secFwCommit (h : Hdr)
  /-- SEC_LIFECYCLE (R495). Moves the lifecycle forward on a valid token and performs a package soft reset. -/
  | secLifecycle (h : Hdr)
  /-- SEC_DEBUG_UNLOCK (R497). Takes an unlock token and opens a D2 session. -/
  | secDebugUnlock (h : Hdr)
  /-- SEC_DEBUG_CLOSE (R496). Closes the D2 session. -/
  | secDebugClose (h : Hdr)
  /-- SEC_CERTS (R474). Returns the DevID and alias certificates. -/
  | secCerts (h : Hdr)
  /-- SEC_DEBUG_NONCE (R498). Returns a fresh 32-byte nonce. -/
  | secDebugNonce (h : Hdr)
  /-- SEC_ATTEST (R486). Returns a signed provenance record. -/
  | secAttest (h : Hdr) (coll : Nat)
  /-- DOMAIN_WAKE_COMPLETE (R504). A waking domain reaches ON after its wake time. -/
  | domainWakeComplete (d : Nat)
  /-- DOMAIN_FALL (R508). After the idle hold with no vote, a domain falls to its deepest allowed state, or the fall is refused. -/
  | domainFall (d : Nat)
  /-- GOVERNOR_LEVEL_CHANGE (R517). The governor chooses a new vat, turner or main-store level from queues, envelope, temperature and caps. -/
  | governorLevelChange (kind : Nat) (c : Nat) (level : Nat) (reason : Nat) (cause : Nat)
  /-- LEVEL_STEP (R519). A level changes by one step, ordering frequency, bias, assist and voltage. -/
  | levelStep (kind : Nat) (c : Nat)
  /-- REGULATOR_SETTLE (R519). The regulator's settle signal lets a step up apply bias and assist and raise the frequency. -/
  | regulatorSettle (kind : Nat) (c : Nat)
  /-- GRADIENT_STEP_DOWN (R520). A cluster hotter than its neighbour by over 20 degrees is lowered one level every 1 ms. -/
  | gradientStepDown (c : Nat)
  /-- ENERGY_INTERVAL (R523). Each 1 µs interval's energy is integrated and attributed to tasks, collections and bands. -/
  | energyInterval (d : Nat) (uj : Nat) (shares : List Share)
  /-- PWR_SHUTDOWN (R529). Owner command that runs the keep sequence. -/
  | pwrShutdown (h : Hdr)
  /-- FAULT_DETECTION (R539). A unit detects a fault at its site and takes the immediate action, entering RECOVERING and queueing the detection. -/
  | faultDetection (site : Nat) (unit : Nat) (mech : Nat) (addr : Nat) (detail : Nat)
  /-- SELF_TEST_COMPLETE (R546). A unit's self-test finishes; a pass leaves RECOVERING, a failure fences. -/
  | selfTestComplete (site : Nat) (unit : Nat) (pass : Bool)
  /-- WATCHDOG_EXPIRY (R542). A unit with pending work makes no progress for 10 ms and a hang is detected. -/
  | watchdogExpiry (site : Nat) (unit : Nat)
  /-- INSTANCE_STALL (R543). An instance with no runnable or waiting task for 10 ms ends ABORTED and is logged. -/
  | instanceStall (g : Nat)
  /-- USB_ATTACH (R561). VBUS_DET rises and the device connects and enumerates. -/
  | usbAttach (link : Nat)
  /-- UNASSIGNED_OPCODE (R568). A command record with an unassigned opcode ends with status OPCODE. -/
  | unassignedOpcode (h : Hdr) (opcode : Nat)
  /-- COMMAND_DATA (R570). The data of an accepted command arrive on its stream. -/
  | commandData (port : Port) (stream : Nat) (bytes : Bytes)
  /-- HOST_DATA_TMO_EXPIRY (R570). A command's data do not arrive within HOST_DATA_TMO and it ends DATA. -/
  | hostDataTmoExpiry (port : Port) (tag : Nat)
  /-- RECORD_SEND (R576). A queued record is sent to its port and queue room returns. -/
  | recordSend (port : Port) (isEvent : Bool)
  /-- CS_READ (R577). Vendor request that reads control-space words. -/
  | csRead (addr : Nat) (len : Nat)
  /-- CS_WRITE (R577). Vendor request that writes control-space words. -/
  | csWrite (addr : Nat) (words : List Nat)
  /-- SET_LAT_TOL (R509). Sets the latency tolerance, taking effect at once. -/
  | setLatTol (us : Nat)
  /-- MGT_DOORBELL (R579). Writing 1 submits the command in MGT_CMD. -/
  | mgtDoorbell (val : Nat)
  /-- ENTDAA (R637). I3C dynamic address assignment moves the management port out of I2C mode. -/
  | entdaa (addr : Nat)
  /-- SETDASA (R637). Assigns a dynamic address from the static address. -/
  | setdasa (addr : Nat)
  /-- OWN_CLAIM (R583). A port claims ownership in an election or after it. -/
  | ownClaim (h : Hdr)
  /-- OWN_RELEASE (R586). The owner gives up ownership and an election opens. -/
  | ownRelease (h : Hdr)
  /-- OWN_HANDOVER (R586). The owner names a target port for handover. -/
  | ownHandover (h : Hdr) (target : Nat)
  /-- OWN_ACCEPT (R586). The target confirms a handover and becomes owner. -/
  | ownAccept (h : Hdr)
  /-- CHG_CHECK (R590). Validates the staged values over the applied ones without changing anything. -/
  | chgCheck (h : Hdr)
  /-- CHG_APPLY (R591). Checks the set and makes it pending, pausing admission until the last step commits. -/
  | chgApply (h : Hdr)
  /-- CHG_DISCARD (R592). Discards the staged set. -/
  | chgDiscard (h : Hdr)
  /-- COLD_START (R596). The cold-start sequence runs boot, measurement, main-store training and clearing, mount, self-tests and reaches READY. -/
  | coldStart (b : BootOut)
  /-- RESET_PACKAGE (R603). Package soft reset that restarts the root. -/
  | resetPackage (h : Hdr)
  /-- RESET_CLUSTER (R604). Resets one cluster: epoch, swap-out, stop tasks, spill, power cycle, self-test and clear fences. -/
  | resetCluster (h : Hdr) (c : Nat)
  /-- VAT_FENCE (R605). Fences a vat after its bound task completes. -/
  | vatFence (h : Hdr) (v : Nat)
  /-- VAT_UNFENCE (R605). Runs a vat's self-test and clears its fence on a pass. -/
  | vatUnfence (h : Hdr) (v : Nat)
  /-- RESET_PORT (R606). Takes a fabric port down, power-cycles it, clears its fence and retrains it. -/
  | resetPort (h : Hdr) (p : Nat)
  /-- VOTES (R611). Monitor reports domain votes and states. -/
  | votes (d : Option Nat)
  /-- LOG (R611). Monitor prints the newest fault-log entries. -/
  | log (n : Nat)
  /-- TRACE_HALT (R612). Halts a turner in a D2 session, ending the guarantee. -/
  | traceHalt (t : Nat)
  /-- TRACE_STEP (R611). Retires one instruction of a halted turner. -/
  | traceStep (t : Nat)
  /-- TRACE_GO (R611). Resumes a halted turner. -/
  | traceGo (t : Nat)
  /-- PEEK_CS (R611). Reads control-space words in a D2 session. -/
  | peekCs (a : Nat) (n : Nat)
  /-- PEEK_DEV (R611). Reads device-address words in a D2 session. -/
  | peekDev (a : Nat) (n : Nat)
  /-- POKE_CS (R611). Writes one control-space word in a D2 session. -/
  | pokeCs (a : Nat) (val : Nat)
  /-- POKE_DEV (R611). Writes one device-address word in a D2 session. -/
  | pokeDev (a : Nat) (val : Nat)
  /-- DUMP_CS (R611). Hex-dumps control-space bytes. -/
  | dumpCs (a : Nat) (n : Nat)
  /-- DUMP_DEV (R611). Hex-dumps device-address bytes. -/
  | dumpDev (a : Nat) (n : Nat)
  /-- UNLOCK_TOKEN (R497). The token lines end with an empty line and the root checks the token to open D2. -/
  | unlockToken (bytes : Bytes)
  /-- THERMAL_TRIP (R641). A sensor at 115 °C clamps, zeroes keys, detaches, switches all but AON off and asserts THERM_TRIP_N. -/
  | thermalTrip (sensor : Nat) (temp : Nat)
  /-- SAMPLE_PRELOAD (R614). TAP instruction sampling or preloading the boundary chain. -/
  | samplePreload (chain : List Bool)
  /-- RESET_N_RISING_EDGE (R603). RESET_N rises, BOOT_MODE is sampled and a held warm reset, or a cold start waiting at step 3, continues from step 3. -/
  | resetNRisingEdge (strap : Nat)
  /-- WAKE_N_DRIVE_END (R635). After driving WAKE_N low for 1 ms to signal an event, the IL-2400 releases the pin and senses it again. -/
  | wakeNDriveEnd (low : Bool)
  /-- CHG_CTRL_CHECK (R590). Writing CHECK to CHG_CTRL runs the change-set check. -/
  | chgCtrlCheck (port : Port)
  /-- CHG_CTRL_APPLY (R591). Writing APPLY to CHG_CTRL applies the change set. -/
  | chgCtrlApply (port : Port)
  /-- CHG_CTRL_DISCARD (R592). Writing DISCARD to CHG_CTRL discards the change set. -/
  | chgCtrlDiscard (port : Port)
  /-- RS_STAGED_WRITE (R589). An owner write to an RS register writes its staged copy and adds it to the set. -/
  | rsStagedWrite (port : Port) (addr : Nat) (val : Nat)
  /-- REGISTER_WRITE (R578). A write to a register with no row of its own takes effect or is ignored or discarded. -/
  | registerWrite (port : Port) (addr : Nat) (val : Nat)
  /-- PWR_OWNER_VOTE (R507). An owner write sets or clears the OWNER vote of domains. -/
  | pwrOwnerVote (port : Port) (w : Nat) (val : Nat)
  /-- PWR_LAT_TOL (R509). An owner write sets the latency tolerance at once. -/
  | pwrLatTol (port : Port) (val : Nat)
  /-- VAT_CNT_CLR (R124). Clears a vat's counters. -/
  | vatCntClr (port : Port) (v : Nat) (val : Nat)
  /-- TRN_CNT_CLR (R200). Clears a turner's counters. -/
  | trnCntClr (port : Port) (t : Nat) (val : Nat)
  /-- GRA_CNT_CLR (R240). Clears the graph engine counters. -/
  | graCntClr (port : Port) (val : Nat)
  /-- OBJ_CNT_CLR (R280). Clears the object counters. -/
  | objCntClr (port : Port) (val : Nat)
  /-- CAVE_CNT_CLR (R317). Clears the cave counters. -/
  | caveCntClr (port : Port) (val : Nat)
  /-- DX_CNT_CLR (R339). Clears a DMA engine's counters. -/
  | dxCntClr (port : Port) (e : Nat) (val : Nat)
  /-- KVE_CNT_CLR (R380). Clears the KV engine counters. -/
  | kveCntClr (port : Port) (val : Nat)
  /-- ACC_CNT_CLR (R404). Clears the accession counters. -/
  | accCntClr (port : Port) (val : Nat)
  /-- WGT_CNT_CLR (R435). Clears the weight counters. -/
  | wgtCntClr (port : Port) (val : Nat)
  /-- FAB_CNT_CLR (R468). Clears the fabric counters. -/
  | fabCntClr (port : Port) (val : Nat)
  /-- SEC_CNT_CLR (R502). Clears the security counters. -/
  | secCntClr (port : Port) (val : Nat)
  /-- FLT_CNT_CLR (R559). Clears the fault counters. -/
  | fltCntClr (port : Port) (val : Nat)
  /-- PWR_CNT_CLR (R532). Clears the refused and aborted fall counts. -/
  | pwrCntClr (port : Port) (val : Nat)
  /-- THR_CLR (R533). Clears the registers of selected throttle reasons. -/
  | thrClr (port : Port) (val : Nat)
  /-- NRG_CLR (R534). Zeroes every energy counter. -/
  | nrgClr (port : Port) (val : Nat)
  /-- SLICE_END (R305). A recovery slice expires or runs out of work and pending relocations pause. -/
  | sliceEnd
  /-- READ_COUNTER_CHECKPOINT (R300). Read counters are checkpointed to the journal every 60 s. -/
  | readCounterCheckpoint
  /-- STEP_ADMISSION (R388). The accession engine admits the next step by deficit round-robin, writes descriptor and span lists and submits the instance. -/
  | stepAdmission
  /-- DEADLINE_COUNTDOWN (R400). At each always-on tick every accession's deadline countdown decreases by 1, stopping at 0. -/
  | deadlineCountdown
  /-- PACE_RESEND (R458). A standing notice is resent after half of its validity. -/
  | paceResend
  /-- CMD_REPLY (R585). A reply, record or event returns to the fabric owner as a control message. -/
  | cmdReply
  /-- NONCE_LAPSE (R498). An outstanding nonce lapses after 60 s. -/
  | nonceLapse
  /-- NONCE_LOCK_END (R498). The 60 s refusal of nonces after 3 failed attempts ends. -/
  | nonceLockEnd
  /-- D2_SESSION_EXPIRY (R496). A D2 session's token time elapses and the level returns to D1 or D0. -/
  | d2SessionExpiry
  /-- FW_FALLBACK (R478). A staged slot does not reach READY within 1.5 s, the package resets onto the previous slot and the event is sent. -/
  | fwFallback
  /-- PACKAGE_STATE_ENTRY (R512). The package enters the deepest of ACTIVE, IDLE, NAP and SLEEP whose conditions hold. -/
  | packageStateEntry
  /-- WAKE_N (R514). WAKE_N held low wakes the package, or after PWR_SHUTDOWN starts a cold boot. -/
  | wakeN
  /-- I3C_TRANSFER_IN_SLEEP (R514). A transfer to the package's address in SLEEP is NACKed and wakes the package. -/
  | i3cTransferInSleep
  /-- XTAL_STABLE (R515). The 32.768 kHz crystal becomes stable and AON moves onto it. -/
  | xtalStable
  /-- XTAL_FAIL (R515). The crystal fails or stops, AON returns to the RC oscillator and the event is sent. -/
  | xtalFail
  /-- SUPPLY_LOW (R521). VIN below 6.0 V for 100 µs reduces power to a third of the envelope. -/
  | supplyLow
  /-- COOLANT_LOST (R526). COOLANT_OK low for 100 µs with COOLANT_EN set stops compute clocks and holds every accession. -/
  | coolantLost
  /-- COOLANT_RESTORED (R527). COOLANT_OK has been high for 10 ms and the event is sent. -/
  | coolantRestored
  /-- KEEP_SEQUENCE (R529). VIN below 5.6 V or PWR_SHUTDOWN clamps the package, writes a keep record, zeroes keys and turns everything OFF. -/
  | keepSequence
  /-- VIN_RETURN (R530). VIN back at 6.0 V for 10 ms after a supply-loss keep sequence starts a cold boot. -/
  | vinReturn
  /-- FAULT_ENTRY_HANDLED (R553). The fault manager logs a queued detection, counts it toward fencing, starts the self-test, fences and sends FAULT. -/
  | faultEntryHandled
  /-- USB_DETACH (R588). USB detaches; its accessions are cancelled, records discarded, fetches failed and ownership lapses. -/
  | usbDetach
  /-- USB_BUS_RESET (R587). A USB bus or warm reset makes USB ownership lapse. -/
  | usbBusReset
  /-- USB_SUSPEND (R512). The USB link enters U3 or USB 2.0 suspend. -/
  | usbSuspend
  /-- USB_RESUME (R514). USB resume signalling wakes the package. -/
  | usbResume
  /-- MGT_REC (R579). A read returns and removes the head record of the management record queue. -/
  | mgtRec
  /-- MGT_EVT (R579). A read returns and removes the head event of the management event queue. -/
  | mgtEvt
  /-- MGT_OWNERSHIP_LAPSE (R587). 2 s with no transfer to the device makes management ownership lapse. -/
  | mgtOwnershipLapse
  /-- RSTDAA (R637). Resets the dynamic address and returns the port to I2C mode. -/
  | rstdaa
  /-- HANDOVER_TIMEOUT (R586). No OWN_ACCEPT within 1 s; the handover ends STATE. -/
  | handoverTimeout
  /-- ELECTION_CLOSE (R583). The 50 ms election window closes and the highest-ranked claimant becomes owner. -/
  | electionClose
  /-- OWN_CTRL_CLAIM (R585). Monitor writes CLAIM to OWN_CTRL. -/
  | ownCtrlClaim
  /-- OWN_CTRL_RELEASE (R585). Monitor writes RELEASE to OWN_CTRL. -/
  | ownCtrlRelease
  /-- CHG_DISCARDED (R592). A change set 10 s old with no pending apply is discarded. -/
  | chgDiscarded
  /-- VSTBY_VALID (R596). VSTBY becomes valid and a cold start begins. -/
  | vstbyValid
  /-- VSTBY_INVALID (R626). VSTBY becomes invalid; with VIN present the keep sequence runs and the package stays unpowered. -/
  | vstbyInvalid
  /-- RESET_N (R603). RESET_N low starts a warm reset, or wakes a package left OFF. -/
  | resetN
  /-- MONITOR_SESSION_TIMEOUT (R609). 600 s without a received character ends the monitor session. -/
  | monitorSessionTimeout
  /-- WAKE_CHARACTER (R613). The character 0x16 received in SLEEP wakes the package and the monitor answers OK wake. -/
  | wakeCharacter
  /-- HELP (R611). Monitor lists the commands allowed at the present level. -/
  | help
  /-- ID (R611). Monitor reports identity, SVN, slot, lifecycle and serial. -/
  | id
  /-- STATE (R611). Monitor reports package, boot, owner, change-set and debug state. -/
  | state
  /-- THROTTLE (R611). Monitor reports the THR registers. -/
  | throttle
  /-- ENERGY (R611). Monitor reports the NRG registers. -/
  | energy
  /-- FAULTS (R611). Monitor reports fault status and fenced units. -/
  | faults
  /-- TRACE_ON (R611). Monitor starts mirroring event records as text. -/
  | traceOn
  /-- TRACE_OFF (R611). Monitor stops mirroring event records. -/
  | traceOff
  /-- CLAIM (R611). Monitor claims ownership. -/
  | claim
  /-- RELEASE (R611). Monitor gives up ownership, closes any D2 session and ends the session. -/
  | release
  /-- UNLOCK (R611). Monitor replies with a fresh nonce and awaits a token. -/
  | unlock
  /-- WAKE (R611). Monitor resumes a MONITOR_HOLD boot or reports the package state. -/
  | wake
  /-- BYPASS (R614). TAP instruction selecting the bypass register. -/
  | bypass
  /-- IDCODE (R614). TAP instruction reading the identification code. -/
  | idcode
  /-- EXTEST (R614). TAP instruction driving pins from the chain while RESET_N is low. -/
  | extest
  /-- CLAMP (R614). TAP instruction holding outputs while bypassing, while RESET_N is low. -/
  | clamp
  /-- HIGHZ (R614). TAP instruction placing outputs in high impedance while RESET_N is low. -/
  | highz
  /-- VIN_FIRST_AT_6V (R596). At power-up with VSTBY already valid, VIN first reaches 6.0 V and the cold start proceeds past step 2. -/
  | vinFirstAt6v
  /-- VIO18_LOSS (R621). With VSTBY valid, VIO18 falls below 1.5 V and the 1.8 V inputs are taken at fixed values, with COOLANT_OK low. -/
  | vio18Loss
  /-- VIO18_RETURN (R621). VIO18 rises back to 1.5 V or more and the 1.8 V inputs are taken from their balls again. -/
  | vio18Return
  /-- HDR_ENTRY (R637). On HDR entry on the I3C bus the management port stops responding to bus traffic until the HDR exit pattern. -/
  | hdrEntry
  /-- HDR_EXIT_PATTERN (R637). The HDR exit pattern on the I3C bus returns the management port to taking SDR transfers. -/
  | hdrExitPattern
deriving DecidableEq, Repr

end Sys2Proof
end

