-- ==== Sys2Proof/Decode.lean ====
section
/-! DEFINITION. The decoder of table words. The table gives its rows operands and no bits (the encodings of the turner
and vat instructions stand in R85-R108 and R162-R193, and the meanings of those rows read the fields). -/

namespace Sys2Proof

/-- The command that a word of the table's bits spells: none, since no row of the table gives bits. -/
def decodeTableWord (_nbits _w : Nat) : Option Instr := none

end Sys2Proof
end

