-- ==== Sys2Proof/Config.lean ====
section
/-! DEFINITION. What one implementation fixes, and the free values: the constants without a body stand for values
the manual leaves open (notes/assumptions/3.md) or for named cryptographic standards (notes/assumptions/10.md). -/

namespace Sys2Proof.Config

open Sys2Proof

/-- The free value number `n`: where the manual names no value, the machine takes the next of these.
`State.fresh` counts how many have been taken (notes/assumptions/3.md). -/
opaque free : Nat → Nat

/-- R183: the bit-exact EXP2 mapping of a finite FP32 input with −126 ≤ x < 128 (notes/assumptions/11.md). -/
opaque exp2 : BitVec 32 → BitVec 32

/-- R183: the bit-exact RCP mapping (notes/assumptions/11.md). -/
opaque rcp : BitVec 32 → BitVec 32

/-- R183: the bit-exact RSQRT mapping (notes/assumptions/11.md). -/
opaque rsqrt : BitVec 32 → BitVec 32

/-- R183: the bit-exact LOG2 mapping (notes/assumptions/11.md). -/
opaque log2 : BitVec 32 → BitVec 32

/-- R470, R498: bytes drawn from the TRNG, draw number `n`, `k` bytes. -/
opaque trng : Nat → Nat → Bytes

/-- R408: AES-256-GCM opening: key, nonce, additional data, ciphertext, tag; `none` where the tag does not verify. -/
opaque gcmOpen : Bytes → Bytes → Bytes → Bytes → Bytes → Option Bytes

/-- R426: AES-256-GCM sealing: key, nonce, additional data, plaintext; ciphertext and tag. -/
opaque gcmSeal : Bytes → Bytes → Bytes → Bytes → Bytes × Bytes

/-- R473, R475, R476: SHA-384. -/
opaque sha384 : Bytes → Bytes

/-- R473, R482: HKDF-SHA-384: salt, input keying material, info, length. -/
opaque hkdf : Bytes → Bytes → Bytes → Nat → Bytes

/-- R482: X25519 of a private key and a public key. -/
opaque x25519 : Bytes → Bytes → Bytes

/-- R481: the X25519 public key of a private key. -/
opaque x25519Pub : Bytes → Bytes

/-- R482: ML-KEM-768 decapsulation: private key, ciphertext. -/
opaque kemDecap : Bytes → Bytes → Bytes

/-- R481: the ML-KEM-768 public key of a private key. -/
opaque kemPub : Bytes → Bytes

/-- R473: the Ed25519 public key of a seed. -/
opaque edPub : Bytes → Bytes

/-- R473: the ML-DSA-65 public key of a seed. -/
opaque mlPub : Bytes → Bytes

/-- R486: an Ed25519 signature: seed, message. -/
opaque edSign : Bytes → Bytes → Bytes

/-- R486: an ML-DSA-65 signature: seed, context string, message. -/
opaque mlSign : Bytes → Bytes → Bytes → Bytes

/-- R477, R497: Ed25519 verification: public key, message, signature. -/
opaque edVerify : Bytes → Bytes → Bytes → Bool

/-- R477, R497: ML-DSA-65 verification: public key, context string, message, signature. -/
opaque mlVerify : Bytes → Bytes → Bytes → Bytes → Bool

/-- R471: the unique device secret; only the boot ROM reads it. -/
opaque uds : Bytes

/-- R494: the digests of the Holzova signers in the boot ROM: `true` for the test signer; Ed25519 and ML-DSA-65. -/
opaque holzovaSigner : Bool → Bytes × Bytes

/-- R495: the Holzova authority digests in the boot ROM. -/
opaque holzovaAuthority : Bytes × Bytes

/-- R471: the DEV_SIGNER digests in OTP. -/
opaque devSigner : Bytes × Bytes

/-- R471: DEBUG_AUTH entry `a`; `none` while unwritten. -/
opaque debugAuth : Nat → Option (Bytes × Bytes)

/-- R474: the Holzova certificates of the DevID keys and the form of the alias certificate, given both public keys. -/
opaque certs : Bytes → Bytes

/-- R614: the silicon revision in IDCODE, and the manufacturer field of the BSDL file (notes/assumptions/17.md). -/
opaque idcodeFields : BitVec 4 × BitVec 11

/-- R382, R385: whether a resident decode graph proposes drafts: the manual does not say where a graph object
carries that property (notes/assumptions/16.md). -/
opaque proposesDrafts : Bytes → Bool

/-- R441, R447: the collection with which a control message of a TYPE is tagged (notes/assumptions/36.md). -/
opaque ctlColl : Nat → Nat

/-- R441, R418: the collection with which a package tags a wheel of an OBJ_ID that it neither holds nor expects
(notes/assumptions/36.md). -/
opaque wheelColl : Nat → Nat

end Sys2Proof.Config
end

