-- ==== Sys2Proof/Machine/State.lean ====
section
/-! DEFINITION. Everything the manual gives the IL-2400 as state, as plain data, and the state after reset.
Every field's docstring names the rule that gives it and its value at reset; DESIGN CHOICE marks a value the manual
does not give (the log entry follows in brackets). -/

namespace Sys2Proof.Machine

open Sys2Proof

/-- A memory: (address, byte) pairs, addresses strictly rising, no zero byte listed; an unlisted byte reads 0. -/
abbrev Memory := List Host.Cell

/-- A table: (key, value) pairs in rising key order; a key not listed has the table's default. -/
abbrev Tab (α : Type) := List (Nat × α)

/-- A task: resident graph number and index within the graph (R202). -/
structure TaskRef where
  /-- graph number, 0-63 -/
  g : Nat
  /-- task index, 0-16,383 -/
  i : Nat
deriving DecidableEq, Repr, Inhabited

/-! ## Vats (chapters 03 and 04) -/

/-- R91: the mode tag of an accumulator entry. -/
inductive Tag where
  /-- after a CLEAR, a draining CLR or a binding -/
  | empty
  /-- after a Q4Q8 or Q8Q8 STREAM -/
  | int32
  /-- after a BF16 STREAM or a SCAN -/
  | fp32
deriving DecidableEq, Repr, Inhabited

/-- R78: one weight buffer. -/
structure WBuf where
  /-- R93; bool; reset false. A STREAM from an invalid buffer is an exception. -/
  valid : Bool
  /-- R82, R91; 2 bits; reset 0 (DESIGN CHOICE [7]). The mode in which it was loaded. -/
  mode : Nat
  /-- R48, R51, R84; the tile record as bytes from offset 0; reset empty (DESIGN CHOICE [7]). -/
  tile : Memory
  /-- R86; the whey entries loaded with a Q4 tile, BF16 values; reset empty (DESIGN CHOICE [7]). -/
  whey : List Nat
deriving DecidableEq, Repr, Inhabited

/-- R116: a residue comparison not yet made: row of the pass, slice, the two residues. -/
structure Resid where
  /-- accumulator entry of the activation row -/
  row : Nat
  /-- slice 0-7 -/
  slice : Nat
  /-- S_i of R116 -/
  s : Nat
  /-- C_i of R116 -/
  c : Nat
deriving DecidableEq, Repr, Inhabited

/-- R77-R125, R139-R154: one vat. -/
structure Vat where
  /-- R78; weight buffer 0; reset invalid. -/
  buf0 : WBuf
  /-- R78; weight buffer 1; reset invalid. -/
  buf1 : WBuf
  /-- R79; accumulator file 64 × 512 × 32 bits, key 512·entry + column; reset 0 (DESIGN CHOICE [7]). -/
  acc : Tab Nat
  /-- R91; 64 mode tags; reset empty (DESIGN CHOICE [7]). -/
  tags : List Tag
  /-- R79; carry row 512 × 32 bits; reset 0 (DESIGN CHOICE [7]). -/
  carry : Tab Nat
  /-- R151; shadow row 512 × 32 bits; reset 0 (DESIGN CHOICE [7]). -/
  shadow : Tab Nat
  /-- R154 VAT_CARRY_MAP, R140; per column group the carry object resident there; reset none. -/
  held : List (Option Nat)
  /-- R79, R111; command queue, at most 32 commands of 128 bits; reset empty. -/
  queue : List (BitVec 128)
  /-- R111; commands of a VAT task's list that the graph engine has not yet fed; reset empty. -/
  feed : List (BitVec 128)
  /-- R110; the bound task; reset none. -/
  bound : Option TaskRef
  /-- R110; the turner whose task holds the binding, if a turner task does; reset none. -/
  byTurner : Option Nat
  /-- R124 VAT_STATUS.STATE; 3 bits; reset 1 (GATED). -/
  state : Nat
  /-- R124 VAT_STATUS.MODE; 2 bits; reset 0. -/
  mode : Nat
  /-- R116; residue comparisons outstanding; reset empty. -/
  resid : List Resid
  /-- R108; the slices whose next comparison an INJECT corrupts; reset none. -/
  inject : List Nat
  /-- R120, R121; its request for a grant found the window's exits used up, and it waits; reset false. -/
  late : Bool
  /-- R124 VAT_PASSES; 64 bits; reset 0. -/
  passes : Nat
  /-- R124 VAT_CHK_DET; 32 bits; reset 0. -/
  chkDet : Nat
  /-- R124 VAT_GRANT_WAIT; 32 bits; reset 0. -/
  grantWait : Nat
  /-- R124 VAT_IDLE_EXITS; 32 bits; reset 0. -/
  idleExits : Nat
  /-- R154 VAT_SWAPS; 32 bits; reset 0. -/
  swaps : Nat
  /-- R154 VAT_SWAPS_FORCED; 32 bits; reset 0. -/
  swapsForced : Nat
  /-- R74; saturation counter, 32 bits; reset 0 (DESIGN CHOICE [7]). -/
  sat : Nat
  /-- R74; NaN flag; reset false (DESIGN CHOICE [7]). -/
  nan : Bool
deriving DecidableEq, Repr, Inhabited

/-! ## Turners (chapter 05) -/

/-- R184: the top-k buffer after a TKINIT: k and the entries (value, index) in order. -/
structure TopK where
  /-- 1-64 -/
  k : Nat
  /-- FP32 bit pattern and index, best first -/
  ents : List (Nat × Nat)
deriving DecidableEq, Repr, Inhabited

/-- What a stalled turner waits for. -/
inductive TrnWait where
  /-- nothing -/
  | none
  /-- R111: VISSUE stalled with this command -/
  | vissue (w : BitVec 128)
  /-- R189: DISSUE stalled at 16 moves -/
  | dissue (at_ : Nat)
  /-- R190: SWAIT on this counter and threshold -/
  | swait (cnt thr : Nat)
  /-- R191: SSIG of this counter, until the work issued is done -/
  | ssig (cnt : Nat)
  /-- R192: TEND, until the work issued is done -/
  | tend
  /-- R192: TYIELD on this counter and threshold, until the work issued is done -/
  | tyield (cnt thr : Nat)
deriving DecidableEq, Repr, Inhabited

/-- R155-R201: one turner. -/
structure Turner where
  /-- R155 s0-s31; 32 × 64 bits; reset 0 (DESIGN CHOICE [7]); index 0 is never written. -/
  sreg : List DWord
  /-- R155 v0-v31; 32 × 512 bits; reset 0 (DESIGN CHOICE [7]). -/
  vreg : List VReg
  /-- R155 p0-p7; 8 × 64 bits; p1-p7 reset 0 (DESIGN CHOICE [7]); index 0 is never read. -/
  preg : List DWord
  /-- R155 program counter; 32 bits; reset 0 (DESIGN CHOICE [7]). -/
  pc : Word
  /-- R155 scratch; 64 KiB; reset 0 (DESIGN CHOICE [6]). -/
  scratch : Memory
  /-- R155, R184 top-k buffer, none before a TKINIT; reset none (R157 empties it). -/
  topk : Option TopK
  /-- R200 TRN_STATUS.STATE; 3 bits; reset 1 (GATED). -/
  state : Nat
  /-- R200 TRN_STATUS.BOUND, GRAPH, TASK; reset none. -/
  bound : Option TaskRef
  /-- R200 TRN_STATUS.VATB, R158 SR_VAT; the bound vat; reset none. -/
  vat : Option Nat
  /-- R111, R189, R190; what it waits for; reset none. -/
  wait : TrnWait
  /-- R157; collection of the previous task; reset none. -/
  lastColl : Option Nat
  /-- R157; has left OFF since its last task; reset true (DESIGN CHOICE [7]). -/
  wasOff : Bool
  /-- R158 SR_SATCNT, R74; 32 bits; reset 0. -/
  sat : Nat
  /-- R158 SR_NANF, R74; reset false. -/
  nan : Bool
  /-- R200 TRN_RETIRED; 64 bits; reset 0. -/
  retired : Nat
  /-- R200 TRN_LANE_DET; 32 bits; reset 0. -/
  laneDet : Nat
  /-- R200 TRN_EXC_LAST; 8 bits; reset 0. -/
  excLast : Nat
  /-- R200 TRN_TASKS; 32 bits; reset 0. -/
  tasks : Nat
  /-- R611 trace halt; reset false. -/
  halted : Bool
deriving DecidableEq, Repr, Inhabited

/-- R193: what the graph engine saves of a suspended task. -/
structure Saved where
  /-- scalar registers -/
  sreg : List DWord
  /-- vector registers -/
  vreg : List VReg
  /-- predicate registers -/
  preg : List DWord
  /-- program counter -/
  pc : Word
  /-- counter awaited -/
  cnt : Nat
  /-- its threshold -/
  thr : Nat
deriving DecidableEq, Repr, Inhabited

/-! ## Graph engine (chapter 06) -/

/-- R188: a 32-byte move request. -/
structure MoveReq where
  /-- source handle -/
  srcH : Nat
  /-- destination handle -/
  dstH : Nat
  /-- source offset -/
  srcOff : Nat
  /-- destination offset -/
  dstOff : Nat
  /-- bytes to move -/
  len : Nat
  /-- transform 0-2 -/
  xf : Nat
  /-- FLAGS byte -/
  flags : Nat
  /-- SYNC half-word -/
  sync : Nat
deriving DecidableEq, Repr, Inhabited

/-- R208: a task descriptor, field by field. -/
structure Desc where
  /-- KIND -/
  kind : Nat
  /-- FLAGS byte -/
  flags : Nat
  /-- AFFINITY byte -/
  affinity : Nat
  /-- COUNTS.NPRED -/
  npred : Nat
  /-- COUNTS.NOPND -/
  nopnd : Nat
  /-- KERNEL word -/
  kernel : Nat
  /-- BUDGET -/
  budget : Nat
  /-- STRM byte -/
  strm : Nat
  /-- WMASK byte -/
  wmask : Nat
  /-- DONE_SYNC half-word -/
  doneSync : Nat
  /-- OPND0-OPND7 -/
  opnd : List Nat
  /-- PRED0-PRED7 -/
  pred : List Nat
  /-- the move request of a MOVE or FETCH task -/
  req : MoveReq
deriving DecidableEq, Repr, Inhabited

/-- R237: an edge table entry. -/
structure EdgeE where
  /-- SRC_MEMB -/
  srcM : Nat
  /-- DST_MEMB -/
  dstM : Nat
  /-- SRC_TASK -/
  srcT : Nat
  /-- DST_TASK -/
  dstT : Nat
deriving DecidableEq, Repr, Inhabited

/-- Where a task of a started instance stands. -/
inductive TStat where
  /-- not yet requested -/
  | idle
  /-- R259: its residency request waits for a pin -/
  | pinWait
  /-- R214, R268: its residency request is made and waits -/
  | requested
  /-- R268: its operands are being brought in or are resident -/
  | granted
  /-- R213, R216: ready, in a ready queue or at a DMA engine -/
  | ready
  /-- bound to a unit -/
  | running
  /-- R193: suspended by TYIELD -/
  | suspended
  /-- R229: ended with this status code -/
  | ended (status : Nat)
deriving DecidableEq, Repr, Inhabited

/-- R222, R228: one task of a started instance. -/
structure Run where
  /-- its standing; reset idle -/
  st : TStat
  /-- R215: its cluster; reset 0 -/
  cluster : Nat
  /-- R228 UNIT; 0xFF while none -/
  unit : Nat
  /-- R228 ATTEMPTS; started attempts -/
  attempts : Nat
  /-- R222: units on which an attempt was detected faulty -/
  bad : List Nat
  /-- R228 EXC -/
  exc : Nat
  /-- R228 PC -/
  pc : Nat
  /-- R228 SATCNT -/
  sat : Nat
  /-- R228 INFO.NANF -/
  nan : Bool
  /-- R228 INFO.OVER_BUDGET -/
  overB : Bool
  /-- R240: it has been counted in GRA_OVER_BUDGET -/
  overOnce : Bool
  /-- R228 INFO.CHECK_SEEN -/
  checkSeen : Bool
  /-- R228 CS_WAIT: cycles of grant wait in this attempt (R121) -/
  csWait : Nat
  /-- R192: the user code of a TRAP -/
  userCode : Nat
  /-- R161: signals made to each counter, the most in any earlier attempt -/
  sigBest : Tab Nat
  /-- R161: signals made to each counter in this attempt -/
  sigNow : Tab Nat
  /-- R191: moves issued by the task and not completed -/
  moves : Nat
  /-- R193: registers of a suspended task -/
  saved : Option Saved
  /-- R238: edges that have arrived (edge index, OK) -/
  edges : List (Nat × Bool)
  /-- R223, R234: its body has ended and its completion point is reached -/
  atEnd : Bool
  /-- R221: it was stolen and goes to the head of its band when it is ready again -/
  stolen : Bool
  /-- R216: one more than the tick in which it became ready; 0 where it went to the head of its band -/
  readyAt : Nat
deriving DecidableEq, Repr, Inhabited

/-- R205: an instance of a graph. -/
structure Inst where
  /-- R232 SERIAL -/
  serial : Nat
  /-- band 0-3 -/
  band : Nat
  /-- completion object handle -/
  comp : Nat
  /-- binding object handle -/
  binding : Nat
  /-- R205: the copied binding table -/
  binds : List Nat
  /-- port of the GRAPH_RUN (R575) -/
  port : Port
  /-- TAG of the GRAPH_RUN -/
  tag : Nat
  /-- it is a step instance of the accession engine -/
  isStep : Bool
  /-- R427: weight generation -/
  gen : Nat
  /-- tasks, in index order; empty while queued -/
  runs : List Run
  /-- tick at its start (R232 DURATION) -/
  start : Nat
  /-- R231, R239, R543: how it ends early: 0 no, 1 abort or drop, 2 closure, 3 lost, 4 stall -/
  early : Nat
  /-- R207, R239: REASON with which the coordinator's own part was refused; 0 none -/
  reason : Nat
deriving DecidableEq, Repr, Inhabited

/-- R203, R204: a resident graph. -/
structure Graph where
  /-- the graph object -/
  handle : Nat
  /-- owning collection -/
  coll : Nat
  /-- CNT_BASE -/
  cntBase : Nat
  /-- CNT_COUNT -/
  cntCount : Nat
  /-- NPARAM -/
  nparam : Nat
  /-- FLAGS.GROUP -/
  group : Bool
  /-- R453: group number of its GRAPH_LOAD -/
  gnum : Nat
  /-- NMEMB -/
  nmemb : Nat
  /-- MEMBER -/
  member : Nat
  /-- GROUP_ID -/
  gid : Nat
  /-- descriptors -/
  tasks : List Desc
  /-- edge table -/
  edges : List EdgeE
  /-- R204: its drop is in progress, with the command that asked -/
  drop : Option (Port × Nat)
  /-- R206: queued instances, first in first out -/
  queue : List Inst
  /-- R206: the running instance -/
  run : Option Inst
  /-- R232: next instance serial -/
  serial : Nat
  /-- R239, R454: members whose REPORT of the present instance has arrived, with their records -/
  reports : List (Nat × Bytes)
  /-- R238: START messages that have arrived and started nothing yet: serial, band, generation -/
  starts : List (Nat × Nat × Nat)
  /-- R238: EDGE messages that have arrived for an instance not yet started: serial, edge, OK -/
  early : List (Nat × Nat × Bool)
deriving DecidableEq, Repr, Inhabited

/-- R202-R240: the graph engine. -/
structure Gra where
  /-- R204 resident graphs by number; reset none (GRA_GRAPHS, GRA_SLOTS_FREE and GRA_CNT_FREE follow from it). -/
  graphs : Tab Graph
  /-- R216 eight TURNER ready queues; reset empty. -/
  rqT : List (List TaskRef)
  /-- R216 eight VAT ready queues; reset empty. -/
  rqV : List (List TaskRef)
  /-- R268 eight queues of waiting residency requests; reset empty. -/
  resQ : List (List TaskRef)
  /-- R240 GRA_INSTANCES; 64 bits; reset 0. -/
  instances : Nat
  /-- R240 GRA_TASKS; 64 bits; reset 0. -/
  tasks : Nat
  /-- R240 GRA_STEALS_SIB; 32 bits; reset 0. -/
  stealsSib : Nat
  /-- R240 GRA_STEALS_FAR; 32 bits; reset 0. -/
  stealsFar : Nat
  /-- R240 GRA_REEXEC; 32 bits; reset 0. -/
  reexec : Nat
  /-- R240 GRA_HANGS; 32 bits; reset 0. -/
  hangs : Nat
  /-- R240 GRA_OVER_BUDGET; 32 bits; reset 0. -/
  overB : Nat
  /-- R144 streams with their state: carry object → 0 STORED, 1 LOADING, 2 RESIDENT, 3 SWAPPING, and the vat;
  4 a forced SWAPPING; an object not listed is STORED; reset none. -/
  streams : Tab (Nat × Nat)
  /-- R147 streams with a deferred swap, and the chunk that must complete first; reset none. -/
  deferred : List (Nat × TaskRef)
  /-- R148 streams whose forced swap waits for the end of the running chunk; reset none. -/
  forced : List Nat
  /-- R145 swap requests that found the stream LOADING: stream, forced; reset none. -/
  swapWait : List (Nat × Bool)
deriving DecidableEq, Repr, Inhabited

/-! ## Objects, moves, fetches (chapter 07) -/

/-- R246: an object table entry. -/
structure Obj where
  /-- GEN of its handle -/
  gen : Nat
  /-- KIND byte -/
  kind : Nat
  /-- COLL -/
  coll : Nat
  /-- LSTATE -/
  lstate : Nat
  /-- FLAGS.DAMAGED -/
  damaged : Bool
  /-- FLAGS.CLOSING -/
  closing : Bool
  /-- FLAGS.FREEING -/
  freeing : Bool
  /-- SIZE -/
  size : Nat
  /-- DBASE -/
  dbase : Nat
  /-- HOME -/
  home : Nat
  /-- RES bit 0 -/
  res : Bool
  /-- NSMASK as eight near-store offsets, `none` where the cluster holds no copy and none is being written -/
  ns : List (Option Nat)
  /-- NSMASK -/
  nsmask : Nat
  /-- PLACE byte -/
  place : Nat
  /-- MSTATE -/
  mstate : Nat
  /-- NSPROM -/
  nsprom : Nat
  /-- NSEVICT -/
  nsevict : Nat
  /-- LAST -/
  last : Nat
  /-- PINCNT -/
  pins : Nat
  /-- HOMEREF -/
  homeref : Nat
  /-- directory entry of a home-CAVE object (R296) -/
  dirEntry : Nat
  /-- R270, R271: order of last use (a larger number is later) -/
  used : Nat
  /-- R415: format it was loaded in: 0 BYTES, 1 Q4, 2 Q8W, 3 KERNEL; 4 not loaded -/
  fmt : Nat
deriving DecidableEq, Repr, Inhabited

/-- R260: a migration request on one position. -/
structure MigReq where
  /-- object index -/
  idx : Nat
  /-- position 0 MAIN, 1 + c NEAR(c) -/
  pos : Nat
  /-- true for an eviction -/
  evict : Bool
  /-- R575: the command that asked (port, TAG), or none -/
  cmd : Option (Port × Nat)
  /-- in progress (true) or waiting (false) -/
  active : Bool
  /-- R262: wait field -/
  wait : Nat
  /-- R262: RESTARTED -/
  restarted : Bool
  /-- tier code of the source of a promotion, 0xFF before it starts -/
  src : Nat
  /-- R258: the position of the copy chosen as its source, none where it is the home copy -/
  from_ : Option Nat
  /-- R214: the task whose residency request it is part of -/
  task : Option TaskRef
  /-- R272: the move whose implicit promotion it is -/
  move : Option Nat
  /-- R262, R268: it waits for near-store space -/
  space : Bool
  /-- R19, R339: the DMA engine that carries it, and its bytes -/
  dx : Option (Nat × Nat)
  /-- R299: the pages (set, stripe, channel) of the cave that it waits for -/
  pages : List (Nat × Nat × Nat)
deriving DecidableEq, Repr, Inhabited

/-- Who issued a move. -/
inductive MoveBy where
  /-- a turner's DISSUE -/
  | turner (t : Nat) (task : TaskRef)
  /-- a MOVE or FETCH task -/
  | task (task : TaskRef)
deriving DecidableEq, Repr, Inhabited

/-- R188, R272: a move issued and not completed. -/
structure Move where
  /-- move number -/
  id : Nat
  /-- the request, parameters resolved -/
  req : MoveReq
  /-- issuer -/
  by_ : MoveBy
  /-- issuing cluster, or none for a MOVE or FETCH task -/
  cluster : Option Nat
  /-- collection of the issuing task -/
  coll : Nat
  /-- rounding-mode bit of the issuing task -/
  rm : Nat
  /-- DMA engine once started -/
  engine : Option Nat
  /-- R338: the engine it has been given to before it starts -/
  given : Option Nat
  /-- R272: it waits for a promotion -/
  waiting : Bool
  /-- R259: it waits for a pin -/
  pinWait : Bool
  /-- R544: engines on which a run failed -/
  bad : List Nat
  /-- R456: sent to a remote member and awaiting WRITE_ACK -/
  remote : Bool
  /-- R194: offset of the DISSUE that issued it, 0 for a MOVE or FETCH task -/
  pc : Nat
deriving DecidableEq, Repr, Inhabited

/-- R275: a fetch. -/
structure Fetch where
  /-- internal number -/
  id : Nat
  /-- FETCH_ID once posted -/
  fid : Option Nat
  /-- STREAM once posted -/
  stream : Nat
  /-- HANDLE -/
  handle : Nat
  /-- FORM -/
  form : Nat
  /-- START -/
  start : Nat
  /-- COUNT -/
  count : Nat
  /-- ATTEMPT -/
  attempt : Nat
  /-- bytes received -/
  got : Bytes
  /-- the position a promotion fills, or none for a FETCH task or a direct move -/
  pos : Option Nat
  /-- the move it serves -/
  move : Option Nat
  /-- SEALED: bytes of the object that earlier fetches of the same promotion have given -/
  cover : Nat
deriving DecidableEq, Repr, Inhabited

/-- R198: a kernel that reached status OK, as the loader placed it. -/
structure Kernel where
  /-- kernel object handle -/
  handle : Nat
  /-- near-store offset of the native body in every cluster's code area -/
  base : Nat
  /-- length of the native body in bytes -/
  len : Nat
  /-- ENTRY -/
  entry : Nat
  /-- VAT -/
  vat : Nat
  /-- NOPND -/
  nopnd : Nat
  /-- SCRATCH -/
  scratch : Nat
deriving DecidableEq, Repr, Inhabited

/-- R241-R281: object table and migration engine. -/
structure Objs where
  /-- R245 live entries by INDEX; reset none (OBJ_COUNT, OBJ_FREE_ENTRIES, OBJ_MAIN_RESERVED follow). -/
  tab : Tab Obj
  /-- R245 last generation used by each index; reset none. -/
  gens : Tab Nat
  /-- R260 migration requests, oldest first; reset none. -/
  mig : List MigReq
  /-- R272 moves issued and not completed, oldest first; reset none. -/
  moves : List Move
  /-- next move number; reset 0. -/
  nextMove : Nat
  /-- R275 fetches needed or outstanding, oldest first; reset none. -/
  fetches : List Fetch
  /-- next internal fetch number; reset 0. -/
  nextFetch : Nat
  /-- R275 next FETCH_ID in rotation; reset 0. -/
  nextFid : Nat
  /-- R276 streams inside the 100 ms after a FETCH_CANCEL; reset none. -/
  holds : List Nat
  /-- R198 kernels placed; reset none. -/
  kernels : List Kernel
  /-- R421 grants (object index, grantee); reset none (WGT_GRANTS follows). -/
  grants : List (Nat × Nat)
  /-- order counter of uses (R270); reset 0. -/
  useSeq : Nat
  /-- R280 OBJ_PROMOTIONS; 64 bits; reset 0. -/
  promotions : Nat
  /-- R280 OBJ_EVICTIONS; 64 bits; reset 0. -/
  evictions : Nat
  /-- R280 OBJ_SPILLS; 32 bits; reset 0. -/
  spills : Nat
  /-- R280 OBJ_COLLIDE; 32 bits; reset 0. -/
  collide : Nat
  /-- R280 OBJ_ALLOC_FAIL; 32 bits; reset 0. -/
  allocFail : Nat
  /-- R280 OBJ_LAST_FAIL; 8 bits; reset 0. -/
  lastFail : Nat
  /-- R280 OBJ_SEL; 15 bits; reset 0. -/
  sel : Nat
deriving DecidableEq, Repr, Inhabited

/-! ## The cave (chapter 08) -/

/-- R289, R290, R318: a region. -/
structure Region where
  /-- STATE -/
  state : Nat
  /-- COLL -/
  coll : Nat
  /-- block sets held, in fill order -/
  sets : List Nat
  /-- R290 directory entries: first wheel, count, expanded size -/
  dir : List (Nat × Nat × Nat)
  /-- R290 wheel index: offset, length -/
  wheels : List (Nat × Nat)
  /-- R318 DATA_LEN -/
  dataLen : Nat
  /-- the data, by data offset -/
  data : Memory
  /-- FLAGS.DAMAGED -/
  damaged : Bool
  /-- FLAGS.SLICE_REQ -/
  sliceReq : Bool
  /-- SEAL_SEQ -/
  sealSeq : Nat
  /-- R294: a program operation failed and its channel had no spare left -/
  noSpare : Bool
deriving DecidableEq, Repr, Inhabited

/-- R306: a block that is being relocated to a spare block of its channel. -/
structure Reloc where
  /-- block set -/
  set : Nat
  /-- channel -/
  ch : Nat
  /-- the spare block -/
  blk : Nat
  /-- stripes of it that a page read has served already -/
  read : List Nat
deriving DecidableEq, Repr, Inhabited

/-- R287, R315: an entry of the translation-layer journal. -/
inductive JEntry where
  /-- R295, R297: a region takes a state -/
  | region (n st : Nat)
  /-- R294, R307: a place of the map, by block set and channel, takes a block -/
  | block (set ch blk : Nat)
  /-- R294: a block is retired -/
  | retire (ch blk : Nat)
  /-- R487: the package epoch -/
  | epoch (n : Nat)
  /-- R487: the epoch of a cluster -/
  | cluster (c n : Nat)
deriving DecidableEq, Repr, Inhabited

/-- R282-R318: the cave and its translation layer. A block is the key 32·block + channel; block sets are mapped to blocks. -/
structure Cave where
  /-- R314, R317 CAVE_STATE.MODE; reset 0. -/
  mode : Nat
  /-- R317 CAVE_STATE.MOUNTED; reset false. -/
  mounted : Bool
  /-- R317 CAVE_STATE.KEEP_FOUND; reset false. -/
  keepFound : Bool
  /-- R305 slice in progress: exclusive or shared (SLICE_EXCL), ms granted, tick of the grant; reset none. -/
  slice : Option (Bool × Nat × Nat)
  /-- R289 regions by number; reset none. -/
  regions : Tab Region
  /-- R284, R298 the map of places 32·set + channel to blocks; one not listed has block 6 + set; reset none. -/
  map : Tab Nat
  /-- R286, R294 places (set, channel) without a good block; reset none (DESIGN CHOICE [5]). -/
  dead : List (Nat × Nat)
  /-- R300 block read counters; reset 0. -/
  reads : Tab Nat
  /-- R315 the counter of every block that `reads` does not list; reset 0. -/
  readBase : Nat
  /-- R300 checkpointed read counters; reset 0. -/
  ckpt : Tab Nat
  /-- R300 the checkpointed counter of every block that `ckpt` does not list; reset 0. -/
  ckptBase : Nat
  /-- R287 journal entries since the last checkpoint (region states, places of the map, retired blocks, reset epochs), at
  most 4,096; reset none. -/
  journal : List JEntry
  /-- R287 the journal's block set, 4 or 5; reset 4 (DESIGN CHOICE [5]). -/
  jset : Nat
  /-- R287, R288 the current keep set, 2 or 3; reset 2 (DESIGN CHOICE [5]). -/
  keepSet : Nat
  /-- R288 stripes of it that records hold; reset 0 (DESIGN CHOICE [5]). -/
  keepUsed : Nat
  /-- R315 the journal's length when the newest keep record was written; none where a checkpoint is newer; reset none. -/
  keepMark : Option Nat
  /-- R283, R317 spare blocks left of each channel; reset 992 to 1,023 each (R283, -B). -/
  spares : List (List Nat)
  /-- R294, R317 retired blocks of each channel; reset none (DESIGN CHOICE [5]). -/
  retired : List (List Nat)
  /-- R302, R311 blocks (set, channel) queued for relocation; reset none. -/
  relocQ : List (Nat × Nat)
  /-- R306 blocks being relocated; reset none. -/
  relocating : List Reloc
  /-- R307 blocks copied, whose map has not flipped; reset none. -/
  copied : List Reloc
  /-- R311 repair cache: pages (set, stripe, channel) and their bytes; reset none. -/
  repair : List ((Nat × Nat × Nat) × Bytes)
  /-- R312 damaged pages (set, stripe, channel); reset none. -/
  bad : List (Nat × Nat × Nat)
  /-- R310 pages in the ladder: (set, stripe, channel), step 1 or 2; reset none. -/
  ladder : List ((Nat × Nat × Nat) × Nat)
  /-- R312 promotions waiting for a peer copy: object index, members already asked; reset none. -/
  peerWait : List (Nat × List Nat)
  /-- R312 peer copies of damaged wheels that have arrived: object index, wheel within the object, bytes; reset none. -/
  peerGot : List (Nat × Nat × Bytes)
  /-- R295 next seal sequence number; reset 0 (DESIGN CHOICE [7]). -/
  sealSeq : Nat
  /-- R317 CAVE_READS; 64 bits; reset 0. -/
  nReads : Nat
  /-- R317 CAVE_RETRIES; 32 bits; reset 0. -/
  retries : Nat
  /-- R317 CAVE_REBUILDS; 32 bits; reset 0. -/
  rebuilds : Nat
  /-- R316 retries of each channel in the last CAVE_SCAN READ; reset 0. -/
  chRetries : List Nat
  /-- R316 rebuilds of each channel in the last CAVE_SCAN READ; reset 0. -/
  chRebuilds : List Nat
  /-- R317 CAVE_DAMAGED; 32 bits; reset 0. -/
  damaged : Nat
  /-- R317 CAVE_RELOCS; 32 bits; reset 0. -/
  relocs : Nat
  /-- R317 CAVE_RD_OVER; 32 bits; reset 0. -/
  rdOver : Nat
  /-- R317 CAVE_ERASE_MAX as erase counts per block; reset 0 (DESIGN CHOICE [5]). -/
  erases : Tab Nat
  /-- R317 CAVE_SEL; 10 bits; reset 0. -/
  sel : Nat
deriving DecidableEq, Repr, Inhabited

/-! ## Expanders and decode tables (chapter 09) -/

/-- R339: one DMA engine. -/
structure Dx where
  /-- DX_STATUS.STATE; reset 1 (GATED). -/
  state : Nat
  /-- DX_STATUS.QUEUED in bytes; reset 0. -/
  queued : Nat
  /-- DX_BYTES_IN; 64 bits; reset 0. -/
  bytesIn : Nat
  /-- DX_BYTES_OUT; 64 bits; reset 0. -/
  bytesOut : Nat
  /-- DX_RAW_FRAMES; 32 bits; reset 0. -/
  rawFrames : Nat
  /-- DX_DET; 32 bits; reset 0. -/
  det : Nat
  /-- DX_STALL; 32 bits; reset 0. -/
  stall : Nat
  /-- DX_MOVED; 32 bits; reset 0. -/
  moved : Nat
deriving DecidableEq, Repr, Inhabited

/-- R332: one decode-table slot. -/
structure Slot where
  /-- STATE: 0 FREE, 1 LOADING, 2 CURRENT, 3 RETIRING; reset 0. -/
  state : Nat
  /-- VERSION; reset 0. -/
  version : Nat
  /-- FREQ, 256 entries; reset empty. -/
  freq : List Nat
deriving DecidableEq, Repr, Inhabited

/-- R332-R340: the table set. -/
structure Cmp where
  /-- R340 eight slots; reset FREE. -/
  slots : List Slot
  /-- R335 waiting table commands: port, TAG, old slot of a replace, table bytes; reset none. -/
  waiting : List (Port × Nat × Option Nat × Bytes)
  /-- R340 CMP_WAITS; 32 bits; reset 0. -/
  waits : Nat
  /-- R340 CMP_TABLE_FAIL; 32 bits; reset 0. -/
  tableFail : Nat
deriving DecidableEq, Repr, Inhabited

/-! ## KV engine (chapter 10) -/

/-- R346: a catalogue entry that is not FREE. -/
structure Page where
  /-- FRAME number within the class -/
  frame : Nat
  /-- CLASS -/
  cls : Nat
  /-- NEXT page number -/
  next : Nat
  /-- LAST -/
  last : Bool
  /-- ACC -/
  acc : Nat
  /-- COLL -/
  coll : Nat
  /-- STATE: 1 RESERVED, 2 VALID, 3 FREEING -/
  state : Nat
  /-- INDEX -/
  index : Nat
  /-- FLAGS.TWIN -/
  twin : Bool
  /-- FLAGS.TWIN_DONE -/
  twinDone : Bool
  /-- R541: marked damaged -/
  damaged : Bool
deriving DecidableEq, Repr, Inhabited

/-- R358: a hoop table entry that is VALID. -/
structure Hoop where
  /-- ACC -/
  acc : Nat
  /-- CLASS -/
  cls : Nat
  /-- CLUSTER -/
  cluster : Nat
  /-- PRESSING, with the page taken -/
  pressing : Option Nat
  /-- R365: that pressing has entered PAGE_WAIT and was served later -/
  waited : Bool
  /-- PAGE_WAIT -/
  pageWait : Bool
  /-- HEAD -/
  head : Nat
  /-- COMMIT -/
  commit : Nat
  /-- STEP -/
  step : Nat
  /-- BASE in units of 4,096 bytes -/
  base : Nat
  /-- BASEPOS -/
  basePos : Nat
  /-- R541: marked damaged -/
  damaged : Bool
deriving DecidableEq, Repr, Inhabited

/-- R375: a request in PAGE_WAIT. -/
structure PageReq where
  /-- accession -/
  acc : Nat
  /-- class -/
  cls : Nat
  /-- pages it still needs -/
  need : Nat
  /-- cause: false FRAMES, true QUOTA -/
  quota : Bool
  /-- a prefill reservation (true) or a pressing (false) -/
  prefill : Bool
deriving DecidableEq, Repr, Inhabited

/-- R341-R381: the KV engine. -/
structure Kve where
  /-- R346 catalogue by page number; reset all FREE. -/
  pages : Tab Page
  /-- R342 page frame bytes, key (class·2^20 + frame)·2^24 + byte; reset 0. -/
  frames : Memory
  /-- R344 extents, those of a class in the order of its frame numbers: class, first byte within the page region, frames; reset none. -/
  extents : List (Nat × Nat × Nat)
  /-- R358 hoop table by entry; reset none VALID. -/
  hoops : Tab Hoop
  /-- R375 waiting requests in order of entry; reset none (KVE_WAITERS follows). -/
  waiters : List PageReq
  /-- R379 codes outstanding per class: low sent, critical sent; reset none. -/
  lowSent : List Nat
  /-- R379 classes whose PAGES_CRITICAL stands; reset none. -/
  critSent : List Nat
  /-- R379 accessions for which HOOP_WAIT has been sent; reset none. -/
  hoopSent : List Nat
  /-- R380 KVE_LAST_FAIL; 4 bits; reset 0. -/
  lastFail : Nat
  /-- R380 KVE_PRESSINGS; 64 bits; reset 0. -/
  pressings : Nat
  /-- R380 KVE_PAGE_WAITS; 32 bits; reset 0. -/
  pageWaits : Nat
  /-- R380 KVE_RECLAIMS; 32 bits; reset 0. -/
  reclaims : Nat
  /-- R380 KVE_TRUNCATED; 32 bits; reset 0. -/
  truncated : Nat
  /-- R380 KVE_VIEW_DENIED; 32 bits; reset 0. -/
  viewDenied : Nat
  /-- R380 KVE_HOOP_WAITS; 32 bits; reset 0. -/
  hoopWaits : Nat
  /-- R380 KVE_SPAN_FULL; 32 bits; reset 0. -/
  spanFull : Nat
  /-- R380 KVE_HSEL; 12 bits; reset 0. -/
  hsel : Nat
deriving DecidableEq, Repr, Inhabited

/-! ## Accession engine (chapter 11) -/

/-- R384: an accession entry that is not FREE, and what the engine keeps beside it. -/
structure Acc where
  /-- STATE -/
  state : Nat
  /-- FLAGS.INSTEP -/
  instep : Bool
  /-- FLAGS.CANCEL_PEND, with the commands that wait (port, TAG) -/
  cancel : List (Port × Nat)
  /-- FLAGS.SUSP_PEND -/
  susp : Bool
  /-- FLAGS.LATE -/
  late : Bool
  /-- FLAGS.TWIN -/
  twin : Bool
  /-- FLAGS.GREEDY -/
  greedy : Bool
  /-- POLICY.BAND -/
  band : Nat
  /-- POLICY.DL_SOFT -/
  dlSoft : Bool
  /-- POLICY.GENPOL -/
  genpol : Nat
  /-- COLL -/
  coll : Nat
  /-- SERVICE -/
  service : Nat
  /-- ADAPTER -/
  adapter : Nat
  /-- STOPSET -/
  stopset : Nat
  /-- PREV: the state before HELD -/
  prev : Nat
  /-- the state before SUSPENDED, kept while HELD hides it -/
  prevSusp : Nat
  /-- LENGTH -/
  length : Nat
  /-- PHEAD; none where NONE is set -/
  phead : Option Nat
  /-- PTAIL -/
  ptail : Option Nat
  /-- HOOP -/
  hoop : Option Nat
  /-- TOPK -/
  topk : Nat
  /-- DRAFTS.d -/
  drafts : Nat
  /-- DRAFTS.DRAFT_MAX -/
  draftMax : Nat
  /-- TEMP -/
  temp : Nat
  /-- TOPP -/
  topp : Nat
  /-- DEADLINE -/
  deadline : Nat
  /-- SEED -/
  seed : Nat
  /-- TAG -/
  tag : Nat
  /-- NEWTOK -/
  newtok : Nat
  /-- MAXNEW -/
  maxnew : Nat
  /-- GEN -/
  gen : Nat
  /-- PROMPT -/
  prompt : Nat
  /-- ACCEPTED -/
  accepted : Nat
  /-- prompt length N, kept after LENGTH changes (R402) -/
  promptN : Nat
  /-- it has passed its prefill commit point (R401) -/
  past : Bool
  /-- R575: port of its ACC_SUBMIT -/
  port : Port
  /-- R389: order of acceptance -/
  seq : Nat
  /-- R377: order of first admission, 0 before it -/
  firstAdm : Nat
  /-- R391, R396, R463: the tokens at the positions up to and including n, newest last, at most 41; the last NEWTOK of
  them were emitted -/
  hist : List Nat
  /-- R464: re-created from twin pages: the position of the first saved token that is to be prefilled again -/
  resume : Option Nat
  /-- R394: drafts for the next step -/
  nextX : List Nat
  /-- R401, R402: the next record is the first of a new run after a RESTART -/
  restarted : Bool
  /-- R385: an entry accepted and not yet QUEUED: 1 its data are awaited, 2 its tokens are being written; else 0 -/
  arriving : Nat
  /-- R463: result records held until TWIN_ACK, as (row token list, flags) raw records -/
  heldRecs : List Bytes
  /-- R386, R588: USB has detached while its step was in flight: it ends CANCELLED when the step commits or ends -/
  gone : Bool
deriving DecidableEq, Repr, Inhabited

/-- R382: a service record written by ACC_SERVICE. -/
structure Svc where
  /-- VALID -/
  valid : Bool
  /-- DGRAPH -/
  dgraph : Nat
  /-- PGRAPH -/
  pgraph : Nat
  /-- CLASS -/
  cls : Nat
  /-- BATCH_MAX -/
  batchMax : Nat
  /-- PREFILL_MAX -/
  prefillMax : Nat
  /-- VOCAB -/
  vocab : Nat
  /-- D_DESC, D_SPAN, D_RES, D_BIND -/
  d : List Nat
  /-- P_DESC, P_SPAN, P_RES, P_BIND -/
  p : List Nat
  /-- D_COMP -/
  dComp : Nat
  /-- P_COMP -/
  pComp : Nat
  /-- owning collection -/
  coll : Nat
deriving DecidableEq, Repr, Inhabited

/-- A row of a step in flight (R391). -/
structure Row where
  /-- accession -/
  acc : Nat
  /-- hoop entry -/
  hoop : Nat
  /-- drafts of the row -/
  d : Nat
  /-- draft tokens x1 to xd; for a prefill row the last prompt tokens, at most 40 -/
  xs : List Nat
  /-- first step position -/
  pos0 : Nat
  /-- step positions -/
  npos : Nat
deriving DecidableEq, Repr, Inhabited

/-- A step between its admission and its commit point. -/
structure Step where
  /-- service -/
  svc : Nat
  /-- 0 decode, 1 prefill -/
  kind : Nat
  /-- graph number -/
  graph : Nat
  /-- step serial (R391) -/
  serial : Nat
  /-- serial of its instance (R232) -/
  inst : Nat
  /-- weight generation (R427) -/
  gen : Nat
  /-- rows in order -/
  rows : List Row
  /-- R398: status of its ended instance once it has ended, with how it ended early -/
  done : Option (Nat × Nat)
deriving DecidableEq, Repr, Inhabited

/-- R382-R405: the accession engine. -/
structure AccEng where
  /-- R384 table, entries not FREE; reset all FREE (ACC_NSTATE follows). -/
  tab : Tab Acc
  /-- R382 services; reset none written (ACC_SVC reads 0). -/
  svcs : Tab Svc
  /-- R396 stop sets: end ids and sequences; reset none written. -/
  stops : Tab (List Nat × List (List Nat))
  /-- R388 steps in flight; reset none (ACC_INFLIGHT follows). -/
  steps : List Step
  /-- R388, R404 deficits; reset 0. -/
  deficit : Tab Nat
  /-- R388 collection served last, 63 before the first; reset 63 (DESIGN CHOICE [7]). -/
  lastColl : Nat
  /-- R391 next step serial, key 2·service + kind; reset 0. -/
  serials : Tab Nat
  /-- R404 ACC_HOLD bit 0; reset false. -/
  holdAll : Bool
  /-- R404 ACC_HOLD bit 1; reset false. -/
  holdCool : Bool
  /-- acceptance order counter; reset 0. -/
  seq : Nat
  /-- R434 services that take no step: stopped or abandoned replacement; reset none. -/
  blocked : List Nat
  /-- R404 ACC_SUBMITTED; 64 bits; reset 0. -/
  submitted : Nat
  /-- R404 ACC_STEPS; 64 bits; reset 0. -/
  nsteps : Nat
  /-- R404 ACC_TOKENS; 64 bits; reset 0. -/
  tokens : Nat
  /-- R404 ACC_DRAFTS_PROP; 64 bits; reset 0. -/
  draftsProp : Nat
  /-- R404 ACC_DRAFTS_ACC; 64 bits; reset 0. -/
  draftsAcc : Nat
  /-- R404 ACC_EXPIRED; 32 bits; reset 0. -/
  expired : Nat
  /-- R404 ACC_LATE; 32 bits; reset 0. -/
  lateTok : Nat
  /-- R404 ACC_CANCELS; 32 bits; reset 0. -/
  cancels : Nat
  /-- R404 ACC_TOO_LATE; 32 bits; reset 0. -/
  tooLate : Nat
deriving DecidableEq, Repr, Inhabited

/-! ## Weights (chapter 12) -/

/-- R412: what a verified wheel holds back until its tile is complete. -/
structure TilePart where
  /-- tile index -/
  tile : Nat
  /-- first column -/
  c0 : Nat
  /-- columns -/
  ncol : Nat
  /-- block headers of its columns, in block order -/
  headers : List Nat
  /-- whey entries generated, in order -/
  whey : List Nat
deriving DecidableEq, Repr, Inhabited

/-- R415, R417: a load or an expected broadcast. -/
structure Load where
  /-- object handle -/
  handle : Nat
  /-- whey-list handle or 0 -/
  whey : Nat
  /-- whey-index handle or 0 -/
  widx : Nat
  /-- format: 0 BYTES, 1 Q4, 2 Q8W, 3 KERNEL -/
  fmt : Nat
  /-- wheel count; 0 until a manifest gives it -/
  count : Nat
  /-- stream of a host load -/
  stream : Nat
  /-- OBJ_ID once known -/
  objId : Option Nat
  /-- port and TAG of the command -/
  port : Port
  /-- its TAG -/
  tag : Nat
  /-- broadcast (true) or host load (false) -/
  bcast : Bool
  /-- R417 manifest: load number of the coordinator, once it has arrived -/
  mload : Option Nat
  /-- wheels verified -/
  done : List Nat
  /-- failures per wheel -/
  fails : Tab Nat
  /-- tile parts held back -/
  parts : List TilePart
  /-- R43: the ranges of its object that wheels AS_IS have given: first byte, bytes -/
  spans : List (Nat × Nat)
  /-- ESCAPES -/
  escapes : Nat
  /-- SATCNT -/
  sat : Nat
  /-- NANF -/
  nan : Bool
  /-- RETRIES -/
  retries : Nat
  /-- REREQ -/
  rereq : Nat
  /-- DIRECT -/
  direct : Nat
  /-- R419: direct requests made for the wheel being recovered -/
  directNow : Nat
deriving DecidableEq, Repr, Inhabited

/-- R417: what a manifest tells a member of a broadcast (notes/assumptions/27.md). -/
structure Man where
  /-- group -/
  group : Nat
  /-- reader member (package number) -/
  reader : Nat
  /-- region of the reader's cave -/
  region : Nat
  /-- directory entry -/
  entry : Nat
  /-- OBJ_ID -/
  objId : Nat
  /-- wheel count -/
  count : Nat
  /-- expecting mask over packages -/
  mask : Nat
deriving DecidableEq, Repr, Inhabited

/-- R417: a broadcast this package coordinates. -/
structure Bcast where
  /-- group -/
  group : Nat
  /-- reader member (package number) -/
  reader : Nat
  /-- region of the reader's cave -/
  region : Nat
  /-- directory entry -/
  entry : Nat
  /-- expecting mask over packages -/
  mask : Nat
  /-- members that have reported -/
  reported : List Nat
  /-- REREQ summed -/
  rereq : Nat
  /-- DIRECT summed -/
  direct : Nat
  /-- port of the command -/
  port : Port
  /-- its TAG -/
  tag : Nat
deriving DecidableEq, Repr, Inhabited

/-- R428: an object of a replacement plan. -/
structure PlanE where
  /-- GROUP -/
  group : Nat
  /-- SRC: 0 host stream, 1 cave region -/
  src : Nat
  /-- STREAM or REGION -/
  where_ : Nat
  /-- HANDLE -/
  handle : Nat
  /-- ENTRY -/
  entry : Nat
  /-- R415, R429: wheels of a host stream that have verified, by arrival -/
  wheels : List Bytes
  /-- R415: failures per wheel of a host stream -/
  fails : Tab Nat
  /-- staged content by object offset -/
  data : Memory
deriving DecidableEq, Repr, Inhabited

/-- R428-R434: a replacement. -/
structure Repl where
  /-- SVC mask -/
  svcs : Nat
  /-- NGROUP -/
  ngroup : Nat
  /-- entries -/
  plan : List PlanE
  /-- R429: groups staged -/
  stagedG : List Nat
  /-- R430: groups flipped -/
  flippedG : List Nat
  /-- stopped (R434) -/
  stopped : Bool
  /-- collection that owns the objects -/
  coll : Nat
  /-- bytes of the staging reservation (R429) -/
  staging : Nat
deriving DecidableEq, Repr, Inhabited

/-- R436: an adapter slot that is READY. -/
structure Adapter where
  /-- COLL -/
  coll : Nat
  /-- RANK -/
  rank : Nat
  /-- HANDLE -/
  handle : Nat
  /-- ALPHA -/
  alpha : Nat
deriving DecidableEq, Repr, Inhabited

/-- R406-R437: loads, sharing and replacement. -/
structure Wgt where
  /-- R415 loads by LOAD_ID; reset none. -/
  loads : Tab Load
  /-- R417 broadcasts coordinated here, by load number; reset none. -/
  bcasts : Tab Bcast
  /-- R417 manifests of running broadcasts, by load number; reset none. -/
  mans : Tab Man
  /-- R419 direct requests that wait for a peer's copy: load, wheel, requester; reset none. -/
  directs : List (Nat × Nat × Nat)
  /-- R418 retransmit buffer: load, wheel, bytes; newest last; at most 256; reset empty. -/
  rtx : List (Nat × Nat × Bytes)
  /-- R427, R435 WGT_GEN_s; reset 1 each. -/
  gens : List Nat
  /-- R428, R435 WGT_STATE: replacement running or stopped; reset none. -/
  repl : Option Repl
  /-- R436 adapter slots; reset FREE. -/
  adapters : Tab Adapter
  /-- R435 WGT_HELD; instances held; reset 0. -/
  held : List TaskRef
  /-- R435 WGT_WHEELS; 64 bits; reset 0. -/
  wheels : Nat
  /-- R435 WGT_FAILED; 32 bits; reset 0. -/
  failed : Nat
  /-- R435 WGT_REREQ; 32 bits; reset 0. -/
  rereq : Nat
  /-- R435 WGT_DIRECT; 32 bits; reset 0. -/
  direct : Nat
  /-- R435 WGT_SWAPS; 32 bits; reset 0. -/
  swaps : Nat
  /-- R435 WGT_DUPLICATE; 32 bits; reset 0. -/
  duplicate : Nat
  /-- R435 ADP_SEL; 6 bits; reset 0. -/
  sel : Nat
deriving DecidableEq, Repr, Inhabited

/-! ## Fabric (chapter 13) -/

/-- R441: the fields of a DATA flit kept by a port. -/
structure Flit where
  /-- SEQ -/
  seq : Nat
  /-- VC -/
  vc : Nat
  /-- DCL -/
  dcl : Nat
  /-- COLL -/
  coll : Nat
  /-- FIRST -/
  first : Bool
  /-- LAST -/
  last : Bool
  /-- SRC -/
  src : Nat
  /-- DST -/
  dst : Nat
  /-- TTL -/
  ttl : Nat
  /-- payload bytes used -/
  data : Bytes
deriving DecidableEq, Repr, Inhabited

/-- R442: what tells the frames under way on a virtual channel of a link apart. -/
structure FrameKey where
  /-- virtual channel -/
  vc : Nat
  /-- source package -/
  src : Nat
  /-- destination package -/
  dst : Nat
deriving DecidableEq, Repr, Inhabited

/-- R441: the header of a flit. -/
structure FlitHdr where
  /-- SEQ -/
  seq : Nat
  /-- ACK -/
  ack : Nat
  /-- VC -/
  vc : Nat
  /-- DCL -/
  dcl : Nat
  /-- CCL -/
  ccl : Nat
  /-- TYPE -/
  ty : Nat
  /-- COLL -/
  coll : Nat
  /-- FIRST -/
  first : Bool
  /-- LAST -/
  last : Bool
  /-- SRC -/
  src : Nat
  /-- DST -/
  dst : Nat
  /-- LEN -/
  len : Nat
  /-- TTL -/
  ttl : Nat
  /-- CREDIT -/
  credit : Nat
deriving DecidableEq, Repr, Inhabited

/-- R438-R467: one fabric port. -/
structure FPort where
  /-- R439 STATE; reset 0 (DISABLED). -/
  state : Nat
  /-- R468 neighbour package; reset 0. -/
  nbPkg : Nat
  /-- R468 neighbour port; reset 0. -/
  nbPort : Nat
  /-- R468 link-down count; reset 0. -/
  downs : Nat
  /-- R441 next SEQ to send; 12 bits; reset 0 (DESIGN CHOICE [7]). -/
  txSeq : Nat
  /-- R443 retransmit buffer: DATA flits sent and not acknowledged; reset empty. -/
  rtx : List Flit
  /-- R441 next SEQ expected; 12 bits; reset 0 (DESIGN CHOICE [7]). -/
  rxSeq : Nat
  /-- R443 NAKs in succession for the flit expected next by the neighbour; reset 0. -/
  nakRun : Nat
  /-- R443 a NAK has been sent and the flit it asks for has not come yet; reset false. -/
  retry : Bool
  /-- R442 frames being received, by virtual channel; reset empty. -/
  frames : Tab Bytes
  /-- R511 flits held in link-keep mode; reset empty. -/
  heldRx : List Flit
  /-- R441 credits to return, key 4·class + VC; reset 0. -/
  credit : Tab Nat
  /-- R445 credits held for sending, key 4·class + VC; reset 0 (DESIGN CHOICE [7]). -/
  sendCr : Tab Nat
  /-- flits waiting to be sent, by order; reset empty. -/
  txQ : List Flit
  /-- R442 frames partly sent here, at most one a virtual channel; reset empty. -/
  openTx : List FrameKey
  /-- R442, R452 frames partly received here and passed on, each with its output port; reset empty. -/
  passing : List (Nat × FrameKey)
  /-- R445 the slot of the round of eight that channels 1 to 3 share; reset 0 (DESIGN CHOICE [36]). -/
  slot : Nat
  /-- R467 detections of the last second (ticks); reset empty. -/
  dets : List Nat
  /-- R441 the class whose credits the next header returns where both have some; reset 0 (DESIGN CHOICE [36]). -/
  ccl : Nat
  /-- flits put on the wire, headers and payloads, newest first; reset empty. -/
  wire : List (FlitHdr × Bytes)
deriving DecidableEq, Repr, Inhabited

/-- R447: a control message this package has sent and that is not yet acknowledged. -/
structure CMsg where
  /-- destination package -/
  dst : Nat
  /-- TYPE code of R447 and R585 -/
  ty : Nat
  /-- GROUP -/
  group : Nat
  /-- SERIAL -/
  serial : Nat
  /-- the body's fields in the order the manual names them -/
  body : List Nat
deriving DecidableEq, Repr, Inhabited

/-- R459: a standing pace notice. -/
structure PaceN where
  /-- sender -/
  src : Nat
  /-- REASON -/
  reason : Nat
  /-- RATE -/
  rate : Nat
  /-- EXTRA -/
  extra : Nat
  /-- VALID -/
  valid : Nat
deriving DecidableEq, Repr, Inhabited

/-- R463: what the partner keeps of a twin accession. -/
structure Twin where
  /-- home package -/
  home : Nat
  /-- accession index at home -/
  acc : Nat
  /-- the 64-byte accession entry -/
  entry : Bytes
  /-- T -/
  tpages : Nat
  /-- saved tokens -/
  tokens : List Nat
  /-- twin pages held, in page order -/
  pages : List Nat
  /-- collection -/
  coll : Nat
deriving DecidableEq, Repr, Inhabited

/-- R438-R469: the fabric block. -/
structure Fab where
  /-- R438 six ports; reset DISABLED. -/
  ports : List FPort
  /-- R468 FAB_LOST; 24 bits; reset 0. -/
  lost : List Nat
  /-- R452 links known DOWN: (package, port); reset none. -/
  down : List (Nat × Nat)
  /-- R466 packages not readmitted until a change set names them again; reset none. -/
  barred : List Nat
  /-- R447 control messages sent and not acknowledged; reset none. -/
  ctl : List CMsg
  /-- R447 every control message sent, newest first (the output on VC 0); reset none. -/
  out : List CMsg
  /-- R447 next SERIAL per destination; reset 0. -/
  txSerial : Tab Nat
  /-- R447 serials already acted on: (source, serial); reset none. -/
  seen : List (Nat × Nat)
  /-- R459 standing notices; reset none. -/
  pace : List PaceN
  /-- R458 the notice this package keeps resending; reset none. -/
  paceOut : Option PaceN
  /-- R463 twin states kept for other homes; reset none. -/
  twins : List Twin
  /-- R456, R462 data frames sent on VC 1-3: VC, destination, move tag, bytes; newest first; reset none. -/
  sent : List (Nat × Nat × Nat × Bytes)
  /-- R463 twin copies awaiting WRITE_ACK: (accession, page number); reset none. -/
  twinCopies : List (Nat × Nat)
  /-- R442 remote moves and twin pages partly received: by source and tag, the collection and the bytes; reset none. -/
  parts : Tab (Nat × Bytes)
  /-- R491 collections whose frames are discarded on arrival; reset none. -/
  purged : List Nat
  /-- R468 FAB_CRC_ERR; 32 bits; reset 0. -/
  crcErr : Nat
  /-- R468 FAB_RETRIES; 32 bits; reset 0. -/
  retries : Nat
  /-- R468 FAB_TTL_DROP; 32 bits; reset 0. -/
  ttlDrop : Nat
  /-- R468 FAB_CMSG_RESENT; 32 bits; reset 0. -/
  resent : Nat
  /-- R468 FAB_PACE_SENT; 32 bits; reset 0. -/
  paceSent : Nat
  /-- R468 FAB_PACE_RCVD; 32 bits; reset 0. -/
  paceRcvd : Nat
  /-- R468 FAB_TWIN_PAGES; 32 bits; reset 0. -/
  twinPages : Nat
  /-- R468 FAB_TWIN_RESUMED; 32 bits; reset 0. -/
  twinResumed : Nat
deriving DecidableEq, Repr, Inhabited

/-! ## Ciset root (chapter 14) -/

/-- R480: a key slot. -/
structure KeySlot where
  /-- state; reset 0 FREE -/
  state : Nat
  /-- X25519 private key while OPEN; reset empty -/
  xPriv : Bytes
  /-- ML-KEM-768 private key while OPEN; reset empty -/
  kPriv : Bytes
  /-- the AES-256 key while KEYED or CLOSING; reset empty -/
  key : Bytes
  /-- R483: SHA-384 of the latest record issued with this slot's public keys; reset none -/
  digest : Option Bytes
deriving DecidableEq, Repr, Inhabited

/-- R491: a closure in progress. -/
structure Closure where
  /-- collection -/
  coll : Nat
  /-- CAUSE -/
  cause : Nat
  /-- tick of step 1 -/
  start : Nat
  /-- tasks running at step 1 -/
  tasks : List TaskRef
  /-- moves of the collection in flight at step 1, by number -/
  moves : List Nat
  /-- transfers dropped at step 1 -/
  dropped : Nat
  /-- KV pages scrubbed -/
  pages : Nat
  /-- bytes scrubbed -/
  bytes : Nat
  /-- the command that asked, if one did -/
  cmd : Option (Port × Nat)
deriving DecidableEq, Repr, Inhabited

/-- R470-R503: the root. -/
structure Sec where
  /-- R471, R502 lifecycle; reset 2 PRODUCTION (DESIGN CHOICE [5]). -/
  lifecycle : Nat
  /-- R502 SEC_DEBUG.level; reset 0. -/
  level : Nat
  /-- R487 debug flag; reset false. -/
  flag : Bool
  /-- R502 AUTH of the open D2 session; reset 0. -/
  auth : Nat
  /-- R499 a D2 session waits for the closures: AUTH, and the command that asked (none: the monitor); reset none. -/
  pendingD2 : Option (Nat × Option (Port × Nat))
  /-- R495 a lifecycle move waits for the closures: target and command; reset none. -/
  pendingLc : Option (Nat × Port × Nat)
  /-- R502 SEC_FW active slot; reset 0 (DESIGN CHOICE [5]). -/
  active : Nat
  /-- R478 slot running; reset 0 (DESIGN CHOICE [5]). -/
  running : Nat
  /-- R479 UPDATE_STAGED; reset false (DESIGN CHOICE [5]). -/
  staged : Bool
  /-- R478 FALLBACK; reset false (DESIGN CHOICE [5]). -/
  fallback : Bool
  /-- R476 SVN of the bundle in slot A and slot B; reset 0 (DESIGN CHOICE [5]). -/
  svn : List Nat
  /-- R287 contents of firmware slots A and B as bundles received here; reset empty (DESIGN CHOICE [5]). -/
  slots : List Bytes
  /-- R475 measurements of stages 0-3; reset empty before the first boot. -/
  meas : List Bytes
  /-- R471 ROLLBACK fuses blown; reset 0 (DESIGN CHOICE [5]). -/
  rollback : Nat
  /-- R487 package epoch; reset 0 (DESIGN CHOICE [5]). -/
  epochPkg : Nat
  /-- R487 cluster epochs; reset 0 (DESIGN CHOICE [5]). -/
  epochCl : List Nat
  /-- R487 the epoch increase of the last reset is durable; reset false. -/
  epochDurable : Bool
  /-- R495, R487 the next boot completes a move out of BLANK; reset false. -/
  leftBlank : Bool
  /-- R502 SEC_TRNG.HEALTH_FAIL; reset false. -/
  trngFail : Bool
  /-- R480 64 key slots, listed where not FREE; reset FREE. -/
  keys : Tab KeySlot
  /-- R498 outstanding nonce; reset none. -/
  nonce : Option Bytes
  /-- R498 failed attempts in a row; reset 0. -/
  fails : Nat
  /-- R498 nonces refused; reset false. -/
  locked : Bool
  /-- R491 closures in progress; reset none. -/
  closures : List Closure
  /-- R502 SEC_ATTESTS; 32 bits; reset 0. -/
  attests : Nat
  /-- R502 SEC_UNLOCKS; 32 bits; reset 0. -/
  unlocks : Nat
  /-- R502 SEC_UNLOCK_FAIL; 32 bits; reset 0. -/
  unlockFail : Nat
  /-- R502 SEC_CLOSURES; 32 bits; reset 0. -/
  nclosures : Nat
deriving DecidableEq, Repr, Inhabited

/-! ## Power (chapter 15) -/

/-- R518: the settings of the compute dies and of the SRAM at a level, in mV; 0 is off. -/
structure Assist where
  /-- forward body bias; reset 150, of the main store 0 -/
  fbb : Nat
  /-- read assist: wordline underdrive; reset 50, of the main store 0 -/
  read : Nat
  /-- write assist: magnitude of the negative bitline; reset 100, of the main store 0 -/
  write : Nat
deriving DecidableEq, Repr, Inhabited

/-- R517: the level of one clocked group while it changes: target and whether the voltage has been raised. -/
structure Level where
  /-- present level: that of the clock; reset 0, of the main store 6 -/
  now : Nat
  /-- level chosen; reset 0, of the main store 6 -/
  want : Nat
  /-- R519: a step up waits for the regulator's settle signal; reset false -/
  settling : Bool
  /-- R517, R519 voltage in mV, 0 for the main store, whose rates have none; reset 500, that of level 0 -/
  mv : Nat
  /-- R518, R519 bias and assist applied; reset those of level 0, 0 for the main store -/
  assist : Assist
deriving DecidableEq, Repr, Inhabited

/-- R504-R535: domains, votes, levels, supplies. -/
structure Pwr where
  /-- R532 PWR_OWNER_VOTE_w; 3 words; reset 0. The other votes of R507 follow from the rest of the state. -/
  ownerVotes : List Nat
  /-- R532 PWR_DSTAT_d.state of 80 domains: 0 ON, 1 GATED, 2 RET, 3 OFF; reset GATED (DESIGN CHOICE [7]). -/
  dstate : List Nat
  /-- R508 PWR_DSTAT_d.refuser; reset 0. -/
  refuser : Tab Nat
  /-- R532 PWR_DREF_d; reset 0. -/
  dref : Tab Nat
  /-- R532 PWR_DABT_d; reset 0. -/
  dabt : Tab Nat
  /-- R510 PWR_PKG_STATE.state: 0 ACTIVE, 1 IDLE, 2 NAP, 3 SLEEP; reset 0. -/
  pkg : Nat
  /-- R509 PWR_LAT_TOL; reset 150. -/
  latTol : Nat
  /-- R517, R532 vat levels of 8 clusters; reset 0. -/
  vatL : List Level
  /-- R517, R532 turner levels; reset 0. -/
  trnL : List Level
  /-- R517, R532 PWR_MS_RATE; reset 6. -/
  ms : Level
  /-- R459 the vat levels otherwise chosen while MATCH holds them lower; reset none. -/
  unmatched : List Nat
  /-- R532, R640 the 13 junction sensors in °C: clusters 0 to 7, the hub, base dies 0 to 3; reset 0. -/
  temp : List Nat
  /-- R532 PWR_VIN in mV; reset 12,000 (DESIGN CHOICE [7]). -/
  vin : Nat
  /-- R532 PWR_PKG_MW; reset 0. -/
  mw : Nat
  /-- R521 VIN is below 6.0 V; reset false. -/
  low : Bool
  /-- R532 PWR_CLOCKS bit 0; reset false. -/
  xt32 : Bool
  /-- R532 PWR_CLOCKS bit 1 ON_RC; reset true (R515). -/
  onRc : Bool
  /-- R532 PWR_CLOCKS bit 2 XO_EN; reset true (R516). -/
  xoEn : Bool
  /-- R532 PWR_CLOCKS bit 3, the COOLANT_OK pin; reset false (DESIGN CHOICE [7]). -/
  coolOk : Bool
  /-- R532 PWR_CLOCKS bit 4 COOLANT_STOP; reset false. -/
  coolStop : Bool
  /-- R527 COOLANT_RESTORED has been sent since the last loss; reset false. -/
  coolBack : Bool
  /-- R532 PWR_KEEP_SEQ; reset 0 (DESIGN CHOICE [5]). -/
  keepSeq : Nat
  /-- R513 the newest keep record has cause SLEEP and is current; reset false. -/
  keepSleep : Bool
  /-- R531 the newest keep record: fault log, energy, accession resume records; reset empty. -/
  keepLog : Tab Bytes
  /-- R531 block read counters of the keep record; reset none. -/
  keepReads : Tab Nat
  /-- R531 the counter there of every block not listed; reset 0. -/
  keepBase : Nat
  /-- R531 energy counters of the keep record: collections, bands, unattributed, total; reset empty. -/
  keepNrg : List Nat
  /-- R531 resume records: index, COLL, STATE, TAG, length, GEN; reset none. -/
  keepAcc : List (List Nat)
  /-- R120 vats that have asked for a grant, in order of arrival; reset none. -/
  grantQ : List Nat
  /-- R533 THR_DUR_r; reset 0. -/
  thrDur : List Nat
  /-- R533 THR_ENT_r; reset 0. -/
  thrEnt : List Nat
  /-- R533 THR_CAUSE_r; reset 0. -/
  thrCause : List Nat
  /-- R533 THR_ACTIVE; reset 0. -/
  thrOn : List Nat
  /-- R534 NRG_COLL_c; reset 0 (From keep record: none held). -/
  nrgColl : Tab Nat
  /-- R534 NRG_BAND_b; reset 0. -/
  nrgBand : Tab Nat
  /-- R534 NRG_UNATTR; reset 0. -/
  nrgUn : Nat
  /-- R534 NRG_TOTAL; reset 0. -/
  nrgTotal : Nat
  /-- R534 NRG_DOM_d; reset 0. -/
  nrgDom : Tab Nat
deriving DecidableEq, Repr, Inhabited

/-! ## Faults (chapter 16) -/

/-- A detection waiting for the fault manager (R553). -/
structure Det where
  /-- SITE -/
  site : Nat
  /-- UNIT -/
  unit : Nat
  /-- MECH -/
  mech : Nat
  /-- ACTION of the immediate action -/
  action : Nat
  /-- COLL, 0xFF if none -/
  coll : Nat
  /-- ADDR -/
  addr : Nat
  /-- TASK, 0xFFFF if none -/
  task : Nat
  /-- GRAPH, 0xFF if none -/
  graph : Nat
  /-- ATTEMPT -/
  attempt : Nat
  /-- SERIAL -/
  serial : Nat
  /-- DETAIL as one number -/
  detail : Nat
  /-- the unit was RECOVERING when the detection came (R548) -/
  nested : Bool
  /-- tick of the detection -/
  tick : Nat
deriving DecidableEq, Repr, Inhabited

/-- R536-R560: fault manager and FLT block. -/
structure Flt where
  /-- R553 queue of detections, at most 16; reset empty. -/
  queue : List Det
  /-- R555 fatal stop; reset false. -/
  fatal : Bool
  /-- R546 units RECOVERING: (site, unit); reset none. -/
  recovering : List (Nat × Nat)
  /-- R547 detections counted in the last second: site, unit, tick; reset none. -/
  history : List (Nat × Nat × Nat)
  /-- R559 fenced units: (site, unit); reset none. -/
  fenced : List (Nat × Nat)
  /-- R559 FLT_DETECTIONS; 64 bits; reset 0. -/
  detections : Nat
  /-- R559 FLT_MASKED; 64 bits; reset 0. -/
  masked : Nat
  /-- R559 FLT_CORRECTED; 64 bits; reset 0. -/
  corrected : Nat
  /-- R559 FLT_HANGS; 32 bits; reset 0. -/
  hangs : Nat
  /-- R559 FLT_STALLS; 32 bits; reset 0. -/
  stalls : Nat
  /-- R559 FLT_DATA_LOST; 32 bits; reset 0. -/
  dataLost : Nat
  /-- R556 fault log, 256 entries of 64 bytes by index; reset empty. -/
  log : Tab Bytes
  /-- R559 FLT_LOG_HEAD; reset 0. -/
  head : Nat
  /-- R556 next SEQ; reset 0. -/
  seq : Nat
  /-- R559 FLT_LOG_SEL; reset 0. -/
  sel : Nat
  /-- R555 FLT_FATAL_w; 64 bytes; reset zero (empty list). -/
  fatalRec : Bytes
  /-- R537 a poke or turner halt has been made since the last reset of the root; reset false. -/
  poked : Bool
deriving DecidableEq, Repr, Inhabited

/-! ## Host attachment (chapter 17) -/

/-- R571: a record: TYPE, FLAGS, PLEN, TAG, SEQ, CODE and the payload bytes used. -/
structure Rec where
  /-- TYPE -/
  ty : Nat
  /-- FLAGS -/
  flags : Nat
  /-- TAG -/
  tag : Nat
  /-- SEQ -/
  seq : Nat
  /-- CODE -/
  code : Nat
  /-- payload, PLEN bytes -/
  payload : Bytes
deriving DecidableEq, Repr, Inhabited

/-- R569: a command accepted and not yet answered. -/
structure Outst where
  /-- TAG -/
  tag : Nat
  /-- STREAM -/
  stream : Nat
  /-- data bytes still needed in all (DLEN) -/
  dlen : Nat
  /-- it waits for data (R570) -/
  waitData : Bool
  /-- R569, R570: status and detail of a command refused at its acceptance, whose data are still to be taken -/
  fail : Option (Nat × Nat)
  /-- RDATA of its FLAGS -/
  rdata : Bool
  /-- the command -/
  cmd : Instr
deriving DecidableEq, Repr

/-- R569-R576: one port's command and record traffic. -/
structure PortQ where
  /-- R575 attached; reset false. -/
  attached : Bool
  /-- R576 record queue, at most 4,096; reset empty. -/
  recs : List Rec
  /-- R576 event queue, at most 256; reset empty. -/
  evts : List Rec
  /-- R576 events dropped and not yet reported; reset 0. -/
  lostEv : Nat
  /-- R571 next SEQ; reset 0. -/
  seq : Nat
  /-- R569 outstanding commands in order of acceptance, at most 256; reset none. -/
  outst : List Outst
  /-- R571 records sent, newest first; reset none. -/
  sent : List Rec
  /-- R563 result data returned: stream and bytes, newest first; reset none. -/
  rdata : List (Nat × Bytes)
  /-- R570 bytes that have arrived on each stream and no command has taken; reset none. -/
  sbuf : Tab Bytes
  /-- R569, R597 command records NAKed; reset 0. -/
  naks : Nat
deriving DecidableEq, Repr

/-- R563: one endpoint. -/
structure UsbEnd where
  /-- interface; its protocol is one more -/
  iface : Nat
  /-- endpoint address, bit 7 for IN -/
  addr : Nat
  /-- interrupt, not bulk -/
  interrupt : Bool
  /-- streams, numbered from 1; 0 none -/
  streams : Nat
deriving DecidableEq, Repr, Inhabited

/-- R562, R563: what the device tells a host that enumerates it. -/
structure UsbDesc where
  /-- bcdUSB -/
  bcdUsb : Nat
  /-- bDeviceClass -/
  devClass : Nat
  /-- idVendor -/
  vendor : Nat
  /-- idProduct -/
  product : Nat
  /-- bcdDevice -/
  bcdDevice : Nat
  /-- the iSerialNumber string's characters -/
  serial : Bytes
  /-- self-powered -/
  selfPowered : Bool
  /-- remote wake -/
  remoteWake : Bool
  /-- bMaxPower -/
  maxPower : Nat
  /-- the USB 2.0 extension: LPM -/
  lpm : Bool
  /-- U1 exit latency in µs -/
  u1 : Nat
  /-- U2 exit latency in µs -/
  u2 : Nat
  /-- the SuperSpeedPlus capability -/
  plus : Bool
  /-- class and subclass of both interfaces -/
  ifClass : Nat × Nat
  /-- endpoints -/
  ends : List UsbEnd
deriving DecidableEq, Repr, Inhabited

/-- R561-R595: USB, ownership, change sets, HOST and MGT blocks. -/
structure HostSt where
  /-- R569 the four ports' traffic: USB. -/
  usb : PortQ
  /-- management. -/
  mgt : PortQ
  /-- fabric. -/
  fabric : PortQ
  /-- monitor. -/
  monitor : PortQ
  /-- R594 HOST_LINK speed: 0 detached, 1 HS, 2 Gen 1x1, 3 Gen 2x1, 4 Gen 2x2; reset 0. -/
  link : Nat
  /-- R562 the descriptors that the host has read; reset none. -/
  desc : Option UsbDesc
  /-- R594 HOST_LINK power state: 0 U0, 3 U3, 5 suspend; reset 0. -/
  linkPm : Nat
  /-- R594 HOST_LINK CONFIGURED; reset false. -/
  configured : Bool
  /-- R594 HOST_COMMANDS; 64 bits; reset 0. -/
  commands : Nat
  /-- R594 HOST_RECORDS; 64 bits; reset 0. -/
  records : Nat
  /-- R594 HOST_DISCARDED; 32 bits; reset 0. -/
  discarded : Nat
  /-- R577 words returned by CS_READ, newest first; reset none. -/
  csOut : List (List Nat)
  /-- R578 vendor requests stalled; reset 0. -/
  stalls : Nat
  /-- R594 OWN_STATUS.owner; reset none. -/
  owner : Option Port
  /-- R594 OWN_STATUS.state: 0 NONE, 1 ELECTION, 2 OWNED, 3 HANDOVER; reset 0. -/
  ownState : Nat
  /-- R594 handover target, with the OWN_HANDOVER's TAG; reset none. -/
  target : Option (Port × Nat)
  /-- R583 claims of the open election: port, and TAG of an OWN_CLAIM; reset none. -/
  claims : List (Port × Option Nat)
  /-- R594 OWN_DENIED; 32 bits; reset 0. -/
  denied : Nat
  /-- R594 OWN_CHANGES; 32 bits; reset 0. -/
  changes : Nat
  /-- R589 staged values of RS registers by control-space address; reset none. -/
  staged : Tab Nat
  /-- R591 the apply is pending: port and TAG of a CHG_APPLY, or none for CHG_CTRL; reset not pending. -/
  applying : Option (Option (Port × Nat))
  /-- R594 CHG_STATUS age: tick of the first staged write; reset 0. -/
  chgTick : Nat
  /-- R594 CHG_CONFLICT: address, low bit, high bit, reason; reset 0. -/
  conflict : Nat × Nat × Nat × Nat
  /-- R594 CHG_SEL; 24 bits; reset 0. -/
  chgSel : Nat
  /-- R594 CHG_APPLIED; 32 bits; reset 0. -/
  applied : Nat
  /-- R594 CHG_REFUSED; 32 bits; reset 0. -/
  refused : Nat
  /-- R594 MGT_CMD; 64 bytes; reset 0 (DESIGN CHOICE [7]). -/
  mgtCmd : Memory
  /-- R594 MGT_DATA; 8 KiB; reset 0. -/
  mgtData : Memory
  /-- R579 what reads of MGT_REC and MGT_EVT returned, newest first; reset none. -/
  mgtOut : List Rec
  /-- R637 dynamic address; none in I²C mode; reset none. -/
  dynAddr : Option Nat
  /-- R637 HDR entry seen, exit pattern awaited; reset false. -/
  hdr : Bool
  /-- R579 in-band interrupts raised; reset 0. -/
  ibi : Nat
  /-- R514 transfers NACKed in SLEEP; reset 0. -/
  nacks : Nat
deriving DecidableEq, Repr

/-! ## Start-up, monitor, TAP, pins (chapters 18 and 19) -/

/-- R610: a monitor reply: status (0 OK, 1 ERROR, 2 DENIED, 3 BUSY), the command word's number (its place in R611),
and the numbers its data lines show, in order. -/
structure MonOut where
  /-- status word -/
  status : Nat
  /-- command word -/
  cmd : String
  /-- data -/
  data : List Nat
deriving DecidableEq, Repr, Inhabited

/-- R609-R613: the monitor. -/
structure Mon where
  /-- R608 MON_SESSION session open; reset false. -/
  session : Bool
  /-- R608 MON_SESSION TRACE on; reset false. -/
  trace : Bool
  /-- R611 unlock awaits its token; reset false. -/
  unlocking : Bool
  /-- R610 replies, newest first; reset none. -/
  out : List MonOut
deriving DecidableEq, Repr, Inhabited

/-- Where the package stands between power and service (R596, R603, R529, R555, R641). -/
inductive Phase where
  /-- VSTBY absent -/
  | unpowered
  /-- VSTBY valid, the cold-start sequence before step 3 -/
  | starting
  /-- held at step 3 while RESET_N is low (R634), or in a warm reset (R603) -/
  | held
  /-- in the sequence from step 3, before READY -/
  | booting
  /-- MONITOR_HOLD after step 5 (R599) -/
  | monHold
  /-- RECOVERY (R601) -/
  | recovery
  /-- cannot reach READY (R598) -/
  | stuck
  /-- READY -/
  | ready
  /-- package OFF after a keep sequence (R529) -/
  | off
  /-- thermal trip (R641) -/
  | tripped
deriving DecidableEq, Repr, Inhabited

/-- R596-R608, R614, R620-R637: boot state, resets, pins and the TAP. -/
structure Pkg where
  /-- phase; reset unpowered. -/
  phase : Phase
  /-- R624 VSTBY valid; reset false. -/
  vstby : Bool
  /-- R596 VIN at 6.0 V or more; reset false. -/
  vin6 : Bool
  /-- R621 VIO18 valid; reset true. -/
  vio18 : Bool
  /-- R620 RESET_N pin low; reset false. -/
  resetLow : Bool
  /-- R620 BOOT_MODE pins; reset 0. -/
  straps : Nat
  /-- R608 RST_BOOT.STRAP; reset 0. -/
  strap : Nat
  /-- R608 RST_BOOT.MODE; reset 0. -/
  mode : Nat
  /-- R608 RST_BOOT last step reached; reset 0. -/
  step : Nat
  /-- R608 RST_BOOT time to READY in ms; reset 0. -/
  ms : Nat
  /-- R608 RST_CAUSE cause; reset 0. -/
  cause : Nat
  /-- R608 RST_CAUSE AFTER_FATAL; reset false. -/
  afterFatal : Bool
  /-- R530 what caused the keep sequence that left the package OFF: 0 VIN falling, 1 PWR_SHUTDOWN; reset 0. -/
  offCause : Nat
  /-- R608 RST_CNT_WARM; reset 0. -/
  cntWarm : Nat
  /-- R608 RST_CNT_SOFT; reset 0. -/
  cntSoft : Nat
  /-- R608 RST_CNT_CLUSTER; reset 0. -/
  cntCluster : Nat
  /-- R608 RST_CNT_VFENCE; reset 0. -/
  cntVfence : Nat
  /-- R608 RST_CNT_PORT; reset 0. -/
  cntPort : Nat
  /-- R603 whether the running boot is cold; reset true. -/
  cold : Bool
  /-- R604 cluster resets pending: cluster, port, TAG; reset none. -/
  clReset : List (Nat × Port × Nat)
  /-- R605 vat commands that wait, in order of acceptance: a fence (true) waits for the bound task, an unfence (false) for its
  self-test; vat, port, TAG; reset none. -/
  vatCmds : List (Bool × Nat × Port × Nat)
  /-- R604 units whose self-test failed in a pending cluster reset; reset none. -/
  clFailed : List (Nat × Nat)
  /-- R606 port resets waiting for training: port number, port, TAG; reset none. -/
  portReset : List (Nat × Port × Nat)
  /-- R592 a set was discarded by a reset and CHG_DISCARDED is owed at READY; reset false. -/
  chgLost : Bool
  /-- R620 causes for which ALERT_N is asserted: 0 fatal or cannot reach READY, 1 coolant, 2 trip; reset none. -/
  alert : List Nat
  /-- R641 THERM_TRIP_N asserted; reset false. -/
  tripPin : Bool
  /-- R635 WAKE_N driven low; reset false. -/
  wakeDriven : Bool
  /-- R620 VBUS_DET; reset false. -/
  vbus : Bool
  /-- R614 TAP instruction register: 0 BYPASS, 1 IDCODE, 2 SAMPLE/PRELOAD, 3 EXTEST, 4 CLAMP, 5 HIGHZ; reset 1
  (PRESUMED, IEEE 1149.1: IDCODE is selected after the test logic's reset [17]). -/
  ir : Nat
  /-- R614 boundary chain contents; reset empty (DESIGN CHOICE [7]). -/
  chain : List Bool
  /-- R614 the pins are driven from the chain (EXTEST or CLAMP); reset false. -/
  chainDrives : Bool
  /-- R614 the outputs are in high impedance; reset false. -/
  highz : Bool
  /-- R614 the data register's last value: IDCODE or bypass; reset 0. -/
  tdr : Nat
deriving DecidableEq, Repr, Inhabited

/-! ## The part, fixed at test (OTP) -/

/-- R1, R471, R594: what is fixed at test or in OTP; the values are notes/assumptions/5.md. -/
structure Part where
  /-- R594 ID_CODE; 0 for -A, 1 for -B; reset 1 (DESIGN CHOICE [5]). -/
  code : Nat
  /-- R594 ID_USB_IDS; reset 0xFFFF_FFFF (R562, unprovisioned). -/
  usbIds : Nat
  /-- R582, R594 OWN_PRIO; reset 0 (DESIGN CHOICE [5]). -/
  ownPrio : Nat
  /-- R468 FAB_ID in OTP; reset 31 (unprovisioned). -/
  fabId : Nat
  /-- R502 SEC_SERIAL_w, 12 words; reset 0 (DESIGN CHOICE [5]). -/
  serial : List Nat
  /-- R301 CAVE_RD_LIMIT; reset 20,000,000 (R301). -/
  rdLimit : Nat
  /-- R521 PWR_MIN_ACTIVE in mW; reset 2,500 (DESIGN CHOICE [5]). -/
  minActive : Nat
  /-- R283 factory-marked bad blocks (channel, block); reset none (DESIGN CHOICE [5]). -/
  badBlocks : List (Nat × Nat)
deriving DecidableEq, Repr, Inhabited

/-! ## The whole package -/

/-- The IL-2400. -/
structure State where
  /-- The commands and events waiting, first in, first out; reset empty. -/
  pending : List Instr
  /-- The model's own: how many free values have been taken (notes/assumptions/3.md); reset 0 (DESIGN CHOICE [3]). -/
  fresh : Nat
  /-- R11, R556: always-on ticks since the last cold start; reset 0. -/
  tick : Nat
  /-- OTP and test data. -/
  part : Part
  /-- R77 sixteen vats. -/
  vats : List Vat
  /-- R155 sixty-four turners. -/
  turners : List Turner
  /-- R80 eight near stores of 48 MiB; reset empty (zero, R607). -/
  near : List Memory
  /-- R241 main-store copies of objects, keyed by device address (R242); reset empty (zero, R596 step 8). -/
  main : Memory
  /-- R25, R223 4,096 sync counters of 32 bits; reset 0. -/
  sync : Tab Nat
  /-- Graph engine. -/
  gra : Gra
  /-- Object table and migration engine. -/
  obj : Objs
  /-- Cave. -/
  cave : Cave
  /-- R319 sixteen DMA engines. -/
  dx : List Dx
  /-- Decode tables. -/
  cmp : Cmp
  /-- KV engine. -/
  kve : Kve
  /-- Accession engine. -/
  acc : AccEng
  /-- Weights. -/
  wgt : Wgt
  /-- Fabric. -/
  fab : Fab
  /-- Ciset root. -/
  sec : Sec
  /-- Power. -/
  pwr : Pwr
  /-- Faults. -/
  flt : Flt
  /-- Host attachment. -/
  host : HostSt
  /-- Monitor. -/
  mon : Mon
  /-- Boot, resets, pins, TAP. -/
  pkg : Pkg
  /-- R12, R589: applied values of the RS registers by control-space address, listed where they differ from the
  reset value of their table; reset none listed. -/
  rs : Tab Nat
deriving DecidableEq, Repr

/-- Why the machine stops with a fault. No command of the IL-2400 stops the machine: errors end tasks, commands or
accessions with a status, or stop the package in a state the manual describes (R555, R598, R641), which is a state. -/
inductive Fault where
  /-- Nobody raises it: safe. It stands so that the type is not empty. -/
  | none_
deriving DecidableEq, Repr

/-- Why a command has no meaning here. -/
inductive Refusal where
  /-- Raised by an arm of Dispatch.lean whose command has no meaning yet: safe. -/
  | notModelled (mnemonic : String)
deriving DecidableEq, Repr

/-! ## Reset -/

/-- A weight buffer after reset. -/
def WBuf.reset : WBuf := { valid := false, mode := 0, tile := [], whey := [] }

/-- A vat after reset (R124, R154). -/
def Vat.reset : Vat :=
  { buf0 := WBuf.reset, buf1 := WBuf.reset, acc := [], tags := List.replicate 64 .empty, carry := [], shadow := [],
    held := List.replicate 8 none, queue := [], feed := [], bound := none, byTurner := none, state := 1, mode := 0,
    resid := [], inject := [], late := false, passes := 0, chkDet := 0, grantWait := 0, idleExits := 0, swaps := 0,
    swapsForced := 0, sat := 0, nan := false }

/-- A turner after reset (R200). -/
def Turner.reset : Turner :=
  { sreg := List.replicate 32 0, vreg := List.replicate 32 0, preg := List.replicate 8 0, pc := 0, scratch := [],
    topk := none, state := 1, bound := none, vat := none, wait := .none, lastColl := none, wasOff := true, sat := 0,
    nan := false, retired := 0, laneDet := 0, excLast := 0, tasks := 0, halted := false }

/-- The graph engine after reset (R240). -/
def Gra.reset : Gra :=
  { graphs := [], rqT := List.replicate 8 [], rqV := List.replicate 8 [], resQ := List.replicate 8 [],
    instances := 0, tasks := 0, stealsSib := 0, stealsFar := 0, reexec := 0, hangs := 0, overB := 0, streams := [],
    deferred := [], forced := [], swapWait := [] }

/-- The object table after reset (R280). -/
def Objs.reset : Objs :=
  { tab := [], gens := [], mig := [], moves := [], nextMove := 0, fetches := [], nextFetch := 0, nextFid := 0,
    holds := [], kernels := [], grants := [], useSeq := 0, promotions := 0, evictions := 0, spills := 0,
    collide := 0, allocFail := 0, lastFail := 0, sel := 0 }

/-- The cave after reset (R317). -/
def Cave.reset : Cave :=
  { mode := 0, mounted := false, keepFound := false, slice := none, regions := [], map := [], dead := [], reads := [], readBase := 0,
    ckpt := [], ckptBase := 0, journal := [], jset := 4, keepSet := 2, keepUsed := 0, keepMark := none,
    spares := List.replicate 32 ((List.range 32).map (992 + ·)), retired := List.replicate 32 [], relocQ := [], relocating := [], copied := [],
    chRetries := List.replicate 32 0, chRebuilds := List.replicate 32 0,
    repair := [], bad := [], ladder := [], peerWait := [], peerGot := [], sealSeq := 0, nReads := 0, retries := 0, rebuilds := 0,
    damaged := 0, relocs := 0, rdOver := 0, erases := [], sel := 0 }

/-- A DMA engine after reset (R339). -/
def Dx.reset : Dx :=
  { state := 1, queued := 0, bytesIn := 0, bytesOut := 0, rawFrames := 0, det := 0, stall := 0, moved := 0 }

/-- A table slot after reset (R340). -/
def Slot.reset : Slot := { state := 0, version := 0, freq := [] }

/-- The table set after reset (R340). -/
def Cmp.reset : Cmp := { slots := List.replicate 8 Slot.reset, waiting := [], waits := 0, tableFail := 0 }

/-- The KV engine after reset (R380). -/
def Kve.reset : Kve :=
  { pages := [], frames := [], extents := [], hoops := [], waiters := [], lowSent := [], critSent := [],
    hoopSent := [], lastFail := 0, pressings := 0, pageWaits := 0, reclaims := 0, truncated := 0, viewDenied := 0,
    hoopWaits := 0, spanFull := 0, hsel := 0 }

/-- The accession engine after reset (R404). -/
def AccEng.reset : AccEng :=
  { tab := [], svcs := [], stops := [], steps := [], deficit := [], lastColl := 63, serials := [], holdAll := false,
    holdCool := false, seq := 0, blocked := [], submitted := 0, nsteps := 0, tokens := 0, draftsProp := 0,
    draftsAcc := 0, expired := 0, lateTok := 0, cancels := 0, tooLate := 0 }

/-- Weights after reset (R435). -/
def Wgt.reset : Wgt :=
  { loads := [], bcasts := [], mans := [], directs := [], rtx := [], gens := List.replicate 16 1, repl := none, adapters := [], held := [],
    wheels := 0, failed := 0, rereq := 0, direct := 0, swaps := 0, duplicate := 0, sel := 0 }

/-- A fabric port after reset (R468). -/
def FPort.reset : FPort :=
  { state := 0, nbPkg := 0, nbPort := 0, downs := 0, txSeq := 0, rtx := [], rxSeq := 0, nakRun := 0, retry := false, frames := [],
    heldRx := [], ccl := 0, credit := [], sendCr := [], txQ := [], openTx := [], passing := [], slot := 0,
    dets := [], wire := [] }

/-- The fabric after reset (R468). -/
def Fab.reset : Fab :=
  { ports := List.replicate 6 FPort.reset, lost := [], down := [], barred := [], ctl := [], out := [],
    txSerial := [], seen := [], pace := [], paceOut := none, twins := [], sent := [], twinCopies := [], parts := [],
    purged := [], crcErr := 0, retries := 0, ttlDrop := 0, resent := 0, paceSent := 0, paceRcvd := 0,
    twinPages := 0, twinResumed := 0 }

/-- The root after reset (R502). -/
def Sec.reset : Sec :=
  { lifecycle := 2, level := 0, flag := false, auth := 0, pendingD2 := none, pendingLc := none, active := 0,
    running := 0, staged := false, fallback := false, svn := [0, 0], slots := [[], []], meas := [], rollback := 0,
    epochPkg := 0, epochCl := List.replicate 8 0, epochDurable := false, leftBlank := false, trngFail := false,
    keys := [], nonce := none, fails := 0, locked := false, closures := [], attests := 0, unlocks := 0,
    unlockFail := 0, nclosures := 0 }

/-- Power after reset (R532, R533, R534). -/
def Pwr.reset : Pwr :=
  { ownerVotes := [0, 0, 0], dstate := List.replicate 80 1, refuser := [], dref := [], dabt := [], pkg := 0,
    latTol := 150, vatL := List.replicate 8 ⟨0, 0, false, 500, ⟨150, 50, 100⟩⟩,
    trnL := List.replicate 8 ⟨0, 0, false, 500, ⟨150, 50, 100⟩⟩,
    ms := ⟨6, 6, false, 0, ⟨0, 0, 0⟩⟩, unmatched := [], temp := List.replicate 13 0, vin := 12000, mw := 0, low := false, xt32 := false,
    onRc := true, xoEn := true, coolOk := false, coolStop := false, coolBack := false, keepSeq := 0,
    keepSleep := false, keepLog := [], keepReads := [], keepBase := 0, keepNrg := [], keepAcc := [], grantQ := [], thrDur := List.replicate 8 0,
    thrEnt := List.replicate 8 0, thrCause := List.replicate 8 0, thrOn := [], nrgColl := [], nrgBand := [],
    nrgUn := 0, nrgTotal := 0, nrgDom := [] }

/-- Faults after reset (R559). -/
def Flt.reset : Flt :=
  { queue := [], fatal := false, recovering := [], history := [], fenced := [], detections := 0, masked := 0,
    corrected := 0, hangs := 0, stalls := 0, dataLost := 0, log := [], head := 0, seq := 0, sel := 0, fatalRec := [],
    poked := false }

/-- A port's traffic after reset (R569-R576). -/
def PortQ.reset : PortQ :=
  { attached := false, recs := [], evts := [], lostEv := 0, seq := 0, outst := [], sent := [], rdata := [],
    sbuf := [], naks := 0 }

/-- Host attachment after reset (R594). -/
def HostSt.reset : HostSt :=
  { usb := PortQ.reset, mgt := PortQ.reset, fabric := PortQ.reset, monitor := PortQ.reset, link := 0, desc := none, linkPm := 0,
    configured := false, commands := 0, records := 0, discarded := 0, csOut := [], stalls := 0, owner := none,
    ownState := 0, target := none, claims := [], denied := 0, changes := 0, staged := [], applying := none,
    chgTick := 0, conflict := (0, 0, 0, 0), chgSel := 0, applied := 0, refused := 0, mgtCmd := [], mgtData := [],
    mgtOut := [], dynAddr := none, hdr := false, ibi := 0, nacks := 0 }

/-- The monitor after reset (R608). -/
def Mon.reset : Mon := { session := false, trace := false, unlocking := false, out := [] }

/-- Boot and pins before VSTBY becomes valid (R596, R608). -/
def Pkg.reset : Pkg :=
  { phase := .unpowered, vstby := false, vin6 := false, vio18 := true, resetLow := false, straps := 0, strap := 0,
    mode := 0, step := 0, ms := 0, cause := 0, afterFatal := false, offCause := 0, cntWarm := 0, cntSoft := 0,
    cntCluster := 0, cntVfence := 0, cntPort := 0, cold := true, clReset := [], vatCmds := [], clFailed := [],
    portReset := [], chgLost := false, alert := [], tripPin := false, wakeDriven := false, vbus := false, ir := 1,
    chain := [], chainDrives := false, highz := false, tdr := 0 }

/-- The part chosen (notes/assumptions/5.md). -/
def Part.reset : Part :=
  { code := 1, usbIds := 0xFFFFFFFF, ownPrio := 0, fabId := 31, serial := List.replicate 12 0, rdLimit := 20000000,
    minActive := 2500, badBlocks := [] }

/-- The machine after reset: every register at its reset value, before VSTBY has become valid (R596). -/
def State.reset : State :=
  { pending := [], fresh := 0, tick := 0, part := Part.reset, vats := List.replicate 16 Vat.reset,
    turners := List.replicate 64 Turner.reset, near := List.replicate 8 [], main := [], sync := [],
    gra := Gra.reset, obj := Objs.reset, cave := Cave.reset, dx := List.replicate 16 Dx.reset, cmp := Cmp.reset,
    kve := Kve.reset, acc := AccEng.reset, wgt := Wgt.reset, fab := Fab.reset, sec := Sec.reset, pwr := Pwr.reset,
    flt := Flt.reset, host := HostSt.reset, mon := Mon.reset, pkg := Pkg.reset, rs := [] }

end Sys2Proof.Machine
end

