-- ==== Sys2Proof/Machine/Ops.lean ====
section
/-! DEFINITION. The named operations over tables, memories, units, counters and free choices that the meanings share. -/

namespace Sys2Proof.Machine

open Sys2Proof

/-- The outcome of a command. -/
abbrev Out := Host.Outcome State Fault Refusal

/-! ## Tables -/

/-- The entry of key `k`. -/
def tget {α : Type} (t : Tab α) (k : Nat) : Option α := (t.find? fun e => e.1 == k).map (·.2)

/-- The entry of key `k`, or `d`. -/
def tgetD {α : Type} (t : Tab α) (k : Nat) (d : α) : α := (tget t k).getD d

/-- `t` with the entry of key `k` set, in rising key order. -/
def tset {α : Type} (t : Tab α) (k : Nat) (v : α) : Tab α :=
  (t.filter fun e => e.1 < k) ++ (k, v) :: t.filter fun e => k < e.1

/-- `t` without the entry of key `k`. -/
def terase {α : Type} (t : Tab α) (k : Nat) : Tab α := t.filter fun e => e.1 != k

/-- `t` with the entry of key `k`, if there is one, changed by `f`. -/
def tmod {α : Type} (t : Tab α) (k : Nat) (f : α → α) : Tab α := t.map fun e => if e.1 = k then (k, f e.2) else e

/-- A count in a table in which an unlisted key is 0. -/
def nget (t : Tab Nat) (k : Nat) : Nat := tgetD t k 0

/-- A count set; 0 is not listed. -/
def nset (t : Tab Nat) (k v : Nat) : Tab Nat := if v = 0 then terase t k else tset t k v

/-! ## Memories -/

/-- The canonical form: addresses strictly rising, no zero byte listed. -/
def Memory.wf (m : Memory) : Bool :=
  decide (m.Pairwise fun a b => a.1 < b.1) && m.all fun c => c.2 != 0

/-- The byte at address `a`. -/
def mbyte (m : Memory) (a : Nat) : Byte := ((m.find? fun c => c.1 == a).map (·.2)).getD 0

/-- The `n` bytes from address `a`. -/
def mread (m : Memory) (a n : Nat) : Bytes :=
  let sub := m.filter fun c => a ≤ c.1 && c.1 < a + n
  (List.range n).map fun i => mbyte sub (a + i)

/-- The cells of bytes placed from address `a`; zero bytes are not listed. -/
def cells : Nat → Bytes → Memory
  | _, [] => []
  | a, b :: bs => if b = 0 then cells (a + 1) bs else (a, b) :: cells (a + 1) bs

/-- `m` with `bs` written from address `a`. -/
def mwrite (m : Memory) (a : Nat) (bs : Bytes) : Memory :=
  (m.filter fun c => c.1 < a) ++ cells a bs ++ m.filter fun c => a + bs.length ≤ c.1

/-- `m` with the `n` bytes from `a` zeroed. -/
def mzero (m : Memory) (a n : Nat) : Memory := m.filter fun c => c.1 < a || a + n ≤ c.1

/-- The `n` bytes from `a` as a memory from 0. -/
def mslice (m : Memory) (a n : Nat) : Memory :=
  (m.filter fun c => a ≤ c.1 && c.1 < a + n).map fun c => (c.1 - a, c.2)

/-- `dst` with the `n` bytes of `src` from `a` written from `b`. -/
def mcopy (src : Memory) (a : Nat) (dst : Memory) (b n : Nat) : Memory :=
  (dst.filter fun c => c.1 < b) ++
    ((src.filter fun c => a ≤ c.1 && c.1 < a + n).map fun c => (c.1 - a + b, c.2)) ++
    dst.filter fun c => b + n ≤ c.1

/-- R11: bytes as a little-endian number. -/
def leNat : Bytes → Nat
  | [] => 0
  | b :: bs => b.toNat + 256 * leNat bs

/-- R11: the low `k` bytes of a number, lowest first. -/
def leBytes : Nat → Nat → Bytes
  | 0, _ => []
  | k + 1, n => BitVec.ofNat 8 n :: leBytes k (n / 256)

/-- A little-endian number of `k` bytes at `a`. -/
def mnum (m : Memory) (a k : Nat) : Nat := leNat (mread m a k)

/-- Four little-endian bytes. -/
def le4 (n : Nat) : Bytes := leBytes 4 n

/-- The number in bytes `a` to `a + k − 1` of a run of bytes; missing bytes are 0. -/
def bnum (bs : Bytes) (a k : Nat) : Nat := leNat ((bs.drop a).take k)

/-- A run of `n` zero bytes. -/
def zeros (n : Nat) : Bytes := List.replicate n 0

/-- A run of bytes as a memory from 0. -/
def memOf (bs : Bytes) : Memory := cells 0 bs

/-! ## Lists -/

/-- The positions below `n` of the set bits of a mask. -/
def maskBits (n mask : Nat) : List Nat := (List.range n).filter fun i => bit mask i

/-- The mask of a list of bit positions below `n`. -/
def maskOf (n : Nat) (p : Nat → Bool) : Nat := ((List.range n).map fun i => if p i then 2 ^ i else 0).sum

/-- The least of a list under a key, the first where keys are equal. -/
def argMin {α : Type} (key : α → Nat) : List α → Option α
  | [] => none
  | x :: xs =>
    match argMin key xs with
    | none => some x
    | some y => if key y < key x then some y else some x

/-- A list sorted by rising key, equal keys in their order. -/
def insertBy {α : Type} (key : α → Nat) (x : α) : List α → List α
  | [] => [x]
  | y :: ys => if key x < key y then x :: y :: ys else y :: insertBy key x ys

/-- A list sorted by rising key. -/
def sortBy {α : Type} (key : α → Nat) (xs : List α) : List α := xs.foldl (fun acc x => insertBy key x acc) []

/-- The sum of a list of numbers. -/
def total (xs : List Nat) : Nat := xs.foldr (· + ·) 0

/-! ## Free choices (notes/assumptions/3.md) -/

/-- The next free value. -/
def drawn (s : State) : Nat := Config.free s.fresh

/-- `s` with one free value taken. -/
def advance (s : State) : State := { s with fresh := s.fresh + 1 }

/-- One element of a list, freely chosen; a list of one leaves no choice. -/
def pickOf {α : Type} (xs : List α) (s : State) : Option α × State :=
  match xs with
  | [] => (none, s)
  | [x] => (some x, s)
  | x :: xs => ((x :: xs)[drawn s % (x :: xs).length]?, advance s)

/-- Search upwards and around from `r` for a number below `n` that satisfies `p`, at most `fuel` tries. -/
def searchFrom (n : Nat) (p : Nat → Bool) : Nat → Nat → Option Nat
  | 0, _ => none
  | fuel + 1, r => if p (r % n) then some (r % n) else searchFrom n p fuel (r + 1)

/-- A freely chosen number below `n` that satisfies `p`; `none` where none does. -/
def pickBelow (n : Nat) (p : Nat → Bool) (s : State) : Option Nat × State :=
  (searchFrom n p n (drawn s), advance s)

/-! ## Units -/

/-- Vat `v`. -/
def State.vat (s : State) (v : Nat) : Vat := s.vats.getD v Vat.reset

/-- `s` with vat `v` changed. -/
def State.modVat (s : State) (v : Nat) (f : Vat → Vat) : State := { s with vats := s.vats.modify v f }

/-- Turner `t`. -/
def State.trn (s : State) (t : Nat) : Turner := s.turners.getD t Turner.reset

/-- `s` with turner `t` changed. -/
def State.modTrn (s : State) (t : Nat) (f : Turner → Turner) : State := { s with turners := s.turners.modify t f }

/-- The near store of cluster `c`. -/
def State.nearOf (s : State) (c : Nat) : Memory := s.near.getD c []

/-- `s` with the near store of cluster `c` changed. -/
def State.modNear (s : State) (c : Nat) (f : Memory → Memory) : State := { s with near := s.near.modify c f }

/-- `s` with bytes written to the near store of cluster `c`. -/
def State.nearWrite (s : State) (c a : Nat) (bs : Bytes) : State := s.modNear c fun m => mwrite m a bs

/-- `s` with DMA engine `e` changed. -/
def State.modDx (s : State) (e : Nat) (f : Dx → Dx) : State := { s with dx := s.dx.modify e f }

/-- R20: the cluster of vat `v`. -/
def clusterOfVat (v : Nat) : Nat := v / 2

/-- R20: the cluster of turner `t`. -/
def clusterOfTrn (t : Nat) : Nat := t / 8

/-- R244, R80: bytes of near store in one cluster. -/
def nearSize : Nat := 48 * 2 ^ 20

/-! ## Registers of class RS -/

/-- R12, R589: the applied value of the RS register at `addr`, whose reset value is `rst`. -/
def rsv (s : State) (addr rst : Nat) : Nat := tgetD s.rs addr rst

/-- R280 OBJ_CODE_AREA, in MiB. -/
def objCodeArea (s : State) : Nat := rsv s 0x70020 4
/-- R280 OBJ_SPACE_WAIT, in ms. -/
def objSpaceWait (s : State) : Nat := rsv s 0x70024 10
/-- R280 OBJ_FETCH_TMO, in ms. -/
def objFetchTmo (s : State) : Nat := rsv s 0x70028 500
/-- R594 HOST_FETCH_STREAMS. -/
def hostFetchStreams (s : State) : Nat := rsv s 0xA0004 0
/-- R594 HOST_DATA_TMO, in ms. -/
def hostDataTmo (s : State) : Nat := rsv s 0xA0008 1000
/-- R594 MGT_SADDR. -/
def mgtSaddr (s : State) : Nat := rsv s 0xB0004 0x4C

/-! ## Faulty and absent units -/

/-- R559: a unit (site, number) is fenced. -/
def State.isFenced (s : State) (site unit : Nat) : Bool := s.flt.fenced.contains (site, unit)

/-- R546: a unit is recovering. -/
def State.isRecovering (s : State) (site unit : Nat) : Bool := s.flt.recovering.contains (site, unit)

/-- The boot mode in use is TEST (R599, R600). -/
def State.testMode (s : State) : Bool := s.pkg.mode == 2

/-- R480, R499: a collection whose key slot is KEYED. -/
def State.keyed (s : State) (coll : Nat) : Bool := (tget s.sec.keys coll).any fun k => k.state == 2

/-! ## Throttle reasons (R522) -/

/-- R522: a throttle reason enters: its entry count and cause; no new entry while it is in force. -/
def thrEnter (r cause : Nat) (s : State) : State :=
  if s.pwr.thrOn.contains r || 8 ≤ r then s
  else { s with pwr := { s.pwr with
    thrOn := s.pwr.thrOn ++ [r], thrEnt := s.pwr.thrEnt.modify r fun n => satAdd32 n 1, thrCause := s.pwr.thrCause.set r cause } }

/-- R522: a throttle reason is no longer in force. -/
def thrLeave (r : Nat) (s : State) : State := { s with pwr := { s.pwr with thrOn := s.pwr.thrOn.filter (· != r) } }

/-- R522: one always-on tick counted under every reason in force. -/
def thrTick (s : State) : State :=
  { s with pwr := { s.pwr with
    thrDur := s.pwr.thrDur.zipIdx.map fun e => if s.pwr.thrOn.contains e.2 then satAdd64 e.1 1 else e.1 } }

/-! ## Checksums -/

/-- One bit of a reflected CRC with polynomial `poly`. -/
def crcBit (poly c : Nat) : Nat := if c % 2 = 1 then (c / 2) ^^^ poly else c / 2

/-- One byte of a reflected CRC. -/
def crcByte (poly c b : Nat) : Nat :=
  crcBit poly (crcBit poly (crcBit poly (crcBit poly (crcBit poly (crcBit poly (crcBit poly
    (crcBit poly (c ^^^ b))))))))

/-- A reflected 32-bit CRC, initial and final value all ones. -/
def crcOf (poly : Nat) (bs : Bytes) : Nat := (bs.foldl (fun c b => crcByte poly c b.toNat) max32) ^^^ max32

/-- R11, R406, R556: CRC-32C. -/
def crc32c (bs : Bytes) : Nat := crcOf 0x82F63B78 bs

/-- R441: CRC-32 of IEEE 802.3. -/
def crc32 (bs : Bytes) : Nat := crcOf 0xEDB88320 bs

end Sys2Proof.Machine
end

