-- ==== Sys2Proof/Machine/Records.lean ====
section
/-! DEFINITION. Records, events and the acceptance of command records (chapter 17, R566-R588), shared by every family. -/

namespace Sys2Proof.Machine

open Sys2Proof

/-! ## Status codes (R573) -/

def stOK : Nat := 0x00
def stOPCODE : Nat := 0x01
def stFORMAT : Nat := 0x02
def stPARAM : Nat := 0x03
def stSTATE : Nat := 0x04
def stBUSY : Nat := 0x05
def stACCESS : Nat := 0x06
def stNOT_OWNER : Nat := 0x07
def stPORT : Nat := 0x08
def stLIMIT : Nat := 0x09
def stFULL : Nat := 0x0A
def stALREADY : Nat := 0x0B
def stIN_USE : Nat := 0x0C
def stCONTRACT : Nat := 0x0D
def stKERNEL : Nat := 0x0E
def stSYNC_BUSY : Nat := 0x0F
def stSERVICE : Nat := 0x10
def stTOKEN : Nat := 0x11
def stNO_SPACE : Nat := 0x12
def stNO_SLICE : Nat := 0x13
def stBAD_WHEEL : Nat := 0x14
def stNO_SPARE : Nat := 0x15
def stFENCED : Nat := 0x16
def stMODE : Nat := 0x17
def stNO_SLOT : Nat := 0x18
def stVERSION : Nat := 0x19
def stREGION : Nat := 0x1A
def stSCOPE : Nat := 0x1B
def stSPACE : Nat := 0x1C
def stREFUSED : Nat := 0x1D
def stSIZE : Nat := 0x1E
def stDIGEST : Nat := 0x1F
def stAUTH : Nat := 0x20
def stENTROPY : Nat := 0x21
def stLOCKED : Nat := 0x22
def stNO_IDENTITY : Nat := 0x23
def stNO_ACCESSION : Nat := 0x24
def stDATA : Nat := 0x25
def stTOO_LATE : Nat := 0x26
def stALLOC : Nat := 0x27
def stCONFLICT : Nat := 0x28
def stWAITED : Nat := 0x29

/-! ## Event codes (R574) -/

def evFAULT : Nat := 0x01
def evALLOC_FAIL : Nat := 0x02
def evKV_WATERMARK : Nat := 0x03
def evCAVE_SLICE_REQ : Nat := 0x04
def evCAVE_SLICE_AUTO : Nat := 0x05
def evCAVE_SPARE_LOW : Nat := 0x06
def evCAVE_DAMAGE : Nat := 0x07
def evCLOSURE : Nat := 0x08
def evTABLE_WAIT : Nat := 0x09
def evWHEEL_RETRY : Nat := 0x0A
def evWGT_STOPPED : Nat := 0x0B
def evFAB_MISWIRE : Nat := 0x0C
def evFAB_FENCED : Nat := 0x0D
def evTWIN_BROKEN : Nat := 0x0E
def evTWIN_RESUMED : Nat := 0x0F
def evEVENTS_LOST : Nat := 0x10
def evCOOLANT_LOST : Nat := 0x11
def evCOOLANT_RESTORED : Nat := 0x12
def evXTAL_FAIL : Nat := 0x13
def evFW_FALLBACK : Nat := 0x14
def evKEEP_REPORT : Nat := 0x15
def evOWNER_CHANGED : Nat := 0x16
def evCHG_DISCARDED : Nat := 0x17

/-! ## Record types (R571) -/

def tyREPLY : Nat := 1
def tyRESULT : Nat := 2
def tyINSTANCE : Nat := 3
def tyLOAD : Nat := 4
def tyMIGRATION : Nat := 5
def tyFETCH : Nat := 6
def tyFETCH_CANCEL : Nat := 7
def tyEVENT : Nat := 8

/-! ## Ports -/

/-- The traffic of a port. -/
def HostSt.portq (h : HostSt) (p : Port) : PortQ :=
  match p with
  | .usb => h.usb
  | .mgt => h.mgt
  | .fabric => h.fabric
  | .monitor => h.monitor

/-- The traffic of a port changed. -/
def HostSt.modPort (h : HostSt) (p : Port) (f : PortQ → PortQ) : HostSt :=
  match p with
  | .usb => { h with usb := f h.usb }
  | .mgt => { h with mgt := f h.mgt }
  | .fabric => { h with fabric := f h.fabric }
  | .monitor => { h with monitor := f h.monitor }

/-- The traffic of a port. -/
def State.portq (s : State) (p : Port) : PortQ := s.host.portq p

/-- `s` with the traffic of a port changed. -/
def State.modPort (s : State) (p : Port) (f : PortQ → PortQ) : State := { s with host := s.host.modPort p f }

/-- R594 OWN_STATUS: the code of a port. -/
def portCode : Option Port → Nat
  | none => 0
  | some .usb => 1
  | some .mgt => 2
  | some .fabric => 3
  | some .monitor => 4

/-- R637: the management port works as an I3C target once it has a dynamic address. -/
def State.i3c (s : State) : Bool := s.host.dynAddr.isSome

/-- R579: an in-band interrupt where a management queue becomes non-empty in I3C mode. -/
def ibiIf (was : Bool) (p : Port) (s : State) : State :=
  if was && p == .mgt && s.i3c then { s with host := { s.host with ibi := s.host.ibi + 1 } } else s

/-- R571, R576, R588: a record queued for a port; a record for USB while it is detached is discarded and counted. -/
def pushRec (p : Port) (r : Rec) (s : State) : State :=
  if (s.portq p).attached then
    ibiIf (s.portq p).recs.isEmpty p (s.modPort p fun q => { q with recs := q.recs ++ [r] })
  else if p = .usb then { s with host := { s.host with discarded := satAdd32 s.host.discarded 1 } }
  else s

/-- R576: an event queued for a port; where its queue is full it is dropped and counted. -/
def pushEvt (p : Port) (r : Rec) (s : State) : State :=
  if (s.portq p).evts.length < 256 then
    ibiIf (s.portq p).evts.isEmpty p (s.modPort p fun q => { q with evts := q.evts ++ [r] })
  else s.modPort p fun q => { q with lostEv := q.lostEv + 1 }

/-- R571: a record of a type, its SEQ not yet assigned. -/
def mkRec (ty tag code : Nat) (payload : Bytes) : Rec :=
  { ty := ty, flags := 0, tag := tag, seq := 0, code := code, payload := payload }

/-- R575: the ports to which an event goes. -/
def eventPorts (s : State) : List Port :=
  [Port.usb, .mgt, .fabric].filter fun p => s.host.owner == some p || (p != .fabric && (s.portq p).attached)

/-- R514, R635: in SLEEP the package signals an event by driving WAKE_N low. -/
def wakeHost (s : State) : State :=
  if s.pwr.pkg = 3 then { s with pkg := { s.pkg with wakeDriven := true } } else s

/-- R611: while TRACE is on the monitor prints each event record. -/
def traceEvent (code : Nat) (payload : Bytes) (s : State) : State :=
  if s.mon.session && s.mon.trace then
    { s with mon := { s.mon with
        out := ⟨0, "event", code :: payload.map BitVec.toNat⟩ :: s.mon.out } }
  else s

/-- R574, R575: an event sent. -/
def sendEvent (code : Nat) (payload : Bytes) (s : State) : State :=
  wakeHost (traceEvent code payload
    ((eventPorts s).foldl (fun t p => pushEvt p (mkRec tyEVENT 0 code payload) t) s))

/-! ## Replies -/

/-- What a command answers: R573 status, R572 bytes 0-3, bytes 4-7, small results, result data. -/
structure Ans where
  /-- status of R573 -/
  status : Nat := 0
  /-- bytes 0-3 -/
  value : Nat := 0
  /-- bytes 4-7 -/
  detail : Nat := 0
  /-- bytes 8-111 -/
  small : Bytes := []
  /-- result data -/
  rdata : Option Bytes := none
deriving DecidableEq, Repr, Inhabited

/-- The answer OK with a value. -/
def Ans.ok (v : Nat := 0) : Ans := { value := v }

/-- The answer of a status. -/
def Ans.err (st : Nat) (detail : Nat := 0) : Ans := { status := st, detail := detail }

/-- R572, R580: a REPLY queued, with its result data returned on the stream or placed in MGT_DATA. -/
def reply (p : Port) (tag stream : Nat) (a : Ans) (s : State) : State :=
  let pl := le4 a.value ++ le4 a.detail ++ a.small
  match a.rdata with
  | none => pushRec p (mkRec tyREPLY tag a.status pl) s
  | some d =>
    if p = .mgt then
      pushRec p { mkRec tyREPLY tag a.status pl with flags := 1 }
        { s with host := { s.host with mgtData := mwrite s.host.mgtData 0 d } }
    else
      pushRec p { mkRec tyREPLY tag a.status pl with flags := 1 }
        (s.modPort p fun q => { q with rdata := (stream, d) :: q.rdata })

/-- The outstanding command of a port with a tag that has not been refused. -/
def findOut (p : Port) (tag : Nat) (s : State) : Option Outst :=
  (s.portq p).outst.find? fun o => o.tag == tag && o.fail.isNone

/-- `s` without the outstanding command of a port with a tag. -/
def dropOut (p : Port) (tag : Nat) (s : State) : State :=
  s.modPort p fun q => { q with outst := q.outst.filter fun o => !(o.tag == tag && o.fail.isNone) }

/-- The answer of a command that waited: its REPLY, and it is no longer outstanding (R569, R588). -/
def answer (p : Port) (tag : Nat) (a : Ans) (s : State) : State :=
  match findOut p tag s with
  | none => s
  | some o => reply p tag o.stream a (dropOut p tag s)

/-! ## Acceptance -/

/-- What the effect of a command is: from its data and the state to an answer, or none where it waits, and the next
state. -/
abbrev Effect := Bytes → State → Option Ans × State

/-- What acceptance must know of a command. -/
structure Need where
  /-- R584: a port that is not the owner may issue it -/
  anyone : Bool := false
  /-- R601: accepted in RECOVERY -/
  recovery : Bool := false
  /-- R567: bytes of its data-borne parameters of fixed length -/
  dlen : Nat := 0
deriving DecidableEq, Repr, Inhabited

/-- R597, R555, R569, R601: whether a port's command record is taken at all; otherwise it is NAKed. -/
def takes (p : Port) (s : State) : Bool :=
  (s.portq p).attached && !s.flt.fatal && (s.portq p).outst.length < 256 && p != .monitor &&
    s.pwr.pkg != 3 && (s.pkg.phase == .ready || (s.pkg.phase == .recovery && p == .usb))

/-- R566, R567, R569, R570, R580, R584, R585, R601: the status with which a command record that has been taken ends
at once, or none where it is accepted. The order of the checks is the model's (notes/assumptions/18.md). -/
def refusal (h : Hdr) (n : Need) (s : State) : Option Nat :=
  let data := bit h.flags 0
  if 4 ≤ h.flags || h.rsv != 0 || h.tail != 0 || (s.portq h.port).outst.any (·.tag == h.tag) || (data && h.dlen == 0) ||
      (!data && h.dlen != 0) || h.dlen < n.dlen then some stPARAM
  else if h.port == .mgt && h.stream != 0 then some stPARAM
  else if h.port != .mgt && h.flags == 0 && h.stream != 0 then some stPARAM
  else if h.port == .usb && h.flags != 0 &&
      (h.stream == 0 || 32 < h.stream || bit (hostFetchStreams s) (h.stream - 1)) then some stPARAM
  else if h.port == .mgt && 8192 < h.dlen then some stPORT
  else if h.port == .fabric && h.flags != 0 then some stPORT
  else if s.pkg.phase == .recovery && !n.recovery then some stMODE
  else if !n.anyone && s.host.owner != some h.port then some stNOT_OWNER
  else none

/-- R594 HOST_COMMANDS: a command record taken from USB. -/
def countCommand (p : Port) (s : State) : State :=
  { s with host := { s.host with commands := if p = .usb then satAdd64 s.host.commands 1 else s.host.commands } }

/-- R580: the answer of a management command whose result data exceed 8,192 bytes is PORT. -/
def capMgt (p : Port) (a : Ans) : Ans :=
  if p = .mgt && (a.rdata.any fun d => 8192 < d.length) then Ans.err stPORT else a

/-- The bytes of a stream that no command has taken. -/
def streamBuf (p : Port) (stream : Nat) (s : State) : Bytes := tgetD (s.portq p).sbuf stream []

/-- A command waits for data on a stream. -/
def streamBusy (p : Port) (stream : Nat) (s : State) : Bool :=
  (s.portq p).outst.any fun o => o.waitData && o.stream == stream

/-- A stream's buffer set; an empty one is not listed. -/
def putBuf (t : Tab Bytes) (stream : Nat) (b : Bytes) : Tab Bytes :=
  if b.isEmpty then terase t stream else tset t stream b

/-- Take `n` bytes from a stream's buffer. -/
def takeStream (p : Port) (stream n : Nat) (s : State) : State :=
  s.modPort p fun q => { q with sbuf := putBuf q.sbuf stream ((tgetD q.sbuf stream []).drop n) }

/-- A command entered as outstanding (R569), with the status it will end with where it has been refused. -/
def addOut (h : Hdr) (wait : Bool) (c : Instr) (s : State) (fail : Option (Nat × Nat) := none) : State :=
  s.modPort h.port fun q => { q with outst := q.outst ++
    [{ tag := h.tag, stream := h.stream, dlen := h.dlen, waitData := wait, fail := fail, rdata := bit h.flags 1, cmd := c }] }

/-- The effect run on its data: a command that answers is replied to and no longer outstanding. -/
def runEffect (p : Port) (tag : Nat) (eff : Effect) (d : Bytes) (s : State) : State :=
  let r := eff d s
  match r.1 with
  | some a => answer p tag (capMgt p a) r.2
  | none => r.2

/-- R567, R570: a refused command whose data are nevertheless taken from its stream: DLEN is not below what its data-borne
parameters need, and the stream exists and carries command data. -/
def drains (h : Hdr) (n : Need) (s : State) : Bool :=
  h.port == .usb && bit h.flags 0 && h.dlen != 0 && n.dlen ≤ h.dlen && 1 ≤ h.stream && h.stream ≤ 32 &&
    !bit (hostFetchStreams s) (h.stream - 1)

/-- R569, R570: a command refused at its acceptance ends with its status, after its data have been taken in the stream's
order (DEDUCED: the record has been accepted, so its data are no other command's). -/
def refuse (h : Hdr) (n : Need) (a : Ans) (c : Instr) (s : State) : State :=
  if !drains h n s then reply h.port h.tag h.stream a s
  else if !streamBusy h.port h.stream s && h.dlen ≤ (streamBuf h.port h.stream s).length then
    reply h.port h.tag h.stream a (takeStream h.port h.stream h.dlen s)
  else addOut h true c s (some (a.status, a.detail))

/-- A command record arrives (R566-R570, R584): it is NAKed, ends refused, waits for its data, or has its effect. `pre` is
what its own rules answer at its acceptance, before any data. -/
def hostCmdPre (h : Hdr) (n : Need) (pre : State → Option Ans) (eff : Effect) (c : Instr) (s : State) : State :=
  if !takes h.port s then s.modPort h.port fun q => { q with naks := q.naks + 1 }
  else
    let s := countCommand h.port s
    match (refusal h n s).map (fun st => Ans.err st) <|> pre s with
    | some a => refuse h n a c s
    | none =>
      if h.dlen = 0 then runEffect h.port h.tag eff [] (addOut h false c s)
      else if h.port = .mgt then
        runEffect h.port h.tag eff (mread s.host.mgtData 0 h.dlen) (addOut h false c s)
      else if !streamBusy h.port h.stream s && h.dlen ≤ (streamBuf h.port h.stream s).length then
        runEffect h.port h.tag eff ((streamBuf h.port h.stream s).take h.dlen)
          (takeStream h.port h.stream h.dlen (addOut h false c s))
      else addOut h true c s

/-- The same for a command whose own rules are all applied in its effect. -/
def hostCmd (h : Hdr) (n : Need) (eff : Effect) (c : Instr) (s : State) : State := hostCmdPre h n (fun _ => none) eff c s

end Sys2Proof.Machine
end

