-- ==== Sys2Proof/Machine/ObjOps.lean ====
section
/-! DEFINITION. Objects and their copies (chapter 07): handles, sources, reads and writes, near-store and main-store
space, pins, access. -/

namespace Sys2Proof.Machine

open Sys2Proof

/-! ## Handles (R245) -/

/-- R245: the INDEX of a handle. -/
def hIdx (h : Nat) : Nat := h % 2 ^ 15

/-- R245: the GEN of a handle. -/
def hGen (h : Nat) : Nat := bits h 30 15

/-- R245: the handle of the object at an index. -/
def mkHandle (i : Nat) (o : Obj) : Nat := o.gen * 2 ^ 15 + i

/-- The object at an index of the table. -/
def objAt (s : State) (i : Nat) : Option Obj := tget s.obj.tab i

/-- R245: the object a handle names, with its index; a stale handle names none. -/
def objOf (s : State) (h : Nat) : Option (Nat × Obj) :=
  match objAt s (hIdx h) with
  | some o => if h < 2 ^ 31 && hGen h == o.gen then some (hIdx h, o) else none
  | none => none

/-- `s` with the object at an index changed. -/
def modObj (s : State) (i : Nat) (f : Obj → Obj) : State := { s with obj := { s.obj with tab := tmod s.obj.tab i f } }

/-- R246 KIND: writable. -/
def Obj.rw (o : Obj) : Bool := bit o.kind 0

/-- R246 KIND: SEALED. -/
def Obj.isSealed (o : Obj) : Bool := bit o.kind 1

/-- R246 KIND: ROLE, 0 PLAIN, 1 WHEY, 2 CARRY. -/
def Obj.role (o : Obj) : Nat := bits o.kind 3 2

/-- R143: the group mask of a carry object. -/
def Obj.gmask (o : Obj) : Nat := o.homeref % 256

/-- R250: the TIER of PLACE. -/
def Obj.tier (o : Obj) : Nat := o.place % 4

/-- R250: the PIN of PLACE. -/
def Obj.pinBit (o : Obj) : Bool := bit o.place 2

/-- R250: the PFD of PLACE. -/
def Obj.pfd (o : Obj) : Nat := bits o.place 5 3

/-- R242: the device address of its first byte. -/
def Obj.devBase (o : Obj) : Nat := o.dbase * 2 ^ 16

/-- R413: LSTATE READY. -/
def lsREADY : Nat := 2

/-- R244: its size rounded up to whole 4 KiB, as near-store copies are allocated. -/
def Obj.nearBytes (o : Obj) : Nat := roundUp o.size 4096

/-- R242, R244: its size rounded up to whole 64 KiB. -/
def Obj.mainBytes (o : Obj) : Nat := roundUp o.size 65536

/-- R246 NSMASK bit c: cluster c holds a copy. -/
def Obj.inNear (o : Obj) (c : Nat) : Bool := bit o.nsmask c

/-- The near-store offset of its copy in cluster c. -/
def Obj.nearOff (o : Obj) (c : Nat) : Nat := (o.ns.getD c none).getD 0

/-- Set or clear a bit of a mask. -/
def setBit (m i : Nat) (b : Bool) : Nat := if b then (if bit m i then m else m + 2 ^ i) else if bit m i then m - 2 ^ i else m

/-! ## Stores -/

/-- R241: main store in bytes. -/
def mainSize (s : State) : Nat := (if s.part.code = 0 then 32 else 64) * 2 ^ 30

/-- R342: the bytes Fb of a frame of a class with La layers and H heads. -/
def frameBytes (la hh : Nat) : Nat := roundUp (16 * la * hh * 260) 4096

/-- R380 KVE_CLASS_c. -/
def kveClass (s : State) (c : Nat) : Nat := rsv s (0x60000 + 4 * c) 0

/-- R341: La of a class. -/
def classLayers (s : State) (c : Nat) : Nat := kveClass s c % 256

/-- R341: H of a class. -/
def classHeads (s : State) (c : Nat) : Nat := bits (kveClass s c) 12 8

/-- R341, R380: F of a class as KVE_FRAMES_c sets it. -/
def framesSet (s : State) (c : Nat) : Nat := rsv s (0x60010 + 4 * c) 0

/-- R341: the frames of a class; an unused class has none. -/
def classFrames (s : State) (c : Nat) : Nat := if classLayers s c = 0 then 0 else framesSet s c

/-- R342: Fb of a class; 0 while the class is unused. -/
def classFb (s : State) (c : Nat) : Nat := frameBytes (classLayers s c) (classHeads s c)

/-- R344: the page region's size in bytes. -/
def pageRegion (s : State) : Nat :=
  roundUp ((s.kve.extents.map fun e => e.2.1 + e.2.2 * classFb s e.1).foldl max 0) 65536

/-- R243: the object region's size in bytes. -/
def objectRegion (s : State) : Nat := mainSize s - 512 * 2 ^ 20 - pageRegion s

/-- R249: main-store bytes reserved for objects. -/
def mainReserved (s : State) : Nat :=
  total (s.obj.tab.map fun e => if e.2.rw || e.2.home == 0 then e.2.mainBytes else 0)

/-- R271, R280 OBJ_MAIN_CACHED: bytes of main-store copies of read-only objects with home CAVE or HOST. -/
def mainCachedAll (s : State) : Nat :=
  total (s.obj.tab.map fun e => if !e.2.rw && e.2.home != 0 && (e.2.res || e.2.mstate == 1) then e.2.mainBytes else 0)

/-- R271: a main-store copy that may be dropped under pressure. -/
def Obj.mainDroppable (o : Obj) : Bool :=
  !o.rw && o.home != 0 && o.res && o.mstate == 0 && o.pins == 0 && !(o.pinBit && 1 ≤ o.tier)

/-- R280 OBJ_MAIN_CACHED: bytes of droppable read-only copies in main store. -/
def mainCached (s : State) : Nat := total (s.obj.tab.map fun e => if e.2.mainDroppable then e.2.mainBytes else 0)

/-- R380 KVE_HOOP_POOL, in MiB. -/
def hoopPool (s : State) : Nat := rsv s 0x60060 64

/-- R244: a cluster's share of the hoop pool in bytes. -/
def hoopShare (s : State) : Nat := hoopPool s * 2 ^ 20 / 8

/-- The near-store offset at which the hoop share begins; the manual gives the three parts no order
(notes/assumptions/19.md). -/
def hoopBase (s : State) : Nat := nearSize - hoopShare s

/-- R244: the object area's first byte and size in a cluster's near store. -/
def areaBase (s : State) : Nat := objCodeArea s * 2 ^ 20

/-- R244: the object area's size in bytes. -/
def areaSize (s : State) : Nat := hoopBase s - areaBase s

/-- The near-store ranges (offset, bytes) that copies hold in a cluster, those being written or evicted included. -/
def nearUsed (s : State) (c : Nat) : List (Nat × Nat) :=
  s.obj.tab.filterMap fun e => (e.2.ns.getD c none).map fun off => (off, e.2.nearBytes)

/-- R280 OBJ_NS_FREE_c in bytes: what the copies inside the object area leave of it. -/
def nearFree (s : State) (c : Nat) : Nat :=
  let last := areaBase s + areaSize s
  areaSize s - total ((nearUsed s c).map fun r => min (r.1 + r.2) last - max r.1 (areaBase s))

/-- Whether `n` bytes at `off` overlap none of the ranges. -/
def rangeFree (used : List (Nat × Nat)) (off n : Nat) : Bool := used.all fun r => off + n ≤ r.1 || r.1 + r.2 ≤ off

/-- R244, R268: a free place for `n` bytes in a cluster's object area, in units of 4 KiB; which one the manual leaves
open (notes/assumptions/3.md). -/
def nearPlace (s : State) (c n : Nat) : Option Nat × State :=
  let units := (areaSize s + 4096 - n) / 4096
  let r := pickBelow units (fun u => n ≤ areaSize s && rangeFree (nearUsed s c) (areaBase s + 4096 * u) n) s
  (r.1.map fun u => areaBase s + 4096 * u, r.2)

/-! ## Reading and writing copies -/

/-- A memory and the offset in it at which an object's copy begins. -/
abbrev Place := Memory × Nat

/-- The first cluster whose near store holds a copy. -/
def firstNear (o : Obj) : Option Nat := (List.range 8).find? fun c => o.inNear c

/-- R254, R258: the copy that a reader takes: a near-store copy, then the main-store copy. -/
def copyOf (s : State) (o : Obj) : Option Place :=
  match firstNear o with
  | some c => some (s.nearOf c, o.nearOff c)
  | none => if o.res then some (s.main, o.devBase) else none

/-- `n` bytes of an object from `off`, or none where no copy lies in near store or main store. -/
def objRead (s : State) (o : Obj) (off n : Nat) : Option Bytes := (copyOf s o).map fun p => mread p.1 (p.2 + off) n

/-- R541: what damage leaves no good copy of: a writable object, or a read-only one with home MAIN that no near store holds. -/
def Obj.lost (o : Obj) : Bool := o.damaged && (o.rw || (o.home == 0 && (firstNear o).isNone))

/-- R254: `s` with bytes written to the authoritative copy of a writable object, or to the main-store copy of a
read-only object with home MAIN that is being filled. -/
def objWrite (s : State) (i : Nat) (off : Nat) (bs : Bytes) : State :=
  match objAt s i with
  | none => s
  | some o =>
    match firstNear o with
    | some c => s.nearWrite c (o.nearOff c + off) bs
    | none => { s with main := mwrite s.main (o.devBase + off) bs }

/-- R421: the collection owns the object or has been granted it. -/
def mayRead (s : State) (coll i : Nat) (o : Obj) : Bool := o.coll == coll || s.obj.grants.contains (i, coll)

/-! ## Pins and use (R259, R270) -/

/-- R259: every object of a list can take one more pin. -/
def canPin (s : State) (is : List Nat) : Bool :=
  is.all fun i => (objAt s i).all fun o => o.pins + (is.filter (· == i)).length ≤ 65535

/-- R259: one pin on each object of a list. -/
def pin (s : State) (is : List Nat) : State := is.foldl (fun t i => modObj t i fun o => { o with pins := o.pins + 1 }) s

/-- R280 OBJ_EVICTIONS: `n` further evictions. -/
def countEvictions (s : State) (n : Nat) : State := { s with obj := { s.obj with evictions := satAdd64 s.obj.evictions n } }

/-- R251: the clusters whose copies of an object with TIER CAVE or HOST no task or move needs. -/
def Obj.surplus (o : Obj) : List Nat :=
  if o.rw || o.tier ≤ 1 || o.pins != 0 || o.pinBit || o.mstate == 1 || o.nsprom != 0 then []
  else (List.range 8).filter fun c => o.inNear c && !bit o.nsevict c

/-- R251: the copies of an object with TIER CAVE or HOST that nothing needs are dropped. -/
def dropSurplus (s : State) (i : Nat) : State :=
  match objAt s i with
  | none => s
  | some o =>
    let cs := o.surplus
    let main := !o.rw && 1 < o.tier && o.pins == 0 && !o.pinBit && o.nsprom == 0 && o.home != 0 && o.res && o.mstate == 0
    countEvictions (modObj s i fun o => cs.foldl (fun o c =>
      { o with ns := o.ns.set c none, nsmask := setBit o.nsmask c false }) { o with res := o.res && !main }) (cs.length + b2n main)

/-- R259: one pin released on each object of a list; what TIER keeps only while it is needed goes (R251). -/
def unpin (s : State) (is : List Nat) : State :=
  is.foldl (fun t i => dropSurplus (modObj t i fun o => { o with pins := o.pins - 1 }) i) s

/-- R270: use recorded on each object of a list. -/
def recordUse (s : State) (is : List Nat) : State :=
  is.foldl (fun t i =>
    modObj { t with obj := { t.obj with useSeq := t.obj.useSeq + 1 } } i
      fun o => { o with used := t.obj.useSeq + 1 }) s

/-! ## Result codes of R262 -/

def mrDONE : Nat := 0x00
def mrALREADY : Nat := 0x01
def mrREFUSED_PINNED : Nat := 0x02
def mrREFUSED_HOME : Nat := 0x03
def mrREFUSED_KIND : Nat := 0x04
def mrFAILED_SPACE : Nat := 0x05
def mrFAILED_DAMAGED : Nat := 0x06
def mrFAILED_FETCH : Nat := 0x07
def mrCANCELLED_CLOSED : Nat := 0x08
def mrCANCELLED_FREED : Nat := 0x09

/-! ## Exception codes of tasks (R113, R194, R267) -/

def xVAT_OP : Nat := 0x01
def xVAT_ADDR : Nat := 0x02
def xVAT_ALIGN : Nat := 0x03
def xVAT_PARAM : Nat := 0x04
def xVAT_MODE : Nat := 0x05
def xOBJ_SPACE : Nat := 0x20
def xOBJ_DAMAGED : Nat := 0x21
def xOBJ_UNREACHABLE : Nat := 0x22
def xOBJ_GONE : Nat := 0x23

/-! ## Sizes of sparse-pack regions and moves -/

/-- R323: frames of a region of U bytes. -/
def frameCount (u : Nat) : Nat := (u + 4095) / 4096

/-- R326: T, the bytes before the first slot. -/
def tableBytes (u : Nat) : Nat := 64 * ((2 * frameCount u + 63) / 64)

/-- R326: S(U). -/
def codedSize (u : Nat) : Nat := tableBytes u + u

/-- Bytes that a move reads and writes (R327). -/
def moveSpan (q : MoveReq) : Nat × Nat :=
  (if q.xf = 2 then codedSize q.len else q.len, if q.xf = 1 then codedSize q.len else q.len)

end Sys2Proof.Machine
end

