-- ==== Sys2Proof/Machine/FabOps.lean ====
section
/-! DEFINITION. The fabric map: topologies, links and routes (R446-R452, R465); flits, and the frames and control messages
that this package sends (R441-R447); the vat levels that a pace notice asks for (R459). -/

namespace Sys2Proof.Machine

open Sys2Proof

/-- R468 FAB_ID. -/
def fabId (s : State) : Nat := rsv s 0x90000 s.part.fabId

/-- R468 FAB_GMEM_g: the member mask of a group. -/
def groupMask (s : State) (g : Nat) : Nat := rsv s (0x90040 + 8 * g) 0

/-- R468 FAB_GCTL_g. -/
def groupCtl (s : State) (g : Nat) : Nat := rsv s (0x90044 + 8 * g) 0

/-- R453: the group is VALID. -/
def groupValid (s : State) (g : Nat) : Bool := g < 8 && bit (groupCtl s g) 5

/-- R453: the coordinator's package number. -/
def groupCoord (s : State) (g : Nat) : Nat := groupCtl s g % 32

/-- R453: the packages of a group in ascending order; the member index is the place in this list. -/
def groupMembers (s : State) (g : Nat) : List Nat := maskBits 24 (groupMask s g)

/-- R468 FAB_TOPO: the topology code. -/
def topoOf (s : State) : Nat := rsv s 0x90008 0 % 4

/-- R468 FAB_TOPO: n. -/
def nPkgs (s : State) : Nat := bits (rsv s 0x90008 0) 12 8

/-- R449: the neighbour of port `k` of package `p` among `n`: its package and port. -/
def neighbour (topo n p k : Nat) : Option (Nat × Nat) :=
  let ring (b h : Nat) : Option (Nat × Nat) :=
    if k = 0 then some (b + (p - b + 1) % h, 1) else if k = 1 then some (b + (p - b + h - 1) % h, 0) else none
  if n ≤ p then none
  else if topo = 1 then ring 0 n
  else if topo = 2 then
    let r := p / 6
    let c := p % 6
    if k = 0 then some (6 * r + (c + 1) % 6, 1)
    else if k = 1 then some (6 * r + (c + 5) % 6, 0)
    else if k = 2 then some (6 * ((r + 1) % 4) + c, 3)
    else if k = 3 then some (6 * ((r + 3) % 4) + c, 2)
    else none
  else if topo = 3 then
    let h := n / 2
    if k = 2 then some ((p + h) % n, 2) else ring (p / h * h) h
  else none

/-- R449: the mask of the ports a topology uses. -/
def topoPorts (topo : Nat) : Nat := if topo = 1 then 3 else if topo = 2 then 15 else if topo = 3 then 7 else 0

/-- R449: the neighbour of a port of a package under the applied fabric map. -/
def neighbourOf (s : State) (p k : Nat) : Option (Nat × Nat) := neighbour (topoOf s) (nPkgs s) p k

/-- R446: the ring or dimension of a port's link. -/
def linkDim (topo n p k : Nat) : Nat :=
  if topo = 2 then k / 2 else if topo = 3 then if k = 2 then 2 else p / (n / 2) else 0

/-- R446: a link is a dateline link. -/
def isDateline (topo n p k : Nat) : Bool :=
  match neighbour topo n p k with
  | none => false
  | some (q, _) =>
    let ends (lo hi : Nat) : Bool := (p == lo && q == hi) || (p == hi && q == lo)
    if topo = 1 then ends 0 (n - 1)
    else if topo = 2 then
      if k < 2 then ends (p / 6 * 6) (p / 6 * 6 + 5) else ends (p % 6) (18 + p % 6)
    else if topo = 3 && k < 2 then ends (p / (n / 2) * (n / 2)) (p / (n / 2) * (n / 2) + n / 2 - 1)
    else false

/-- R452: a link is known UP: an own port by its state, any other link while neither end has been reported DOWN. -/
def linkUp (s : State) (p k : Nat) : Bool :=
  match neighbourOf s p k with
  | none => false
  | some (q, j) =>
    let own (a b : Nat) : Bool := a != fabId s || (s.fab.ports[b]?).any fun x => x.state == 3
    own p k && own q j && !s.fab.down.contains (p, k) && !s.fab.down.contains (q, j)

/-- A walk of the routing search: package, ring or dimension (3 before the first hop), dateline crossed in it,
dimensions left, first port, hops. -/
structure Walk where
  /-- package reached -/
  at_ : Nat
  /-- ring or dimension of the last hop -/
  dim : Nat
  /-- R446: its dateline has been crossed -/
  crossed : Bool
  /-- R446: rings and dimensions left -/
  left : List Nat
  /-- first-hop port -/
  first : Nat
  /-- hops -/
  hops : Nat
deriving DecidableEq, Repr, Inhabited

/-- R446, R452: one further hop of a walk over a link known UP. -/
def Walk.step (s : State) (w : Walk) (k : Nat) : Option Walk :=
  let topo := topoOf s
  let n := nPkgs s
  match neighbour topo n w.at_ k with
  | none => none
  | some (q, _) =>
    let d := linkDim topo n w.at_ k
    let turn := d != w.dim
    let line := isDateline topo n w.at_ k
    if !linkUp s w.at_ k || w.left.contains d || (!turn && w.crossed && line) then none
    else
      some { at_ := q, dim := d, crossed := if turn then line else w.crossed || line,
             left := if turn then w.dim :: w.left else w.left, first := if w.hops = 0 then k else w.first,
             hops := w.hops + 1 }

/-- The walks of one further hop that reach a standing not seen yet. -/
def widen (s : State) (seen front : List Walk) : List Walk :=
  (front.flatMap fun w => (List.range 6).filterMap (w.step s)).foldl (fun acc w =>
    if (seen ++ acc).any fun x => x.at_ == w.at_ && x.dim == w.dim && x.crossed == w.crossed && x.left == w.left &&
        x.first == w.first then acc else acc ++ [w]) []

/-- R452: the walks of the fewest hops from a package to `q`. -/
def searchRoute (s : State) (q : Nat) : Nat → List Walk → List Walk → Option Walk
  | 0, _, _ => none
  | fuel + 1, seen, front =>
    match argMin (·.first) (front.filter fun w => w.at_ == q) with
    | some w => some w
    | none =>
      let next := widen s seen front
      if next.isEmpty then none else searchRoute s q fuel (seen ++ next) next

/-- R451: the port that the shorter direction of a ring of `h` takes from `i` to `j`; port `k` on a tie. -/
def ringPort (h i j k : Nat) : Nat := if (j + h - i) % h ≤ (i + h - j) % h then k else k + 1

/-- R451: the first port of the primary route from `p` to `q`. -/
def primaryPort (topo n p q : Nat) : Option Nat :=
  if p = q ∨ n ≤ p ∨ n ≤ q then none
  else if topo = 1 then some (ringPort n p q 0)
  else if topo = 2 then
    if p % 6 = q % 6 then some (ringPort 4 (p / 6) (q / 6) 2) else some (ringPort 6 (p % 6) (q % 6) 0)
  else if topo = 3 then
    let h := n / 2
    if p / h = q / h then some (ringPort h (p % h) (q % h) 0) else some 2
  else none

/-- R451: the links of the primary route from `p` to `q`. -/
def primaryPath (topo n q : Nat) : Nat → Nat → List (Nat × Nat)
  | 0, _ => []
  | fuel + 1, p =>
    match primaryPort topo n p q with
    | none => []
    | some k =>
      match neighbour topo n p k with
      | none => []
      | some (r, _) => (p, k) :: primaryPath topo n q fuel r

/-- R451, R452, R468: the route from `p` to `q`: first-hop port, hops, ALT; none where `q` cannot be reached. -/
def routeFrom (s : State) (p q : Nat) : Option (Nat × Nat × Bool) :=
  let path := primaryPath (topoOf s) (nPkgs s) q 24 p
  if p = q ∨ nPkgs s ≤ p ∨ nPkgs s ≤ q ∨ path.isEmpty then none
  else if path.all fun e => linkUp s e.1 e.2 then some (((path.head?).map (·.2)).getD 7, path.length, false)
  else
    (searchRoute s q 25 [] [{ at_ := p, dim := 3, crossed := false, left := [], first := 7, hops := 0 }]).map fun w =>
      (w.first, w.hops, !((path.head?).map (·.2) == some w.first && path.length == w.hops))

/-- R468 FAB_ROUTE_d of this package. -/
def routeTo (s : State) (q : Nat) : Option (Nat × Nat × Bool) := routeFrom s (fabId s) q

/-- R468 FAB_REACH: the packages that can be reached. -/
def reachable (s : State) : List Nat := (List.range 24).filter fun q => (routeTo s q).isSome

/-- R465: package `q` is to be declared lost: every link that the fabric map gives it is reported DOWN by its
neighbour, or the neighbour is itself lost. -/
def judgeLost (s : State) (lost : List Nat) (q : Nat) : Bool :=
  let ks := maskBits 6 (topoPorts (topoOf s))
  q != fabId s && q < nPkgs s && !ks.isEmpty && ks.all fun k =>
    match neighbourOf s q k with
    | some (m, j) => s.fab.down.contains (m, j) || lost.contains m
    | none => false

/-- R465: the packages newly lost, the loss of one following from that of another. -/
def newlyLost (s : State) : Nat → List Nat → List Nat
  | 0, acc => acc
  | fuel + 1, acc =>
    match (List.range 24).filter fun q => !(s.fab.lost ++ acc).contains q && judgeLost s (s.fab.lost ++ acc) q with
    | [] => acc
    | qs => newlyLost s fuel (acc ++ qs)

/-- R465: the packages to which a message can be sent now. -/
def others (s : State) : List Nat := (reachable s).filter fun q => q != fabId s && !s.fab.lost.contains q

/-! ## Ports -/

/-- `s` with the fabric block changed. -/
def modFab (s : State) (f : Fab → Fab) : State := { s with fab := f s.fab }

/-- Port `p`. -/
def portAt (s : State) (p : Nat) : FPort := s.fab.ports.getD p FPort.reset

/-- `s` with port `p` changed. -/
def modFPort (s : State) (p : Nat) (f : FPort → FPort) : State := modFab s fun b => { b with ports := b.ports.modify p f }

/-! ## Flits (R441) -/

/-- R441: the header read from a flit. -/
def flitHdr (b : Bytes) : FlitHdr :=
  let h := bnum b 0 12
  { seq := bits h 95 84, ack := bits h 83 72, vc := bits h 71 70, dcl := bits h 69 69, ccl := bits h 68 68,
    ty := bits h 67 64, coll := bits h 63 58, first := bit h 57, last := bit h 56, src := bits h 55 51,
    dst := bits h 50 46, len := bits h 45 38, ttl := bits h 37 33, credit := bits h 31 0 }

/-- R441: a flit is whole and its CRC is good. -/
def flitOK (b : Bytes) : Bool := b.length == 256 && bnum b 252 4 == crc32 (b.take 252)

/-- R441, R442: the DATA flit that a header and its payload make. -/
def dataFlit (h : FlitHdr) (b : Bytes) : Flit :=
  { seq := h.seq, vc := h.vc, dcl := h.dcl, coll := h.coll, first := h.first, last := h.last, src := h.src, dst := h.dst,
    ttl := h.ttl, data := (b.drop 12).take (min h.len 240) }

/-- The key of a virtual channel and class. -/
def vcKey (dcl vc : Nat) : Nat := 4 * dcl + vc

/-- R445: the receive buffer of a virtual channel and class, in flits; a link comes UP with credits for it (DEDUCED). -/
def vcBuffer (vc : Nat) : Nat := if vc = 0 then 32 else 128

/-- R445: the credits of a fresh link. -/
def freshCredits : Tab Nat :=
  (List.range 8).foldl (fun t k => tset t k (vcBuffer (k % 4))) []

/-- R442: the frame of a flit. -/
def Flit.key (f : Flit) : FrameKey := ⟨f.vc, f.src, f.dst⟩

/-- R442, R445: the flit of a virtual channel that a port may send next: the next one of the frame that it has partly sent
there, else the first of a frame; with a credit for its class. -/
def nextOf (x : FPort) (vc : Nat) : Option Flit :=
  match x.openTx.find? (·.vc == vc) with
  | some k => (x.txQ.find? fun f => f.key == k).filter fun f => 0 < nget x.sendCr (vcKey f.dcl f.vc)
  | none => x.txQ.find? fun f => f.vc == vc && f.first && 0 < nget x.sendCr (vcKey f.dcl f.vc)

/-- R445: the eight slots that channels 1 to 3 share in the proportion 3 : 4 : 1, in an order that the manual leaves open
(notes/assumptions/36.md). -/
def slotVc (i : Nat) : Nat := [2, 1, 2, 1, 2, 1, 2, 3].getD (i % 8) 3

/-- R26, R445: the next flit of a port, with the slot that follows: one of VC 0 before any other, else of the channel of the
first slot, from `slot` on, that has something to send. -/
def nextFlit (x : FPort) : Option (Flit × Nat) :=
  match nextOf x 0 with
  | some f => some (f, x.slot)
  | none => (List.range 8).findSome? fun i => (nextOf x (slotVc (x.slot + i))).map fun f => (f, (x.slot + i + 1) % 8)

/-- R441: the header of a DATA flit, but for what a link adds. -/
def Flit.hdr (f : Flit) : FlitHdr :=
  { seq := f.seq, ack := 0, vc := f.vc, dcl := f.dcl, ccl := 0, ty := 1, coll := f.coll, first := f.first, last := f.last,
    src := f.src, dst := f.dst, len := f.data.length, ttl := f.ttl, credit := 0 }

/-- R441: the header of a flit of a TYPE that carries nothing of its own. -/
def bareHdr (ty : Nat) : FlitHdr :=
  { seq := 0, ack := 0, vc := 0, dcl := 0, ccl := 0, ty := ty, coll := 0, first := false, last := false, src := 0, dst := 0,
    len := 0, ttl := 0, credit := 0 }

/-- R441: a class has credits to return. -/
def creditsDue (x : FPort) (c : Nat) : Bool := (List.range 4).any fun v => 0 < nget x.credit (vcKey c v)

/-- R441: the class whose credits the next header returns: in turn where both have some, else the one that has. -/
def classDue (x : FPort) : Nat := if creditsDue x x.ccl || !creditsDue x (1 - x.ccl) then x.ccl else 1 - x.ccl

/-- R441: the CREDIT field that returns the credits of a class. -/
def creditField (x : FPort) (c : Nat) : Nat := total ((List.range 4).map fun v => 2 ^ (8 * v) * nget x.credit (vcKey c v))

/-- R441, R443: a flit put on the wire: its header has the last SEQ received in order and returns the credits of one class. -/
def putFlit (x : FPort) (h : FlitHdr) (b : Bytes) : FPort :=
  let c := classDue x
  { x with
    wire := ({ h with ack := (x.rxSeq + 4095) % 4096, ccl := c, credit := creditField x c }, b) :: x.wire
    credit := (List.range 4).foldl (fun t v => terase t (vcKey c v)) x.credit, ccl := 1 - c }

/-- R441: a header as a number. -/
def FlitHdr.num (h : FlitHdr) : Nat :=
  h.credit + 2 ^ 33 * h.ttl + 2 ^ 38 * h.len + 2 ^ 46 * h.dst + 2 ^ 51 * h.src + 2 ^ 56 * b2n h.last + 2 ^ 57 * b2n h.first +
    2 ^ 58 * h.coll + 2 ^ 64 * h.ty + 2 ^ 68 * h.ccl + 2 ^ 69 * h.dcl + 2 ^ 70 * h.vc + 2 ^ 72 * h.ack + 2 ^ 84 * h.seq

/-- R441: the 256 bytes of a flit. -/
def flitBytes (h : FlitHdr) (b : Bytes) : Bytes :=
  let body := leBytes 12 h.num ++ b ++ zeros (240 - b.length)
  body ++ le4 (crc32 body)

/-- R441-R443: a port with a flit sent. -/
def sendFlit (x : FPort) (f : Flit) : FPort :=
  let k := vcKey f.dcl f.vc
  let g := { f with seq := x.txSeq }
  putFlit { x with
    txQ := x.txQ.erase f, txSeq := (x.txSeq + 1) % 4096, rtx := x.rtx ++ [g],
    openTx := (x.openTx.filter (· != f.key)) ++ (if f.last then [] else [f.key]),
    sendCr := nset x.sendCr k (nget x.sendCr k - 1) } g.hdr g.data

/-- R26, R441-R445: flits waiting at a port sent while credits and the retransmit buffer allow. -/
def pump : Nat → FPort → FPort
  | 0, x => x
  | n + 1, x =>
    match nextFlit x with
    | none => x
    | some (f, i) => if 512 ≤ x.rtx.length ∨ x.state ≠ 3 then x else pump n { sendFlit x f with slot := i }

/-- The port pumped. -/
def pumpPort (s : State) (p : Nat) : State := modFPort s p fun x => pump x.txQ.length x

/-- R441: the credits that a header returns. -/
def takeCredit (x : FPort) (h : FlitHdr) : FPort :=
  { x with sendCr := (List.range 4).foldl (fun t v =>
      nset t (vcKey h.ccl v) (nget t (vcKey h.ccl v) + bits h.credit (8 * v + 7) (8 * v))) x.sendCr }

/-- R441, R443: the flits that an ACK names as received leave the retransmit buffer. -/
def takeAck (x : FPort) (ack : Nat) : FPort :=
  if x.rtx.any fun f => f.seq == ack then
    { x with rtx := (x.rtx.dropWhile fun f => f.seq != ack).drop 1, nakRun := 0 }
  else x

/-- R446: the class that a flit takes on the link from this package's port `k`: it came in by port `inp`, or starts here. -/
def classOn (s : State) (inp : Option Nat) (dcl k : Nat) : Nat :=
  let topo := topoOf s
  let n := nPkgs s
  let p := fabId s
  let same := match inp with
    | some j => linkDim topo n p j == linkDim topo n p k
    | none => false
  if isDateline topo n p k then 1 else if same then dcl else 0

/-- R441, R446: a flit queued at output port `k`. -/
def queueFlit (s : State) (inp : Option Nat) (k : Nat) (f : Flit) : State :=
  pumpPort (modFPort s k fun x => { x with txQ := x.txQ ++ [{ f with dcl := classOn s inp f.dcl k }] }) k

/-- R452: the port by which a frame that comes in by port `inp` goes on: the first flit takes the route, the others follow
it, whatever the route is by then. -/
def passPort (s : State) (inp : Nat) (f : Flit) : Option Nat :=
  if f.first then (routeTo s f.dst).map (·.1) else ((portAt s inp).passing.find? (·.2 == f.key)).map (·.1)

/-- R441, R442, R446, R452: a flit passed on towards its destination; one that cannot be routed, or whose frame has lost its
first flit, is discarded. -/
def passFlit (s : State) (inp : Nat) (f : Flit) : State :=
  match passPort s inp f with
  | none => s
  | some k =>
    let s := modFPort s inp fun x => { x with
      passing := (x.passing.filter (·.2 != f.key)) ++ (if f.last then [] else [(k, f.key)]) }
    queueFlit s (some inp) k f

/-- R442, R444: the last frame with a key taken out of a queue given last flit first; whether its first flit was in it. -/
def tearRev (k : FrameKey) : List Flit → List Flit × Bool
  | [] => ([], false)
  | f :: fs =>
    if f.key = k then if f.first then (fs, true) else tearRev k fs
    else ((f :: (tearRev k fs).1), (tearRev k fs).2)

/-- R444: a frame whose rest does not come is taken out of an output port; where it was partly sent there it ends. -/
def tearFrame (x : FPort) (k : FrameKey) : FPort :=
  let r := tearRev k x.txQ.reverse
  { x with txQ := r.1.reverse, openTx := if r.2 then x.openTx else x.openTx.filter (· != k) }

/-! ## Frames of this package (R442, R447) -/

/-- R441, R442: the flits of a frame of this package. -/
def flitsOf (s : State) (vc dst coll : Nat) (b : Bytes) : List Flit :=
  let n := max 1 ((b.length + 239) / 240)
  (List.range n).map fun i =>
    { seq := 0, vc := vc, dcl := 0, coll := coll, first := i == 0, last := i + 1 == n, src := fabId s, dst := dst, ttl := 24,
      data := (b.drop (240 * i)).take 240 }

/-- R441, R442, R446, R451: a frame queued at the port of its route; without a route nothing is sent, and the recovery of R444
sends it again. -/
def launch (vc dst coll : Nat) (b : Bytes) (s : State) : State :=
  match routeTo s dst with
  | none => s
  | some (k, _, _) =>
    pumpPort (modFPort s k fun x => { x with
      txQ := x.txQ ++ (flitsOf s vc dst coll b).map fun f => { f with dcl := classOn s none 0 k } }) k

/-- R442: the bytes of a transfer that one frame carries behind the frame's tag, length and place. -/
def partLen : Nat := 280 * 240 - 12

/-- R442, R456, R462: a remote move or a twin page sent as frames of up to 280 flits, each with the tag, the length of the whole
and its own place (notes/assumptions/36.md). -/
def launchParts (vc dst coll tag : Nat) (b : Bytes) (s : State) : State :=
  (List.range ((b.length + partLen - 1) / partLen)).foldl (fun t i =>
    launch vc dst coll (le4 tag ++ le4 b.length ++ le4 (partLen * i) ++ (b.drop (partLen * i)).take partLen) t) s

/-- A number for each byte of a run. -/
def toBytes (ns : List Nat) : Bytes := ns.map (BitVec.ofNat 8)

/-- R447: the bytes of a control message: TYPE, GROUP, SERIAL and the body, in items of 4 bytes where the manual does not lay
the body out; TWIN_STATE's accession index stands in the reserved bytes of the header (notes/assumptions/36.md). -/
def ctlBytes (m : CMsg) : Bytes :=
  let items (ns : List Nat) : Bytes := ns.flatMap le4
  let head (a : Nat) : Bytes := leBytes 1 m.ty ++ leBytes 1 m.group ++ leBytes 2 m.serial ++ le4 a
  match m.ty, m.body with
  | 0x03, n :: _ :: rec => if n = max32 then head 0 ++ items m.body else head 0 ++ toBytes rec
  | 0x04, [reason, rate, extra, valid] => head 0 ++ leBytes 2 reason ++ leBytes 2 rate ++ le4 extra ++ le4 valid
  | 0x0A, 0 :: a :: rest => head a ++ toBytes (rest.take 64) ++ items (rest.drop 64)
  | 0x0A, _ :: rest => head 0 ++ items rest
  | 0x0D, rec => head 0 ++ toBytes rec
  | 0x0E, rec => head 0 ++ toBytes rec
  | _, ns => head 0 ++ items ns

/-- R442, R447: a control message sent as a frame of VC 0; the collection it is tagged with is left open
(notes/assumptions/36.md). -/
def sendMsg (m : CMsg) (s : State) : State :=
  launch 0 m.dst (Config.ctlColl m.ty % 64) (ctlBytes m) { s with fab := { s.fab with out := m :: s.fab.out } }

/-! ## Vat levels and MATCH (R459, R517, R520) -/

/-- R517: the vat and cluster clock of a level in MHz. -/
def vatClock (l : Nat) : Nat := [120, 200, 300, 400, 500, 600, 680, 750].getD l 750

/-- The levels chosen for the vats of the 8 clusters. -/
def wants (s : State) : List Nat := s.pwr.vatL.map (·.want)

/-- R520: neighbours at most 4 levels above the levels to their left, then to their right. -/
def clampRight : Nat → List Nat → List Nat
  | _, [] => []
  | p, x :: xs => min x (p + 4) :: clampRight (min x (p + 4)) xs

/-- R520: the levels lowered until no neighbour stands more than 4 above another. -/
def settleLevels (ls : List Nat) : List Nat := (clampRight 99 (clampRight 99 ls).reverse).reverse

/-- The vat levels chosen replaced. -/
def setWants (s : State) (ls : List Nat) : State :=
  { s with pwr := { s.pwr with vatL := s.pwr.vatL.zipIdx.map fun e => { e.1 with want := ls.getD e.2 e.1.want } } }

/-- R459: the lowest level whose clock is at least `rate` 1,024ths of that of level `l`. -/
def matchLevel (rate l : Nat) : Nat := ((List.range 8).find? fun k => rate * vatClock l ≤ 1024 * vatClock k).getD l

/-- R459: the notice whose RATE the levels match: the smallest that stands, where FAB_PACE_CTRL.MATCH is set. -/
def matched (s : State) : Option PaceN :=
  if bit (rsv s 0x90014 3) 1 then argMin (fun n : PaceN => n.rate) s.fab.pace else none

/-- R459: the vat levels as the governor otherwise chooses them. -/
def unmatch (s : State) : State :=
  if s.pwr.unmatched.isEmpty then s
  else { setWants s s.pwr.unmatched with pwr := { (setWants s s.pwr.unmatched).pwr with unmatched := [] } }

/-- R459: the vat levels that a standing notice calls for, under the rule for neighbours, or, where none stands, those
otherwise chosen; the reason PACE enters where a level is held lowered. -/
def matchLevels (s : State) : State :=
  let s := unmatch s
  match matched s with
  | some n =>
    let ls := settleLevels ((wants s).map (matchLevel n.rate))
    if ls = wants s then s
    else thrEnter 7 n.src { setWants s ls with pwr := { (setWants s ls).pwr with unmatched := wants s } }
  | none => s

end Sys2Proof.Machine
end

