-- ==== Sys2Proof/Machine/TaskOps.lean ====
section
/-! DEFINITION. Tasks and instances (chapter 06): operands, sync counters, exceptions, the end of a task and of an
instance, and the control messages a group instance sends (chapter 13). -/

namespace Sys2Proof.Machine

open Sys2Proof

/-! ## Control messages out (R447) -/

/-- R447: a control message sent to another package that is not lost; a destination's serials count from 0 and
wrap at 16 bits. -/
def sendCtl (dst ty group : Nat) (body : List Nat) (s : State) : State :=
  if s.fab.lost.contains dst then s
  else
    let n := nget s.fab.txSerial dst
    let m : CMsg := { dst := dst, ty := ty, group := group, serial := n, body := body }
    sendMsg m { s with fab := { s.fab with ctl := s.fab.ctl ++ [m], txSerial := nset s.fab.txSerial dst ((n + 1) % 65536) } }

/-! ## Graphs, instances, tasks -/

/-- The resident graph of a number. -/
def graphOf (s : State) (g : Nat) : Option Graph := tget s.gra.graphs g

/-- `s` with a resident graph changed. -/
def modGraph (s : State) (g : Nat) (f : Graph → Graph) : State :=
  { s with gra := { s.gra with graphs := tmod s.gra.graphs g f } }

/-- The running instance of a graph. -/
def instOf (s : State) (g : Nat) : Option Inst := (graphOf s g).bind fun x => x.run

/-- `s` with the running instance of a graph changed. -/
def modInst (s : State) (g : Nat) (f : Inst → Inst) : State := modGraph s g fun x => { x with run := x.run.map f }

/-- The descriptor of a task. -/
def descOf (s : State) (k : TaskRef) : Option Desc := (graphOf s k.g).bind fun x => x.tasks[k.i]?

/-- The standing of a task in the running instance. -/
def runOf (s : State) (k : TaskRef) : Option Run := (instOf s k.g).bind fun x => x.runs[k.i]?

/-- `s` with the standing of a task changed. -/
def modRun (s : State) (k : TaskRef) (f : Run → Run) : State :=
  modInst s k.g fun x => { x with runs := x.runs.modify k.i f }

/-- A task not yet requested. -/
def Run.fresh : Run :=
  { st := .idle, cluster := 0, unit := 0xFF, attempts := 0, bad := [], exc := 0, pc := 0, sat := 0, nan := false,
    overB := false, overOnce := false, checkSeen := false, csWait := 0, userCode := 0, sigBest := [], sigNow := [], moves := 0, saved := none, edges := [],
    atEnd := false, stolen := false, readyAt := 0 }

/-- The collection of a task. -/
def collOf (s : State) (k : TaskRef) : Nat := ((graphOf s k.g).map (·.coll)).getD 0xFF

/-- R60: the rounding-mode bit of a task. -/
def rmOf (s : State) (k : TaskRef) : Nat := ((descOf s k).map fun d => d.flags % 2).getD 0

/-- R210: a handle with a parameter reference replaced from the binding table. -/
def resolve (x : Inst) (h : Nat) : Nat := if 0xFFFFFF00 ≤ h then x.binds.getD (h - 0xFFFFFF00) 0 else h

/-- R209: the operand handles of a task before resolution. -/
def rawOperands (d : Desc) : List Nat :=
  if d.kind = 2 ∨ d.kind = 4 then [d.req.srcH, d.req.dstH] else if d.kind = 3 then [] else d.opnd.take d.nopnd

/-- The operand handles of a task of the running instance. -/
def operandHandles (s : State) (k : TaskRef) : List Nat :=
  match descOf s k, instOf s k.g with
  | some d, some x => (rawOperands d).map (resolve x)
  | _, _ => []

/-- Operand `i` of a task as an object. -/
def operandObj (s : State) (k : TaskRef) (i : Nat) : Option (Nat × Obj) :=
  ((operandHandles s k)[i]?).bind fun h => objOf s h

/-- The indices of the objects among a task's operands. -/
def operandIdxs (s : State) (k : TaskRef) : List Nat :=
  (operandHandles s k).filterMap fun h => (objOf s h).map (·.1)

/-- R209: the command-list object of a VAT task. -/
def commandList (s : State) (k : TaskRef) : Option (Nat × Obj) :=
  match descOf s k, instOf s k.g with
  | some d, some x => if d.kind = 1 then objOf s (resolve x d.kernel) else none
  | _, _ => none

/-- R209, R259: the indices of the objects on which a task holds a pin. -/
def pinnedIdxs (s : State) (k : TaskRef) : List Nat :=
  (operandIdxs s k ++ ((commandList s k).map (·.1)).toList).eraseDups

/-- R210: the streams of a task: its operands with the STRM bit, as object indices. -/
def streamIdxs (s : State) (k : TaskRef) : List Nat :=
  match descOf s k with
  | some d => (maskBits 8 d.strm).filterMap fun i => (operandObj s k i).map (·.1)
  | none => []

/-! ## Residency of scan streams (R144) -/

/-- R144: the residency of a carry object: 0 STORED, 1 LOADING, 2 RESIDENT, 3 SWAPPING, 4 SWAPPING by a forced swap
(R146), and its vat. -/
def streamOf (s : State) (i : Nat) : Nat × Nat := tgetD s.gra.streams i (0, 0)

/-- R144: the residency of a carry object set; STORED is not listed, and ends every swap that was asked for. -/
def setStream (s : State) (i st v : Nat) : State :=
  { s with gra := if st = 0 then { s.gra with
        streams := terase s.gra.streams i, deferred := s.gra.deferred.filter (·.1 != i)
        forced := s.gra.forced.filter (· != i), swapWait := s.gra.swapWait.filter (·.1 != i) }
      else { s.gra with streams := tset s.gra.streams i (st, v) } }

/-- The tasks of running instances. -/
def liveTasks (s : State) : List TaskRef :=
  s.gra.graphs.flatMap fun e => ((e.2.run.map fun n => n.runs.length).getD 0 |> List.range).map fun i => ⟨e.1, i⟩

/-- R144: a task names a stream and has not ended. -/
def namesStream (s : State) (i : Nat) (k : TaskRef) : Bool :=
  ((runOf s k).any fun r => match r.st with
    | .ended _ => false
    | _ => true) && (streamIdxs s k).contains i

/-- R148: a stream's vat runs a chunk of it. -/
def chunkRuns (s : State) (v i : Nat) : Bool := ((s.vats[v]?).bind (·.bound)).any fun k => (streamIdxs s k).contains i

/-- R491: the collection of an object is being closed. -/
def closingObj (s : State) (i : Nat) : Bool := (objAt s i).any fun o => s.sec.closures.any fun c => c.coll == o.coll

/-- R144, R146, R148, R150: the swaps that the present standing asks for: of a stream that no unended task of a running
instance names, and of one whose forced swap waited for a chunk that has ended. The streams of a collection that is being
closed are not swapped out. -/
def sweepStreams (s : State) : State :=
  s.gra.streams.foldl (fun t e =>
    if e.2.1 != 2 || closingObj t e.1 then t
    else if t.gra.forced.contains e.1 && !chunkRuns t e.2.2 e.1 then
      { setStream t e.1 4 e.2.2 with gra := { (setStream t e.1 4 e.2.2).gra with forced := t.gra.forced.filter (· != e.1) } }
    else if (liveTasks t).any (namesStream t e.1) then t
    else setStream t e.1 3 e.2.2) s

/-! ## Sync counters -/

/-- R223: the value of a counter. -/
def counter (s : State) (c : Nat) : Nat := nget s.sync c

/-- R223: one signal to a counter. -/
def signal (s : State) (c : Nat) : State := { s with sync := nset s.sync c (satAdd32 (counter s c) 1) }

/-- R224: a counter is allocated to a graph. -/
def allocated (s : State) (g c : Nat) : Bool :=
  (graphOf s g).any fun x => x.cntBase ≤ c && c < x.cntBase + x.cntCount

/-- R161: a task has signalled `c`, or may still signal a further counter in this attempt. -/
def maySignal (s : State) (k : TaskRef) (c : Nat) : Bool :=
  (runOf s k).any fun r => (tget r.sigNow c).isSome || r.sigNow.length < 16

/-- R161: one signal of a task; as many are withheld as the most of any earlier attempt. -/
def taskSignal (s : State) (k : TaskRef) (c : Nat) : State :=
  match runOf s k with
  | none => s
  | some r =>
    let n := nget r.sigNow c + 1
    let s := modRun s k fun r => { r with sigNow := nset r.sigNow c n }
    if n ≤ nget r.sigBest c then s else signal s c

/-! ## Exceptions and saturations -/

/-- R113, R194: a task ends with an exception; only the first is kept. TRN_EXC_LAST of the turner that runs the task holds
its code (R200). -/
def taskException (s : State) (k : TaskRef) (code pc : Nat) : State :=
  if (runOf s k).any fun r => r.atEnd then s
  else
    modRun { s with turners := s.turners.map fun t => if t.bound = some k then { t with excLast := code } else t } k
      fun r => { r with exc := code, pc := pc, atEnd := true }

/-- R74: saturations and a NaN that a unit other than a turner counted for a task. -/
def taskSat (s : State) (k : TaskRef) (sat : Nat) (nan : Bool) : State :=
  modRun s k fun r => { r with sat := satAdd32 r.sat sat, nan := r.nan || nan }

/-! ## The end of a task -/

/-- A turner released from its task. -/
def Turner.release (t : Turner) (coll : Nat) : Turner :=
  { t with bound := none, vat := none, wait := .none, topk := none,
           state := if t.state = 6 then 6 else 2, lastColl := some coll }

/-- R118, R113: a vat's bound task gives it up; its commands and comparisons are discarded. An injection that no
comparison has met yet goes with the binding, which the manual leaves open (notes/assumptions/64.md). -/
def Vat.unbind (x : Vat) : Vat :=
  { x with bound := none, byTurner := none, queue := [], feed := [], resid := [], inject := [] }

/-- R144: the carry objects whose CARRY_IN a released task's vats have not executed are STORED again. -/
def unloadStreams (s : State) (k : TaskRef) : List (Nat × Nat × Nat) :=
  s.gra.streams.filter fun e => !(e.2.1 == 1 && (s.vats[e.2.2]?).any fun x => x.bound == some k)

/-- The units of a task released; `done` where the task has ended, which its turner counts (R200). -/
def releaseUnits (s : State) (k : TaskRef) (done : Bool) : State :=
  { s with
    gra := { s.gra with streams := unloadStreams s k }
    turners := s.turners.map fun t => if t.bound = some k then
      { t.release (collOf s k) with tasks := satAdd32 t.tasks (b2n done) } else t
    vats := s.vats.map fun x => if x.bound = some k then x.unbind else x }

/-! ## Moves given up -/

/-- The task of a move. -/
def Move.ref (m : Move) : TaskRef :=
  match m.by_ with
  | .turner _ k => k
  | .task k => k

/-- R259: the objects a move pins. -/
def moveObjs (s : State) (q : MoveReq) : List Nat := ([q.srcH, q.dstH].filterMap fun h => (objOf s h).map (·.1)).eraseDups

/-- R339: an engine carries a move or a migration. -/
def dxBusy (s : State) (e : Nat) : Bool :=
  (s.obj.moves.any fun m => m.engine == some e) || s.obj.mig.any fun r => r.dx.any (·.1 == e)

/-- R339: `n` bytes join an engine's queue; it runs. -/
def joinDx (s : State) (e n : Nat) : State := s.modDx e fun x => { x with state := 3, queued := x.queued + n }

/-- R339: `n` bytes leave an engine's queue; with nothing more to carry it is idle. -/
def leaveDx (s : State) (e n : Nat) : State :=
  s.modDx e fun x => { x with queued := x.queued - n, state := if x.state = 3 ∧ ¬dxBusy s e then 2 else x.state }

/-- R338: the bytes of a move that has been given to an engine and has not started are taken off its queue. -/
def ungive (s : State) (m : Move) : State :=
  match m.given with
  | some g => if m.engine.isSome then s else s.modDx g fun x => { x with queued := x.queued - (moveSpan m.req).1 }
  | none => s

/-- A move removed from the outstanding ones, its pins released. -/
def dropMove (s : State) (m : Move) : State :=
  let s := if m.pinWait then s else unpin s (moveObjs s m.req)
  let s := { s with obj := { s.obj with moves := s.obj.moves.filter fun x => x.id != m.id } }
  let s := match m.engine with
    | some e => leaveDx s e (moveSpan m.req).1
    | none => ungive s m
  modRun s m.ref fun r => { r with moves := r.moves - 1 }

/-- The outstanding moves that satisfy `p` given up. -/
def dropMoves (s : State) (p : Move → Bool) : State := (s.obj.moves.filter p).foldl dropMove s

/-- The moves that a turner issued for a task. -/
def ofTurner (k : TaskRef) (m : Move) : Bool :=
  match m.by_ with
  | .turner _ j => j == k
  | .task _ => false

/-- R216: a task taken out of every ready queue, residency queue and the moves of MOVE tasks. -/
def unqueue (s : State) (k : TaskRef) : State :=
  let s := dropMoves s fun m => m.by_ == .task k
  { s with
    gra := { s.gra with
      rqT := s.gra.rqT.map fun q => q.filter (· != k)
      rqV := s.gra.rqV.map fun q => q.filter (· != k)
      resQ := s.gra.resQ.map fun q => q.filter (· != k) } }

/-- R228: the completion entry of a task; the measured fields come as free values where an attempt was made. CS_WAIT is
what was counted of the attempt's waits for a grant (R121). -/
def entryBytes (d : Desc) (r : Run) (status : Nat) (m : Nat → Nat) : Bytes :=
  let info := d.flags % 2 + 2 * b2n r.nan + 4 * b2n r.overB + 8 * (r.attempts % 4) + 32 * b2n r.checkSeen
  let f (n : Nat) : Bytes := le4 (if r.attempts = 0 then 0 else m n)
  leBytes 1 status ++ leBytes 1 (if status = 1 then r.exc else 0) ++ leBytes 1 info ++
    leBytes 1 (if r.attempts = 0 then 0xFF else r.unit) ++ le4 r.sat ++ le4 (if status = 1 then r.pc else 0) ++
    f 0 ++ f 1 ++ f 2 ++ le4 r.csWait ++ le4 0

/-- R228: the entry written into the instance's completion object. -/
def writeEntry (s : State) (k : TaskRef) (status : Nat) : State :=
  match instOf s k.g, descOf s k, runOf s k with
  | some x, some d, some r =>
    let bs := entryBytes d r status fun n => Config.free (s.fresh + n)
    let s := { s with fresh := s.fresh + 3 }
    match objOf s x.comp with
    | some (i, _) => objWrite s i (32 * k.i) bs
    | none => s
  | _, _, _ => s

/-- Whether a TURNER or VAT task in a standing holds its operands' pins (R259); a move holds its own. -/
def TStat.pinned : TStat → Bool
  | .requested => true
  | .granted => true
  | .ready => true
  | .running => true
  | .suspended => true
  | _ => false

/-- R237, R238: the edges of which a task is the source, with the destination members. -/
def edgesFrom (x : Graph) (i : Nat) : List (Nat × Nat) :=
  (x.edges.zipIdx.filter fun e => e.1.srcM == x.member && e.1.srcT == i).map fun e => (e.2, e.1.dstM)

/-- R238: one EDGE message to each destination member of a task's edges. -/
def sendEdges (s : State) (k : TaskRef) (ok : Bool) : State :=
  match graphOf s k.g, instOf s k.g with
  | some x, some n =>
    if x.group then
      (edgesFrom x k.i).foldl (fun t e =>
        sendCtl ((groupMembers t x.gnum).getD e.2 31) 0x02 x.gnum [n.serial, e.1, b2n ok] t) s
    else s
  | _, _ => s

/-- R218, R228, R234: a task ends with a status: its entry is written, its pins and units are released, its DONE_SYNC
is signalled where it ended OK, and its edges are sent. -/
def endTask (s : State) (k : TaskRef) (status : Nat) : State :=
  match descOf s k, runOf s k with
  | some d, some r =>
    let is := pinnedIdxs s k
    let s := writeEntry s k status
    let s := if r.st.pinned && d.kind ≤ 1 then unpin s is else s
    let s := if r.attempts = 0 then s else recordUse s is
    let s := unqueue (releaseUnits s k true) k
    let s := modRun s k fun r => { r with st := .ended status }
    let s := { s with gra := { s.gra with tasks := satAdd64 s.gra.tasks 1 } }
    let s := if status = 0 ∧ bit d.doneSync 15 then signal s (d.doneSync % 4096) else s
    sendEdges s k (status == 0)
  | _, _ => s

/-- R229: a status of a task that has ended, none while it has not. -/
def TStat.status : TStat → Option Nat
  | .ended st => some st
  | _ => none

/-- R211, R213: whether every predecessor of a task, edges across packages included, has ended OK. -/
def predsOK (x : Graph) (n : Inst) (d : Desc) (i : Nat) : Bool :=
  (d.pred.take d.npred).all (fun p => ((n.runs[p]?).map fun r => r.st == .ended 0).getD false) &&
    (x.edges.zipIdx.filter fun e => e.1.dstM == x.member && e.1.dstT == i).all fun e =>
      ((n.runs[i]?).map fun r => r.edges.contains (e.2, true)).getD false

/-- R230: whether a predecessor of a task has ended, or its edge has come, other than OK. -/
def predsBad (x : Graph) (n : Inst) (d : Desc) (i : Nat) : Bool :=
  (d.pred.take d.npred).any (fun p => (n.runs[p]?).any fun r => (r.st.status.map (· != 0)).getD false) ||
    (x.edges.zipIdx.filter fun e => e.1.dstM == x.member && e.1.dstT == i).any fun e =>
      (n.runs[i]?).any fun r => r.edges.contains (e.2, false)

/-- A standing in which a task has not started an attempt. -/
def TStat.unstarted : TStat → Bool
  | .idle => true
  | .pinWait => true
  | .requested => true
  | .granted => true
  | .ready => true
  | _ => false

/-- The transitive dependents of a task within its graph, in one pass over rising indices. -/
def dependents (x : Graph) (i : Nat) : List Nat :=
  x.tasks.zipIdx.foldl (fun acc e =>
    if (e.1.pred.take e.1.npred).any fun p => p == i || acc.contains p then acc ++ [e.2] else acc) []

/-- R191, R192, R225: a task may signal counter `c`: through DONE_SYNC, its move request, or from within its kernel or
command list. -/
def Desc.signals (d : Desc) (c : Nat) : Bool :=
  d.kind ≤ 1 || (bit d.doneSync 15 && d.doneSync % 4096 == c) ||
    (d.kind != 3 && bit d.req.flags 0 && d.req.sync % 4096 == c)

/-- R230: whether a task of the instance could still signal the counter of SYNC task `i`. -/
def couldSignal (x : Graph) (n : Inst) (i c : Nat) : Bool :=
  let dep := dependents x i
  x.tasks.zipIdx.any fun e =>
    e.2 != i && !dep.contains e.2 &&
      ((n.runs[e.2]?).any fun r => r.st.status.isNone) && e.1.signals c

/-- R230: a task that would signal a counter ended other than OK. -/
def signalLost (x : Graph) (n : Inst) (c : Nat) : Bool :=
  x.tasks.zipIdx.any fun e => e.1.signals c && (n.runs[e.2]?).any fun r => (r.st.status.map (· != 0)).getD false

/-- R231: the status with which an unstarted task of an instance that ends early ends. -/
def stABORTED : Nat := 4

/-- R225, R230: what the present standing of an instance settles about one task: an unstarted task with a predecessor
that did not end OK ends SKIPPED; a SYNC task whose predecessors ended OK and whose counter has reached its threshold
ends OK; one whose threshold no task can reach any more, because a task did not end OK, ends SKIPPED. -/
def settleTask (s : State) (k : TaskRef) : State :=
  match graphOf s k.g, instOf s k.g, descOf s k, runOf s k with
  | some x, some n, some d, some r =>
    if !r.st.unstarted then s
    else if n.early != 0 then endTask s k stABORTED
    else if r.attempts != 0 then s
    else if predsBad x n d k.i then endTask s k 3
    else if d.kind = 3 && predsOK x n d k.i then
      if d.kernel / 4096 ≤ counter s (d.kernel % 4096) then endTask s k 0
      else if signalLost x n (d.kernel % 4096) && !couldSignal x n k.i (d.kernel % 4096) then endTask s k 3
      else s
    else s
  | _, _, _, _ => s

/-- The number of tasks of the running instance that have ended. -/
def endedCount (s : State) (g : Nat) : Nat :=
  ((instOf s g).map fun n => (n.runs.filter fun r => r.st.status.isSome).length).getD 0

/-- One pass over a graph's tasks in index order. -/
def settlePass (s : State) (g n : Nat) : State := (List.range n).foldl (fun t i => settleTask t ⟨g, i⟩) s

/-- Passes until none ends a further task. -/
def settleLoop (g n : Nat) : Nat → State → State
  | 0, s => s
  | fuel + 1, s =>
    let t := settlePass s g n
    if endedCount t g = endedCount s g then t else settleLoop g n fuel t

/-! ## The end of an instance -/

/-- R232: the sum over the tasks of an instance, 16 bits. -/
def countStatus (n : Inst) (p : Nat → Bool) : Nat :=
  (n.runs.filter fun r => r.st.status.any p).length % 65536

/-- R232: STATUS of an instance record. -/
def instStatus (n : Inst) : Nat :=
  if n.early = 3 then 5
  else if n.reason != 0 then 4
  else if n.runs.any fun r => r.st == .ended 2 then 2
  else if n.runs.any fun r => r.st == .ended 1 then 1
  else if n.early != 0 then 3
  else 0

/-- R232: the 64-byte instance record. -/
def instRecord (g : Nat) (n : Inst) (status reason dur : Nat) : Bytes :=
  let bad := n.runs.zipIdx.find? fun e => (e.1.st.status.map (· != 0)).getD false
  leBytes 1 g ++ leBytes 1 status ++ leBytes 1 reason ++ leBytes 1 n.band ++ le4 n.serial ++
    leBytes 2 (countStatus n (· == 0)) ++ leBytes 2 (countStatus n (· == 1)) ++ leBytes 2 (countStatus n (· == 2)) ++
    leBytes 2 (countStatus n fun c => c == 3 || c == 4) ++ leBytes 2 ((bad.map (·.2)).getD 0xFFFF) ++
    leBytes 1 ((bad.map fun e => if e.1.st == .ended 1 then e.1.exc else 0).getD 0) ++
    leBytes 1 (b2n (n.runs.any (·.nan)) + 2 * b2n (n.runs.any (·.overB)) + 4 * b2n (n.runs.any fun r => 1 < r.attempts)) ++
    le4 (n.runs.foldl (fun a r => satAdd32 a r.sat) 0) ++ le4 dur ++ zeros 36

/-- R575, R398: an instance record delivered: to the accession engine for a step instance, else to its port. -/
def deliverInstance (g : Nat) (n : Inst) (rec : Bytes) (s : State) : State :=
  if n.isStep then
    { s with acc := { s.acc with steps := s.acc.steps.map fun st =>
        if st.graph = g ∧ st.inst = n.serial ∧ st.done.isNone then
          { st with done := some (bnum rec 1 1, n.early) } else st } }
  else pushRec n.port (mkRec tyINSTANCE n.tag 0 rec) s

/-- R239: records of a group instance combined: counts and saturations added, STATUS the first of R232's order. -/
def combineRecords (own : Bytes) (others : List Bytes) : Bytes :=
  let all := own :: others
  let sum2 (o : Nat) := leBytes 2 (total (all.map fun b => bnum b o 2))
  let rank (st : Nat) : Nat := if st = 5 then 0 else if st = 4 then 1 else if st = 2 then 2 else if st = 1 then 3
    else if st = 3 then 4 else 5
  let st := ((argMin (fun b => rank (bnum b 1 1)) all).map fun b => bnum b 1 1).getD 0
  own.take 1 ++ leBytes 1 st ++ (own.drop 2).take 6 ++ sum2 8 ++ sum2 10 ++ sum2 12 ++ sum2 14 ++ (own.drop 16).take 4 ++
    le4 (all.foldl (fun a b => satAdd32 a (bnum b 20 4)) 0) ++ own.drop 24

/-- R239, R454: whether this package coordinates a graph's group. -/
def coordinates (s : State) (x : Graph) : Bool := x.group && groupCoord s x.gnum == fabId s

/-- R232: the running instance has ended: its record is delivered, and the graph has none running. A member of a group
reports to the coordinator; the coordinator waits for every member's REPORT (R239). -/
def finishInstance (s : State) (g : Nat) : State :=
  match graphOf s g, instOf s g with
  | some x, some n =>
    if n.runs.any fun r => r.st.status.isNone then s
    else
      let rec0 := instRecord g n (instStatus n) n.reason (s.tick - n.start)
      if x.group && !coordinates s x then
        let s := sendCtl (groupCoord s x.gnum) 0x03 x.gnum (n.serial :: x.gid :: rec0.map BitVec.toNat) s
        let s := deliverInstance g n rec0 s
        modGraph { s with gra := { s.gra with instances := satAdd64 s.gra.instances 1 } } g
          fun x => { x with run := none }
      else if x.group && n.early != 3 &&
          !(groupMembers s x.gnum).all (fun m => m == fabId s || s.fab.lost.contains m || x.reports.any (·.1 == m)) then s
      else
        let r := if x.group then combineRecords rec0 (x.reports.map (·.2)) else rec0
        let s := deliverInstance g n r s
        modGraph { s with gra := { s.gra with instances := satAdd64 s.gra.instances 1 } } g
          fun x => { x with run := none, reports := [] }
  | _, _ => s

/-- What follows from the end of a task or a signal in a graph: tasks settled, then the instance finished, and the streams
that need not stay swapped out (R146). -/
def settle (s : State) (g : Nat) : State :=
  match graphOf s g with
  | none => s
  | some x => sweepStreams (finishInstance (settleLoop g x.tasks.length x.tasks.length s) g)

/-! ## The start of an instance -/

/-- R224: every counter of a graph set to 0. -/
def zeroCounters (s : State) (x : Graph) : State :=
  { s with sync := s.sync.filter fun e => e.1 < x.cntBase || x.cntBase + x.cntCount ≤ e.1 }

/-- R207: an instance that fails its start checks ends REFUSED with a reason; the coordinator of a group has sent START
before, and reports it once every member has reported (R239). -/
def refuseInstance (s : State) (g : Nat) (x : Graph) (n : Inst) (reason : Nat) : State :=
  if coordinates s x then
    finishInstance (modGraph s g fun x => { x with run := some { n with runs := [], start := s.tick, reason := reason } }) g
  else
    let rec0 := instRecord g n 4 reason 0
    let s := if x.group then sendCtl (groupCoord s x.gnum) 0x03 x.gnum (n.serial :: x.gid :: rec0.map BitVec.toNat) s else s
    let s := deliverInstance g n rec0 s
    { s with gra := { s.gra with instances := satAdd64 s.gra.instances 1 } }

/-- R206: the head of a graph's queue taken, its counters set to 0; the coordinator of a group sends START (R238). -/
def takeInstance (s : State) (g : Nat) (x : Graph) (n : Inst) : State :=
  let s := zeroCounters (modGraph s g fun x => { x with queue := x.queue.drop 1, starts := x.starts.drop 1, reports := [] }) x
  if coordinates s x then
    ((groupMembers s x.gnum).filter (· != fabId s)).foldl (fun t m =>
      sendCtl m 0x01 x.gnum [x.gid, n.serial, n.band, n.gen] t) s
  else s

/-- R238 step 1: what the coordinator can see of the check of its members: its own part names as many members as the
group has. The parts of the others are their own state (notes/assumptions/15.md). -/
def membersFit (s : State) (x : Graph) : Bool := !coordinates s x || x.nmemb == (groupMembers s x.gnum).length

/-- R206, R238: the instance that may start next: the head of the queue where none runs and no drop is in progress; a
member of a group waits for its START. -/
def nextInst (s : State) (x : Graph) : Option Inst :=
  if x.run.isSome || x.drop.isSome || !membersFit s x then none
  else if x.group && !coordinates s x then
    match x.queue, x.starts with
    | n :: _, (serial, band, gen) :: _ => some { n with serial := serial, band := band, gen := gen }
    | _, _ => none
  else x.queue.head?

end Sys2Proof.Machine
end

