-- ==== Sys2Proof/Machine/FaultOps.lean ====
section
/-! DEFINITION. The log entry, detections, the fatal stop, release for re-execution and the residency of
scan streams (R144-R151, R222, R539-R556), shared by the units that detect faults. -/

namespace Sys2Proof.Machine

open Sys2Proof

/-! ## Sites, mechanisms, actions (R539, R557) -/

def siteVAT : Nat := 0x01
def siteTURNER : Nat := 0x02
def siteDMA : Nat := 0x03
def siteCLUSTER : Nat := 0x04
def siteMAIN : Nat := 0x05
def siteCAVE : Nat := 0x06
def siteFABRIC : Nat := 0x07
def siteUSB : Nat := 0x08
def siteGRAPH : Nat := 0x09
def siteACC : Nat := 0x0A
def siteKVE : Nat := 0x0B
def siteMIGR : Nat := 0x0C
def siteSEC : Nat := 0x0D
def siteHUB : Nat := 0x0E
def sitePEER : Nat := 0x10

def mechECC_UNCORR : Nat := 1
def mechRESIDUE : Nat := 2
def mechCOMPARE : Nat := 3
def mechLOCKSTEP : Nat := 4
def mechHANG : Nat := 5
def mechBUDGET : Nat := 6
def mechCRC_RETRY : Nat := 7
def mechKEEPALIVE : Nat := 8
def mechINTERFACE : Nat := 9
def mechTRNG_HEALTH : Nat := 10
def mechSELF_TEST : Nat := 11
def mechSTALL : Nat := 12
def mechQUEUE_FULL : Nat := 13

def actMASKED : Nat := 0
def actRETRIED : Nat := 1
def actREEXEC : Nat := 2
def actFENCED : Nat := 3
def actDATA_LOST : Nat := 4
def actFATAL : Nat := 5
def actTASK_FAULTED : Nat := 6
def actLOST : Nat := 7
def actABORTED : Nat := 8

/-- R17, R20, R556 CLUSTER: the cluster of a unit, 0xFF where it has none. -/
def clusterOfUnit (site unit : Nat) : Nat :=
  if site = siteVAT then unit / 2 else if site = siteTURNER then unit / 8 else if site = siteCLUSTER then unit else 0xFF

/-- R556: the log entry of a detection; RESOLVE is a measured duration, a free value. -/
def logEntry (s : State) (d : Det) (seq flags resolve : Nat) : Bytes :=
  let body := le4 seq ++ le4 s.sec.epochPkg ++ leBytes 8 d.tick ++ leBytes 1 d.site ++ leBytes 1 d.unit ++
    leBytes 1 d.mech ++ leBytes 1 d.action ++ leBytes 1 (fabId s) ++ leBytes 1 (clusterOfUnit d.site d.unit) ++
    leBytes 1 flags ++ leBytes 1 d.coll ++ leBytes 8 (d.addr % 2 ^ 48) ++ leBytes 2 d.task ++ leBytes 1 d.graph ++
    leBytes 1 d.attempt ++ le4 d.serial ++ le4 resolve ++ leBytes 16 d.detail
  body ++ le4 (crc32c body)

/-- A detection with no task, object or address. -/
def mkDet (site unit mech action : Nat) : Det :=
  { site := site, unit := unit, mech := mech, action := action, coll := 0xFF, addr := 0, task := 0xFFFF,
    graph := 0xFF, attempt := 0, serial := 0, detail := 0, nested := false, tick := 0 }

/-- A detection with the task it concerns. -/
def mkTaskDet (s : State) (site unit mech action : Nat) (k : TaskRef) : Det :=
  { mkDet site unit mech action with
    coll := collOf s k, task := k.i, graph := k.g,
    attempt := ((runOf s k).map (·.attempts)).getD 0, serial := ((instOf s k.g).map (·.serial)).getD 0 }

/-- R529 step 4, R555 step 4: every key slot is zeroed. -/
def zeroKeys (s : State) : State := { s with sec := { s.sec with keys := [] } }

/-- R555: the package fatal stop, with the detection that caused it: the fabric links stop at once; USB detaches within
the bound of R555, as the event USB_DETACH (notes/assumptions/8.md). -/
def fatalStop (d : Det) (s : State) : State :=
  if s.flt.fatal then s
  else
    let d := { d with action := actFATAL, tick := s.tick }
    let s := { s with flt := { s.flt with fatal := true, fatalRec := logEntry s d s.flt.seq 0 (Config.free s.fresh % 2 ^ 32) } }
    let s := zeroKeys (advance s)
    { s with
      pkg := { s.pkg with alert := if s.pkg.alert.contains 0 then s.pkg.alert else 0 :: s.pkg.alert }
      fab := { s.fab with ports := s.fab.ports.map fun (x : FPort) =>
        if 2 ≤ x.state ∧ x.state ≤ 4 then { x with state := 1, txQ := [], openTx := [], passing := [] } else x } }

/-- R553: a detection of the unit waits for the fault manager. -/
def State.hasWaiting (s : State) (site unit : Nat) : Bool := s.flt.queue.any fun d => d.site == site && d.unit == unit

/-- R553, R554, R546, R548: a detection queued for the fault manager; its unit is RECOVERING from this instant. A
detection that arrives while an earlier one of the unit waits counts as one of a unit that is RECOVERING. A detection that
finds 16 entries waiting is a fatal stop. -/
def queueDet (d : Det) (s : State) : State :=
  let nested := s.isRecovering d.site d.unit
  let d := { d with nested := nested || s.hasWaiting d.site d.unit, tick := s.tick }
  let s := { s with flt := { s.flt with
    detections := satAdd64 s.flt.detections 1
    hangs := if d.mech = mechHANG ∨ d.mech = mechBUDGET then satAdd32 s.flt.hangs 1 else s.flt.hangs
    dataLost := if d.action = actDATA_LOST then satAdd32 s.flt.dataLost 1 else s.flt.dataLost
    recovering := if nested then s.flt.recovering else s.flt.recovering ++ [(d.site, d.unit)] } }
  if 16 ≤ s.flt.queue.length then fatalStop { d with mech := mechQUEUE_FULL } s
  else { s with flt := { s.flt with queue := s.flt.queue ++ [d] } }

/-! ## Ready queues (R216, R222) -/

/-- The band of a task's instance. -/
def bandOf (s : State) (k : TaskRef) : Nat := ((instOf s k.g).map (·.band)).getD 0

/-- R216: task `j` comes before task `k`, which becomes ready now: its band is higher, or it is the same and `j` became
ready earlier, or in the same tick with a lower index. -/
def readyBefore (s : State) (k j : TaskRef) : Bool :=
  bandOf s k < bandOf s j ||
    (bandOf s k == bandOf s j && !(j.g == k.g && k.i < j.i && (runOf s j).any fun r => r.readyAt == s.tick + 1))

/-- R216: a task that becomes ready now put in its place in a queue. -/
def insertTail (s : State) (k : TaskRef) (q : List TaskRef) : List TaskRef :=
  q.takeWhile (readyBefore s k) ++ k :: q.dropWhile (readyBefore s k)

/-- R221, R222: a task put at the head of its band. -/
def insertHead (s : State) (k : TaskRef) (q : List TaskRef) : List TaskRef :=
  (q.takeWhile fun j => bandOf s k < bandOf s j) ++ k :: (q.dropWhile fun j => bandOf s k < bandOf s j)

/-- The ready queues for VAT tasks, or for TURNER tasks, with cluster `c`'s changed. -/
def modQueue (s : State) (isVat : Bool) (c : Nat) (f : List TaskRef → List TaskRef) : State :=
  { s with gra := if isVat then { s.gra with rqV := s.gra.rqV.modify c f } else { s.gra with rqT := s.gra.rqT.modify c f } }

/-- R222, R544: a task released after a detected fault on the units `units` (site · 256 + number): it re-enters its
ready queue at the head of its band, or ends FAULTED after its third attempt. Its outstanding moves are given up. -/
def releaseFaulty (s : State) (k : TaskRef) (units : List Nat) : State :=
  match runOf s k, descOf s k with
  | some r, some d =>
    let s := dropMoves (releaseUnits s k false) (ofTurner k)
    let s := modRun s k fun r =>
      { r with bad := r.bad ++ units, sigNow := [], saved := none, moves := 0, atEnd := false, exc := 0, pc := 0,
               sigBest := r.sigNow.foldl (fun b e => nset b e.1 (max (nget b e.1) e.2)) r.sigBest }
    if 3 ≤ r.attempts then settle (endTask s k 2) k.g
    else
      let s := modRun s k fun r => { r with st := .ready, readyAt := 0, sat := 0, nan := false, overB := false, checkSeen := false }
      let s := { s with gra := { s.gra with reexec := satAdd32 s.gra.reexec 1 } }
      settle (modQueue s (d.kind == 1) r.cluster (insertHead s k)) k.g
  | _, _ => s

/-! ## Rows of 512 values and streams -/

/-- `n` values of a table from key `base`. -/
def rowGet (t : Tab Nat) (base n : Nat) : List Nat :=
  let sub := t.filter fun e => base ≤ e.1 && e.1 < base + n
  (List.range n).map fun i => nget sub (base + i)

/-- A table with values put from key `base`; zeros are not listed. -/
def rowPut (t : Tab Nat) (base : Nat) (vs : List Nat) : Tab Nat :=
  (t.filter fun e => e.1 < base) ++ ((vs.zipIdx base).filterMap fun e => if e.1 = 0 then none else some (e.2, e.1)) ++
    t.filter fun e => base + vs.length ≤ e.1

/-- R107, R143: the groups of a mask of a row as bytes, in ascending order. -/
def groupBytes (row : Tab Nat) (mask : Nat) : Bytes :=
  (maskBits 8 mask).flatMap fun g => (rowGet row (64 * g) 64).flatMap le4

/-- R107: a row with the groups of a mask taken from bytes. -/
def putGroups (row : Tab Nat) (mask : Nat) (bs : Bytes) : Tab Nat :=
  (maskBits 8 mask).zipIdx.foldl (fun r e =>
    rowPut r (64 * e.1) ((List.range 64).map fun j => bnum bs (256 * e.2 + 4 * j) 4)) row

/-- A row with the groups of a mask set to zero. -/
def zeroGroups (row : Tab Nat) (mask : Nat) : Tab Nat := row.filter fun e => !bit mask (e.1 / 64)

/-- R154: the groups of a carry object no longer held by a vat. -/
def unhold (x : Vat) (i : Nat) : Vat := { x with held := x.held.map fun h => if h = some i then none else h }

/-- R143, R154: the groups of a carry object held by a vat. -/
def hold (x : Vat) (i mask : Nat) : Vat :=
  { x with held := x.held.zipIdx.map fun e => if bit mask e.2 then some i else e.1 }

/-- R144, R149, R154: a stream swapped out of a vat: the row's groups written to the carry object, which is STORED. -/
def swapOutFrom (s : State) (v i : Nat) (row : Tab Nat) (forced : Bool) : State :=
  match objAt s i with
  | none => s
  | some o =>
    let s := objWrite s i 0 (groupBytes row o.gmask)
    let s := s.modVat v fun x => { unhold x i with
      swaps := satAdd32 x.swaps 1, swapsForced := if forced then satAdd32 x.swapsForced 1 else x.swapsForced }
    setStream s i 0 0

/-- R147: the chunk behind which an unforced swap of a stream is deferred: the first that waits in a ready queue of the
vat's cluster, else the one that runs. Where one waits behind another that runs, "a chunk queued on the vat" is read as the
waiting one (DEDUCED, notes/assumptions/49.md). -/
def chunkFor (s : State) (v i : Nat) : Option TaskRef :=
  let c := clusterOfVat v
  match (s.gra.rqV.getD c [] ++ s.gra.rqT.getD c []).find? fun k => (streamIdxs s k).contains i with
  | some k => some k
  | none => ((s.vat v).bound).filter fun k => (streamIdxs s k).contains i

/-- R144-R148: the swap of a stream from a vat is asked for. A forced one acts at once, or at the end of the chunk that
runs; one that is not forced is deferred behind a chunk. A request that finds the stream LOADING waits until it is RESIDENT;
one that finds it SWAPPING needs nothing more. -/
def requestSwap (s : State) (v i : Nat) (forced : Bool) : State :=
  if streamOf s i = (1, v) then
    { s with gra := { s.gra with swapWait := s.gra.swapWait.filter (·.1 != i) ++ [(i, forced || s.gra.swapWait.contains (i, true))] } }
  else if streamOf s i ≠ (2, v) then s
  else if forced then
    if chunkRuns s v i then
      { s with gra := { s.gra with
        forced := if s.gra.forced.contains i then s.gra.forced else s.gra.forced ++ [i]
        deferred := s.gra.deferred.filter (·.1 != i) } }
    else setStream s i 4 v
  else if s.gra.forced.contains i || s.gra.deferred.any (·.1 == i) then s
  else
    match chunkFor s v i with
    | some k => { s with gra := { s.gra with deferred := s.gra.deferred ++ [(i, k)] } }
    | none => setStream s i 3 v

/-- R145: the swap request that found a stream LOADING is evaluated again. -/
def retrySwap (s : State) (v i : Nat) : State :=
  match s.gra.swapWait.find? (·.1 == i) with
  | some e => requestSwap { s with gra := { s.gra with swapWait := s.gra.swapWait.filter (·.1 != i) } } v i e.2
  | none => s

/-- R151: on a detected fault the shadow row is written to each named carry object, which becomes STORED; one whose
CARRY_IN has not completed is STORED as it is. -/
def shadowBack (s : State) (v : Nat) (k : TaskRef) : State :=
  (streamIdxs s k).foldl (fun t i =>
    let p := streamOf t i
    if p.2 != v then t
    else if 2 ≤ p.1 then swapOutFrom t v i (t.vat v).shadow true
    else if p.1 = 1 then setStream t i 0 0
    else t) s

/-! ## Detected faults of vats and turners -/

/-- R118, R151, R222: a detected fault of a vat; VAT_CHK_DET counts those under R116 and R117 (R124). -/
def detectVat (s : State) (v mech detail : Nat) : State :=
  let counted := if mech = mechRESIDUE ∨ mech = mechCOMPARE then s.modVat v fun x => { x with chkDet := satAdd32 x.chkDet 1 }
    else s
  match (s.vat v).bound with
  | none => queueDet { mkDet siteVAT v mech actREEXEC with detail := detail } counted
  | some k =>
    let third := ((runOf s k).map fun r => decide (3 ≤ r.attempts)).getD false
    let d := { mkTaskDet s siteVAT v mech (if third then actTASK_FAULTED else actREEXEC) k with detail := detail }
    releaseFaulty (queueDet d (shadowBack counted v k)) k [siteVAT * 256 + v]

/-- R159, R118, R222: a detected fault of a turner; TRN_LANE_DET counts lane mismatches and double-bit errors (R200). -/
def detectTurner (s : State) (t mech : Nat) : State :=
  let counted := if mech = mechCOMPARE ∨ mech = mechLOCKSTEP ∨ mech = mechECC_UNCORR then
      s.modTrn t fun x => { x with laneDet := satAdd32 x.laneDet 1 }
    else s
  match (s.trn t).bound with
  | none => queueDet (mkDet siteTURNER t mech actREEXEC) counted
  | some k =>
    let third := ((runOf s k).map fun r => decide (3 ≤ r.attempts)).getD false
    let d := { mkTaskDet s siteTURNER t mech (if third then actTASK_FAULTED else actREEXEC) k with
      detail := (s.trn t).pc.toNat }
    let s := match (s.trn t).vat with
      | some v => shadowBack counted v k
      | none => counted
    releaseFaulty (queueDet d s) k [siteTURNER * 256 + t]

/-! ## Whether units run -/

/-- R526, R529, R555, R596: the compute clocks run. -/
def computeOn (s : State) : Bool := s.pkg.phase == .ready && !s.flt.fatal && !s.pwr.coolStop

/-- The hub's engines run: the package is READY and not stopped. -/
def serviceOn (s : State) : Bool := s.pkg.phase == .ready && !s.flt.fatal

/-! ## A turner that waits for what it has issued (R191, R192) -/

/-- R200 TRN_RETIRED: an instruction retires and the program counter moves. -/
def retire (s : State) (t : Nat) (pc : Word) : State :=
  s.modTrn t fun x => { x with pc := pc, retired := satAdd64 x.retired 1 }

/-- R194, R200: the instruction at the program counter ends the task with an exception. -/
def trnExc (s : State) (t : Nat) (k : TaskRef) (code : Nat) : State := taskException s k code (s.trn t).pc.toNat

/-- A turner that waits and can go on: clocks run, not halted, its task not ended. -/
def trnWaiting (s : State) (t : Nat) : Bool :=
  let x := s.trn t
  computeOn s && t < 64 && x.state == 4 && !x.halted && x.bound.any fun k => (runOf s k).any fun r => !r.atEnd

/-- R191: every vat command and move that the task issued has completed. -/
def issuedDone (s : State) (x : Turner) (k : TaskRef) : Bool :=
  (x.vat.all fun v => (s.vat v).queue.isEmpty && (s.vat v).feed.isEmpty && (s.vat v).resid.isEmpty) &&
    (runOf s k).all fun r => r.moves == 0

/-- R192, R193: TYIELD takes effect: registers saved, vat and turner released, the task suspended. -/
def yieldTask (s : State) (t : Nat) (k : TaskRef) (cnt thr : Nat) : State :=
  let x := s.trn t
  let sv : Saved := { sreg := x.sreg, vreg := x.vreg, preg := x.preg, pc := x.pc + 4, cnt := cnt, thr := thr }
  releaseUnits (modRun s k fun r => { r with st := .suspended, saved := some sv }) k false

/-- R191, R192: a turner whose SSIG, TEND or TYIELD waits performs it once the work that its task issued is done. -/
def trnProceed (s : State) (t : Nat) : State :=
  let x := s.trn t
  match x.bound with
  | none => s
  | some k =>
    if !trnWaiting s t || !issuedDone s x k then s
    else
      let u := s.modTrn t fun y => { y with wait := .none, state := 3 }
      match x.wait with
      | .ssig c => if maySignal u k c then retire (settle (taskSignal u k c) k.g) t (x.pc + 4) else trnExc u t k 0x17
      | .tend => retire (modRun u k fun r => { r with atEnd := true }) t (x.pc + 4)
      | .tyield c thr => retire (yieldTask u t k c thr) t (x.pc + 4)
      | _ => s

/-- The turner whose task holds a vat goes on, if it waits for the vat's work. -/
def goOn (s : State) (v : Nat) : State :=
  match (s.vat v).byTurner with
  | some t => trnProceed s t
  | none => s

/-- Every turner that waits for work already done goes on. -/
def goOnAll (s : State) : State := (List.range 64).foldl trnProceed s

/-! ## Leaving idle (R119-R121) -/

/-- R119: an idle vat that has a command asks for a grant. -/
def requestGrant (x : Vat) : Vat := if x.state = 2 && !x.queue.isEmpty then { x with state := 4 } else x

/-- R120: the vats in WAIT_GRANT, in the order of their requests. -/
def grantOrder (s : State) : List Nat := s.pwr.grantQ.filter fun v => (s.vat v).state == 4

/-- R119-R121: a vat that is idle and has a command asks for a grant. Whether the exits of the present 1 µs are used up, so
that the request waits, is a matter of time, a free value (notes/assumptions/12.md); it waits where an earlier one does.
While it waits, CURRENT_STEP is in force. -/
def askGrant (s : State) (v : Nat) : State :=
  if (requestGrant (s.vat v)).state = (s.vat v).state then s
  else
    let late := (grantOrder s).any (fun u => (s.vat u).late) || drawn s % 2 == 1
    let s := advance (s.modVat v fun x => { requestGrant x with late := late })
    let s := { s with pwr := { s.pwr with grantQ := (grantOrder s).filter (· != v) ++ [v] } }
    if late then thrEnter 2 v s else s

/-- R121: CURRENT_STEP is in force while a request waits. -/
def grantsLeft (s : State) : State :=
  let q := grantOrder s
  let s := { s with pwr := { s.pwr with grantQ := q } }
  if q.any fun v => (s.vat v).late then s else thrLeave 2 s

end Sys2Proof.Machine
end

