-- ==== Sys2Proof/Machine/Formats.lean ====
section
/-! DEFINITION. The number formats of chapter 02: BF16 and FP32 with flushed subnormals, exact rounding of rationals,
rounding to codes, block scales. All arithmetic is exact on integers and rounds once. -/

namespace Sys2Proof.Machine

open Sys2Proof

/-- A decoded floating-point value: ±m·2^e, an infinity or a NaN. -/
inductive Fl where
  /-- a NaN -/
  | nan
  /-- an infinity; `true` for the negative one -/
  | inf (neg : Bool)
  /-- ±m·2^e; `true` for a negative sign, kept for zeros -/
  | fin (neg : Bool) (m : Nat) (e : Int)
deriving DecidableEq, Repr, Inhabited

/-- R37, R38: the value of a 32-bit FP32 pattern; a subnormal is read as a zero of its sign. -/
def flOf32 (w : Nat) : Fl :=
  let neg := bit w 31
  let ex := bits w 30 23
  let fr := bits w 22 0
  if ex = 255 then (if fr = 0 then .inf neg else .nan)
  else if ex = 0 then .fin neg 0 0
  else .fin neg (2 ^ 23 + fr) ((ex : Int) - 150)

/-- R37: the exact value of a 32-bit FP32 pattern, a subnormal's included. -/
def flExact (w : Nat) : Fl :=
  if bits w 30 23 = 0 then .fin (bit w 31) (bits w 22 0) (-149) else flOf32 w

/-- R37: the value of a 16-bit BF16 pattern, the upper half of an FP32 one. -/
def flOf16 (h : Nat) : Fl := flOf32 ((h % 2 ^ 16) * 2 ^ 16)

/-- `n`/`d` rounded to the nearest integer, ties to even. -/
def rneDiv (n d : Nat) : Nat :=
  let q := n / d
  let r := n % d
  if 2 * r < d then q else if d < 2 * r then q + 1 else if q % 2 = 0 then q else q + 1

/-- Numerator and denominator of (n/d)·2^t. -/
def scaleRat (n d : Nat) (t : Int) : Nat × Nat :=
  if 0 ≤ t then (n * 2 ^ t.toNat, d) else (n, d * 2 ^ (-t).toNat)

/-- The magnitude bits of (n/d)·2^e rounded once, to nearest with ties to even, to a binary format of precision `p`
and eight exponent bits (R38, R173): a subnormal result is flushed to zero, an overflow is the infinity. -/
def roundMag (p n d : Nat) (e : Int) : Nat :=
  if n = 0 then 0 else
  let lo : Int := -125 - (p : Int)
  let l : Int := e + (n.log2 : Int) - (d.log2 : Int) - ((p : Int) - 1)
  let s0 := scaleRat n d (e - l)
  let k := max (if s0.1 < 2 ^ (p - 1) * s0.2 then l - 1 else l) lo
  let s1 := scaleRat n d (e - k)
  let q0 := rneDiv s1.1 s1.2
  let q := if q0 = 2 ^ p then 2 ^ (p - 1) else q0
  let k := if q0 = 2 ^ p then k + 1 else k
  if q < 2 ^ (p - 1) then 0
  else
    let ex := (k - lo + 1).toNat
    if 255 ≤ ex then 255 * 2 ^ (p - 1) else ex * 2 ^ (p - 1) + (q - 2 ^ (p - 1))

/-- R173: the quiet NaN of FP32. -/
def nan32 : Nat := 0x7FC00000

/-- R173: the quiet NaN of BF16. -/
def nan16 : Nat := 0x7FC0

/-- A value rounded to FP32 (R38, R173). R173 names the quiet NaN for turners; that a vat's sums, scans and drains give the
same pattern is the model's choice (notes/assumptions/64.md). -/
def to32 (x : Fl) : Nat :=
  match x with
  | .nan => nan32
  | .inf neg => b2n neg * 2 ^ 31 + 0x7F800000
  | .fin neg m e => b2n neg * 2 ^ 31 + roundMag 24 m 1 e

/-- A value rounded to BF16 (R38, R62, R73); the NaN pattern of a drain is the model's choice (notes/assumptions/64.md). -/
def to16 (x : Fl) : Nat :=
  match x with
  | .nan => nan16
  | .inf neg => b2n neg * 2 ^ 15 + 0x7F80
  | .fin neg m e => b2n neg * 2 ^ 15 + roundMag 8 m 1 e

/-- An FP32 pattern rounded to BF16 (R73). -/
def bf16Of32 (w : Nat) : Nat := to16 (flOf32 w)

/-- The exact negation. -/
def Fl.neg (x : Fl) : Fl :=
  match x with
  | .nan => .nan
  | .inf n => .inf (!n)
  | .fin n m e => .fin (!n) m e

/-- The exact magnitude. -/
def Fl.abs (x : Fl) : Fl :=
  match x with
  | .nan => .nan
  | .inf _ => .inf false
  | .fin _ m e => .fin false m e

/-- The signed integer of a sign and a magnitude. -/
def sgn (neg : Bool) (m : Nat) : Int := if neg then -(m : Int) else (m : Int)

/-- The exact product, IEEE 754. -/
def Fl.mul (x y : Fl) : Fl :=
  match x, y with
  | .nan, _ => .nan
  | _, .nan => .nan
  | .inf a, .inf b => .inf (a != b)
  | .inf a, .fin b m _ => if m = 0 then .nan else .inf (a != b)
  | .fin a m _, .inf b => if m = 0 then .nan else .inf (a != b)
  | .fin a m e, .fin b n f => .fin (a != b) (m * n) (e + f)

/-- The exact sum, IEEE 754 under round to nearest: an exact zero sum of unlike signs is +0. -/
def Fl.add (x y : Fl) : Fl :=
  match x, y with
  | .nan, _ => .nan
  | _, .nan => .nan
  | .inf a, .inf b => if a = b then .inf a else .nan
  | .inf a, .fin .. => .inf a
  | .fin .., .inf b => .inf b
  | .fin a m e, .fin b n f =>
    if m = 0 ∧ n = 0 then .fin (a && b) 0 0
    else
      let g := min e f
      let t := sgn a m * 2 ^ (e - g).toNat + sgn b n * 2 ^ (f - g).toNat
      .fin (t < 0) t.natAbs g

/-- Ordering of two values that are not NaN; `none` where one is. Zeros are equal. -/
def Fl.cmp (x y : Fl) : Option Ordering :=
  match x, y with
  | .nan, _ => none
  | _, .nan => none
  | .inf a, .inf b => some (if a = b then .eq else if a then .lt else .gt)
  | .inf a, .fin .. => some (if a then .lt else .gt)
  | .fin .., .inf b => some (if b then .gt else .lt)
  | .fin a m e, .fin b n f =>
    let g := min e f
    let s := sgn a m * 2 ^ (e - g).toNat
    let t := sgn b n * 2 ^ (f - g).toNat
    some (if s < t then .lt else if s = t then .eq else .gt)

/-- FP32 addition (R38, R173). -/
def f32Add (a b : Nat) : Nat := to32 ((flOf32 a).add (flOf32 b))

/-- FP32 multiplication (R38, R173). -/
def f32Mul (a b : Nat) : Nat := to32 ((flOf32 a).mul (flOf32 b))

/-- FP32 a·b + c rounded once (R132, R175). -/
def f32Fma (a b c : Nat) : Nat := to32 (((flOf32 a).mul (flOf32 b)).add (flOf32 c))

/-- An integer times 2^g rounded to FP32 (R73 step 1). -/
def f32OfInt (n g : Int) : Nat := to32 (.fin (n < 0) n.natAbs g)

/-- An integer's 32-bit pattern read as two's complement. -/
def int32 (w : Nat) : Int := (BitVec.ofNat 32 w).toInt

/-- Two's complement 32-bit pattern of an integer. -/
def nat32 (n : Int) : Nat := (BitVec.ofInt 32 n).toNat

/-- R69: an INT32 add that saturates, and whether it did. -/
def satAddInt32 (a t : Int) : Int × Bool :=
  let s := a + t
  if s < -2147483648 then (-2147483648, true)
  else if 2147483647 < s then (2147483647, true)
  else (s, false)

/-- R68, R82: n·2^e rounded to an integer, to nearest with ties to even. -/
def rneInt (neg : Bool) (n : Nat) (e : Int) : Int :=
  let s := scaleRat n 1 e
  sgn neg (rneDiv s.1 s.2)

/-- R68: the exact product of a signed integer, two values and 2^g, rounded to an integer; `none` where a factor
is not finite (the manual states no term there). -/
def termOf (p : Int) (sw sa : Fl) (g : Int) : Option Int :=
  match sw, sa with
  | .fin a m e, .fin b n f => some (rneInt ((p < 0) != (a != b)) (p.natAbs * m * n) (e + f + g))
  | _, _ => none

/-- R55: the FP32 magnitude that an element contributes to the max-abs statistic; NaN, infinities and subnormals
contribute nothing. -/
def absContribution (w : Nat) : Nat :=
  match flOf32 w with
  | .fin _ m _ => if m = 0 then 0 else w % 2 ^ 31
  | _ => 0

/-- R55: the max-abs statistic of FP32 patterns, as an FP32 pattern. -/
def maxAbs (xs : List Nat) : Nat := xs.foldl (fun a w => max a (absContribution w)) 0

/-- R57: a BF16 scale with which elements receive the zero-point code: zero, subnormal, infinite or NaN. -/
def scaleDead (h : Nat) : Bool := bits h 14 7 = 0 || bits h 14 7 = 255

/-- R55: the max-abs statistic of exact values, as a value: NaN and infinities contribute nothing. -/
def maxFl (xs : List Fl) : Fl :=
  xs.foldl (fun a x => match x with
    | .fin _ m e => if a.cmp (.fin false m e) = some .lt then .fin false m e else a
    | _ => a) (.fin false 0 0)

/-- R56: the BF16 scale (ρ·M ÷ k), formed exactly and rounded once; 0 where R57 makes it 0. -/
def deriveFl (rho : Nat) (mx : Fl) (k : Nat) : Nat :=
  match flOf16 rho, mx with
  | .fin _ a e, .fin _ m f =>
    let h := roundMag 8 (a * m) k (e + f)
    if scaleDead h then 0 else h
  | _, _ => 0

/-- The same with the statistic as an FP32 pattern. -/
def deriveScale (rho mx k : Nat) : Nat := deriveFl rho (flOf32 mx) k

/-- R56: the Q8A, Q8KV and Q8W scale M ÷ 127. -/
def scaleQ8 (mx : Nat) : Nat := deriveScale 0x3F80 mx 127

/-- R59, R60: the candidate code for a finite quotient sx·mx·2^ex ÷ (ss·ms·2^es) under rounding mode `rm`
(0 NEAREST_EVEN on the code, 1 NEAREST_AWAY on the value), zero point `z`; it may lie outside the target. -/
def roundCode (neg : Bool) (n d : Nat) (t : Int) (z rm : Nat) : Int :=
  let s := scaleRat n d t
  let q := s.1 / s.2
  let r := s.1 % s.2
  let away : Int := (z : Int) + sgn neg (q + 1)
  let near : Int := (z : Int) + sgn neg q
  if r = 0 ∨ 2 * r < s.2 then near
  else if s.2 < 2 * r then away
  else if rm = 1 then away
  else if near % 2 = 0 then near else away

/-- What rounding one element to a code gives. -/
inductive Coded where
  /-- a regular code -/
  | code (c : Nat)
  /-- R65: a NaN, which receives the zero-point code and sets the flag -/
  | nan
  /-- R65: an infinity, which receives this code and counts a saturation -/
  | inf (c : Nat)
  /-- R62: outside the regular range; `c` is the nearer end -/
  | out (c : Nat)
deriving DecidableEq, Repr, Inhabited

/-- R57, R59-R62, R65: one element `x` against BF16 scale `s`, zero point `z`, highest regular code `hi`. -/
def codeOf (x : Fl) (s z hi rm : Nat) : Coded :=
  match x with
  | .nan => .nan
  | x =>
    if scaleDead s then .code z
    else
      match x, flOf16 s with
      | .inf neg, .fin sneg _ _ => .inf (if neg = sneg then hi else 0)
      | .fin neg m e, .fin sneg ms es =>
        let c := roundCode (neg != sneg) m ms (e - es) z rm
        if c < 0 then .out 0 else if (hi : Int) < c then .out hi else .code c.toNat
      | _, _ => .code z

/-- The result of quantising one block to a Q8 format: codes, scale, saturations, NaN flag. -/
structure Q8Block where
  /-- the codes in element order -/
  codes : List Nat
  /-- BF16 scale -/
  scale : Nat
  /-- saturations counted (R62, R65) -/
  sat : Nat
  /-- a NaN element was met (R65) -/
  nan : Bool
deriving DecidableEq, Repr, Inhabited

/-- R52, R64, R65: one block of values quantised to Q8 codes with zero point 128 against a given scale. -/
def quantQ8Fl (scale rm : Nat) (xs : List Fl) : Q8Block :=
  let cs := xs.map fun x => codeOf x scale 128 255 rm
  { codes := cs.map fun c => match c with
      | .code k => k
      | .nan => 128
      | .inf k => k
      | .out k => k
    scale := scale
    sat := (cs.filter fun c => match c with
      | .inf _ => true
      | .out _ => true
      | _ => false).length
    nan := cs.any fun c => c == .nan }

/-- The same on FP32 patterns. -/
def quantQ8With (scale rm : Nat) (xs : List Nat) : Q8Block := quantQ8Fl scale rm (xs.map flOf32)

/-- R55, R56: the same with the scale derived from the block's own statistic. -/
def quantQ8 (rm : Nat) (xs : List Nat) : Q8Block := quantQ8With (scaleQ8 (maxAbs xs)) rm xs

/-- The result of quantising one block to Q4: codes, whey entries, saturations, NaN flag. -/
structure Q4Block where
  /-- the codes in element order -/
  codes : List Nat
  /-- R62: whey entries, BF16, in element order -/
  whey : List Nat
  /-- saturations counted (R62, R65) -/
  sat : Nat
  /-- a NaN element was met (R65) -/
  nan : Bool
deriving DecidableEq, Repr, Inhabited

/-- R62, R63: one element added to a Q4 block; `room` is the number of escapes the block may hold. -/
def q4Step (scale z hi rm room : Nat) (b : Q4Block) (x : Fl) : Q4Block :=
  match codeOf x scale z hi rm with
  | .code c => { b with codes := b.codes ++ [c] }
  | .nan => { b with codes := b.codes ++ [z], nan := true }
  | .inf c => { b with codes := b.codes ++ [c], sat := b.sat + 1 }
  | .out c =>
    if b.whey.length < room then { b with codes := b.codes ++ [15], whey := b.whey ++ [to16 x] }
    else { b with codes := b.codes ++ [c], sat := b.sat + 1 }

/-- R56, R61-R65: one Q4 block of values under a given scale. `esc` chooses zero point 7 and escapes, otherwise zero
point 8; `room` is the escape room that remains (R62). -/
def quantQ4Fl (scale rm : Nat) (esc : Bool) (room : Nat) (xs : List Fl) : Q4Block :=
  xs.foldl (q4Step scale (if esc then 7 else 8) (if esc then 14 else 15) rm (if esc then min room 8 else 0))
    { codes := [], whey := [], sat := 0, nan := false }

/-- The same on FP32 patterns. -/
def quantQ4With (scale rm : Nat) (esc : Bool) (room : Nat) (xs : List Nat) : Q4Block :=
  quantQ4Fl scale rm esc room (xs.map flOf32)

/-- R56: the Q4 scale of a statistic: ρ × M ÷ 7. -/
def scaleQ4 (rho mx : Nat) : Nat := deriveScale rho mx 7

/-- R56: a clip ratio above 0 and at most 1. -/
def rhoOK (rho : Nat) : Bool :=
  match flOf16 rho with
  | .fin false m _ => m != 0 && (Fl.cmp (flOf16 rho) (flOf16 0x3F80)).any fun o => o != .gt
  | _ => false

/-- R39: 64 codes packed into 32 bytes. -/
def packQ4 : List Nat → Bytes
  | a :: b :: r => BitVec.ofNat 8 (a + 16 * b) :: packQ4 r
  | [a] => [BitVec.ofNat 8 a]
  | [] => []

/-- R40: a Q4 block header. -/
def q4Header (scale z : Nat) (esc : Bool) (n : Nat) : Nat := scale + z * 2 ^ 16 + b2n esc * 2 ^ 20 + n * 2 ^ 21

/-- R41, R50, R52: the exact value s·(c − z) of a regular code, as a float value. -/
def dequant (s c z : Nat) : Fl :=
  let p := (c : Int) - (z : Int)
  (flOf16 s).mul (.fin (p < 0) p.natAbs 0)

end Sys2Proof.Machine
end

