-- ==== Sys2Proof/Machine/KvOps.lean ====
section
/-! DEFINITION. The KV engine's pages, hoops and views (R341-R379), shared by moves and by the accession engine. -/

namespace Sys2Proof.Machine

open Sys2Proof

/-- The accession entry of an index. -/
def accAt (s : State) (a : Nat) : Option Acc := tget s.acc.tab a

/-- `s` with an accession entry changed. -/
def modAcc (s : State) (a : Nat) (f : Acc → Acc) : State := { s with acc := { s.acc with tab := tmod s.acc.tab a f } }

/-- The hoop of an entry. -/
def hoopAt (s : State) (e : Nat) : Option Hoop := tget s.kve.hoops e

/-- `s` with a hoop entry changed. -/
def modHoop (s : State) (e : Nat) (f : Hoop → Hoop) : State := { s with kve := { s.kve with hoops := tmod s.kve.hoops e f } }

/-- `s` with a catalogue entry changed. -/
def modPage (s : State) (p : Nat) (f : Page → Page) : State := { s with kve := { s.kve with pages := tmod s.kve.pages p f } }

/-! ## Layouts -/

/-- R342: Pb, the bytes of a page of a class. -/
def pageBytes (s : State) (c : Nat) : Nat := 16 * classLayers s c * classHeads s c * 260

/-- R356: the bytes of one position slot of a hoop. -/
def slotBytes (s : State) (c : Nat) : Nat := classLayers s c * 260 * classHeads s c

/-- R356: the bytes of a hoop of a class. -/
def hoopBytes (s : State) (c : Nat) : Nat := roundUp (24 * slotBytes s c) 4096

/-- R344: the extent of a class's extents, in order, that holds frame number `f`: its first byte, and the frame's place in
it. -/
def extentOf : List (Nat × Nat × Nat) → Nat → Option (Nat × Nat)
  | [], _ => none
  | e :: es, f => if f < e.2.2 then some (e.2.1, f) else extentOf es (f - e.2.2)

/-- R342, R344: the byte of the page region, whose bytes `Kve.frames` holds, at which a frame of a class begins. A number
that no extent holds is no frame's; it is given bytes of its own beyond every page region. -/
def frameKey (s : State) (c f : Nat) : Nat :=
  match extentOf (s.kve.extents.filter (·.1 == c)) f with
  | some p => p.1 + p.2 * classFb s c
  | none => 2 ^ 48 + (c * 2 ^ 20 + f) * 2 ^ 24

/-- R355, R358, R360: the near-store offset at which a hoop begins: BASE counts from the top of the near store, so that a
hoop stays where it is when the pool changes (notes/assumptions/25.md). -/
def hoopStart (s : State) (h : Hoop) : Nat := nearSize - h.base * 4096 - hoopBytes s h.cls

/-- R357: the near-store offset of a hoop's slot. -/
def slotAddr (s : State) (h : Hoop) (slot : Nat) : Nat := hoopStart s h + slot * slotBytes s h.cls

/-- R358: the slot of a position. -/
def slotOf (h : Hoop) (p : Nat) : Nat := (h.head + p - h.basePos) % 24

/-- R352, R362: a slot holds a committed position or a position of the running step. -/
def slotLive (h : Hoop) (slot : Nat) : Bool := slot < 24 && (slot + 24 - h.head) % 24 < h.commit + h.step

/-- R343: offsets of the K codes, V codes, K scale and V scale of (layer, head, position) in a page. -/
def pageOffs (hh l h p : Nat) : Nat × Nat × Nat × Nat :=
  let b := 4160 * hh * l
  (b + 128 * (16 * h + p), b + 2048 * hh + 128 * (16 * h + p), b + 4096 * hh + 2 * (16 * h + p),
   b + 4128 * hh + 2 * (16 * h + p))

/-- R357: the same in a hoop slot. -/
def slotOffs (hh l h : Nat) : Nat × Nat × Nat × Nat :=
  let b := 260 * hh * l
  (b + 128 * h, b + 128 * hh + 128 * h, b + 256 * hh + 2 * h, b + 258 * hh + 2 * h)

/-! ## Pages -/

/-- The pages of an accession: page number and entry, in page order. -/
def pagesOf (s : State) (a : Nat) : List (Nat × Page) :=
  sortBy (fun e => e.2.index) (s.kve.pages.filter fun e => e.2.acc == a)

/-- The number of pages of an accession. -/
def pageCount (s : State) (a : Nat) : Nat := (s.kve.pages.filter fun e => e.2.acc == a).length

/-- R374: free frames of a class. -/
def freeFrames (s : State) (c : Nat) : Nat := classFrames s c - (s.kve.pages.filter fun e => e.2.cls == c).length

/-- R380 KVE_USED_c: pages held by a collection. -/
def collPages (s : State) (coll : Nat) : Nat := (s.kve.pages.filter fun e => e.2.coll == coll).length

/-- R374: KVE_QUOTA_c. -/
def pageQuota (s : State) (coll : Nat) : Nat := rsv s (0x60100 + 4 * coll) 131072

/-- R379: a KV_WATERMARK event. -/
def kvEvent (code cls acc coll : Nat) (s : State) : State :=
  sendEvent evKV_WATERMARK (le4 code ++ le4 cls ++ le4 (freeFrames s cls) ++
    le4 (s.acc.tab.filter fun e => e.2.state == 4).length ++ le4 acc ++ le4 coll) s

/-- R379: the watermark events that the free frames of a class call for. -/
def checkMarks (c : Nat) (s : State) : State :=
  let f := freeFrames s c
  let low := rsv s (0x60040 + 4 * c) 0
  let crit := rsv s (0x60050 + 4 * c) 0
  let s := if f < low ∧ ¬s.kve.lowSent.contains c then
      kvEvent 1 c max32 max32 { s with kve := { s.kve with lowSent := c :: s.kve.lowSent } } else s
  let s := if f < crit ∧ ¬s.kve.critSent.contains c then
      kvEvent 2 c max32 max32 { s with kve := { s.kve with critSent := c :: s.kve.critSent } }
    else if crit ≤ f then { s with kve := { s.kve with critSent := s.kve.critSent.filter (· != c) } } else s
  if low ≤ f ∧ s.kve.lowSent.contains c then
    let s := { s with kve := { s.kve with lowSent := s.kve.lowSent.filter (· != c) } }
    if low = 0 then s else kvEvent 3 c max32 max32 s
  else s

/-- R348: the lowest free page number. -/
def lowestPage (s : State) : Nat :=
  ((List.range (s.kve.pages.length + 1)).find? fun p => (tget s.kve.pages p).isNone).getD 0

/-- R374: why a page cannot be allocated: the class has no free frame (false) or the quota is used up (true). -/
def pageDenied (s : State) (c coll n : Nat) : Option Bool :=
  if freeFrames s c < n then some false else if pageQuota s coll < collPages s coll + n then some true else none

/-- R342, R348: a page taken for an accession and not yet linked: the lowest free page number, a free frame of the class,
its unused bytes 0. -/
def drawPage (s : State) (a coll c state : Nat) (twin : Bool) : State × Nat :=
  let pn := lowestPage s
  let r := pickBelow (classFrames s c) (fun f => !s.kve.pages.any fun e => e.2.cls == c && e.2.frame == f) s
  let f := r.1.getD 0
  let page : Page := { frame := f, cls := c, next := 0, last := true, acc := a, coll := coll, state := state,
                       index := pageCount s a, twin := twin, twinDone := false, damaged := false }
  let t := { r.2 with kve := { r.2.kve with
    pages := tset r.2.kve.pages pn page
    frames := mzero r.2.kve.frames (frameKey s c f + pageBytes s c) (classFb s c - pageBytes s c) } }
  (t, pn)

/-- R374, R379: the same for one page by itself, with the events that it calls for. -/
def takePage (s : State) (a coll c state : Nat) (twin : Bool) : State × Nat :=
  let r := drawPage s a coll c state twin
  (checkMarks c r.1, r.2)

/-- R347: a page linked at the tail of its accession's list, in a state. -/
def linkPage (s : State) (a pn state : Nat) : State :=
  let s := match (accAt s a).bind (·.ptail) with
    | some q => modPage s q fun e => { e with next := pn, last := false }
    | none => s
  modAcc (modPage s pn fun e => { e with state := state }) a fun y =>
    { y with phead := if y.phead.isSome then y.phead else some pn, ptail := some pn }

/-- R367: the reserved pages of an accession that has reached no commit point freed; the list ends with the page before. -/
def freeReserved (s : State) (a : Nat) : State :=
  let cs := ((s.kve.pages.filter fun e => e.2.acc == a && e.2.state == 1).map fun e => e.2.cls).eraseDups
  let s := { s with kve := { s.kve with pages := s.kve.pages.filter fun e => !(e.2.acc == a && e.2.state == 1) } }
  let tail := ((pagesOf s a).getLast?).map (·.1)
  let s := match tail with
    | some q => modPage s q fun e => { e with last := true, next := 0 }
    | none => s
  cs.foldl (fun t c => checkMarks c t) (modAcc s a fun x =>
    { x with ptail := tail, phead := if tail.isNone then none else x.phead })

/-- R348: every page of an accession freed. -/
def freePages (s : State) (a : Nat) : State :=
  let cs := ((s.kve.pages.filter fun e => e.2.acc == a).map fun e => e.2.cls).eraseDups
  let s := { s with kve := { s.kve with pages := s.kve.pages.filter fun e => e.2.acc != a } }
  cs.foldl (fun t c => checkMarks c t) (modAcc s a fun x => { x with phead := none, ptail := none })

/-! ## Hoops -/

/-- R359: the ranges of a cluster's share that hoops hold, in units of 4 KiB. -/
def hoopUsed (s : State) (c : Nat) : List (Nat × Nat) :=
  (s.kve.hoops.filter fun e => e.2.cluster == c).map fun e => (e.2.base, hoopBytes s e.2.cls / 4096)

/-- R359, R360: the lowest free place for `n` units in a cluster's share; no object's copy lies there any more. -/
def hoopPlace (s : State) (c n : Nat) : Option Nat :=
  let used := hoopUsed s c
  argMin id ((0 :: used.map fun r => r.1 + r.2).filter fun b =>
    b + n ≤ hoopShare s / 4096 && rangeFree used b n && rangeFree (nearUsed s c) (nearSize - (b + n) * 4096) (n * 4096))

/-- R359: a hoop for an accession in the cluster with the most free bytes and room, or none. -/
def allocHoop (s : State) (a cls : Nat) : Option (State × Nat) :=
  let n := hoopBytes s cls / 4096
  let free (c : Nat) : Nat := hoopShare s / 4096 - total ((hoopUsed s c).map (·.2))
  let cs := (List.range 8).filter fun c => (hoopPlace s c n).isSome
  match argMin (fun c => 2 ^ 20 - free c) cs with
  | none => none
  | some c =>
    match hoopPlace s c n, pickBelow 4096 (fun e => (hoopAt s e).isNone) s with
    | some b, (some e, s) =>
      let h : Hoop := { acc := a, cls := cls, cluster := c, pressing := none, waited := false, pageWait := false, head := 0, commit := 0,
                        step := 0, base := b, basePos := 0, damaged := false }
      some (modAcc { s with kve := { s.kve with hoops := tset s.kve.hoops e h } } a fun x => { x with hoop := some e }, e)
    | _, _ => none

/-- R359: a hoop released. -/
def freeHoop (s : State) (a : Nat) : State :=
  match (accAt s a).bind (·.hoop) with
  | some e => modAcc { s with kve := { s.kve with hoops := terase s.kve.hoops e } } a fun x => { x with hoop := none }
  | none => s

/-! ## Views (R350-R353) -/

/-- R350: a KV view handle. -/
def isView (h : Nat) : Bool := 0x80000000 ≤ h && h < 0x80000004

/-- R351: the causes of KVE_LAST_FAIL. -/
def kvWINDOW : Nat := 1
def kvRANGE : Nat := 2
def kvPOSITION : Nat := 3
def kvCOLLECTION : Nat := 4

/-- The collection of the accession that holds a hoop. -/
def hoopColl (s : State) (h : Hoop) : Option Nat := (accAt s h.acc).map (·.coll)

/-- R351, R352: `n` bytes read from a view by a task of a collection, and whether any was denied; or the cause of
failure. -/
def viewRead (s : State) (c coll off n : Nat) : Except Nat (Bytes × Bool) :=
  let o := off % 2 ^ 56
  if off / 2 ^ 56 = 0 then
    let fb := classFb s c
    if fb = 0 ∨ classFrames s c ≤ o / fb ∨ fb < o % fb + n then .error kvRANGE
    else
      let f := o / fb
      if s.kve.pages.any fun e => e.2.cls == c && e.2.frame == f && (e.2.state == 1 || e.2.state == 2) && e.2.coll == coll
      then .ok (mread s.kve.frames (frameKey s c f + o % fb) n, false)
      else .ok (zeros n, true)
  else if off / 2 ^ 56 = 1 then
    let e := o / 2 ^ 24
    let b := o % 2 ^ 24
    if 4096 ≤ e ∨ hoopBytes s c < b + n then .error kvRANGE
    else
      match hoopAt s e with
      | some h =>
        if h.cls != c || hoopColl s h != some coll then .ok (zeros n, true)
        else
          let raw := mread (s.nearOf h.cluster) (slotAddr s h 0 + b) n
          let live (i : Nat) : Bool := slotLive h ((b + i) / slotBytes s c)
          .ok (raw.zipIdx.map fun p => if live p.2 then p.1 else 0, (List.range n).any fun i => !live i)
      | none => .ok (zeros n, true)
  else .error kvWINDOW

/-- Where an appended position goes. -/
inductive KvSink where
  /-- a hoop slot: cluster and near-store offset of the slot -/
  | slot (c a : Nat)
  /-- a page frame: key and position within the page -/
  | page (key p : Nat)
deriving DecidableEq, Repr, Inhabited

/-- R353: the place of a position of a hoop's accession. -/
def appendSink (s : State) (h : Hoop) (p : Nat) : Option KvSink :=
  if h.basePos ≤ p ∧ p < h.basePos + h.commit + h.step then some (.slot h.cluster (slotAddr s h (slotOf h p)))
  else
    (s.kve.pages.find? fun e => e.2.acc == h.acc && e.2.index == p / 16 && e.2.state == 1).map fun e =>
      .page (frameKey s e.2.cls e.2.frame) (p % 16)

/-- R353: one quantised block written to its place. -/
def sinkBlock (s : State) (k : KvSink) (hh l blk : Nat) (q : Q8Block) : State :=
  let codes := q.codes.map fun c => BitVec.ofNat 8 c
  let sc := leBytes 2 q.scale
  let h := blk % hh
  let v := hh ≤ blk
  match k with
  | .slot c a =>
    let o := slotOffs hh l h
    (s.nearWrite c (a + if v then o.2.1 else o.1) codes).nearWrite c (a + if v then o.2.2.2 else o.2.2.1) sc
  | .page key p =>
    let o := pageOffs hh l h p
    { s with kve := { s.kve with
        frames := mwrite (mwrite s.kve.frames (key + if v then o.2.1 else o.1) codes)
          (key + if v then o.2.2.2 else o.2.2.1) sc } }

/-- R351, R353: bytes written to the append window by a task; saturations and the NaN flag, or the cause of failure. -/
def viewAppend (s : State) (c coll rm off : Nat) (bs : Bytes) : Except Nat (State × Nat × Bool) :=
  let o := off % 2 ^ 56
  let b := o % 8192
  let l := o / 8192 % 128
  let p := o / 2 ^ 20 % 2 ^ 17
  let e := o / 2 ^ 37
  let hh := classHeads s c
  if off / 2 ^ 56 != 2 then .error kvWINDOW
  else if 4096 ≤ e ∨ classLayers s c ≤ l ∨ 512 * hh < b + bs.length ∨ b % 256 ≠ 0 ∨ bs.length % 256 ≠ 0 then .error kvRANGE
  else
    match hoopAt s e with
    | none => .error kvPOSITION
    | some h =>
      if h.cls != c then .error kvRANGE
      else if hoopColl s h != some coll then .error kvCOLLECTION
      else
        match appendSink s h p with
        | none => .error kvPOSITION
        | some k =>
          .ok ((List.range (bs.length / 256)).foldl (fun (r : State × Nat × Bool) i =>
            let q := quantQ8 rm ((List.range 128).map fun j => 65536 * bnum bs (256 * i + 2 * j) 2)
            (sinkBlock r.1 k hh l (b / 256 + i) q, r.2.1 + q.sat, r.2.2 || q.nan)) (s, 0, false))

end Sys2Proof.Machine
end

