-- ==== Sys2Proof/Machine/Operands.lean ====
section
/-! DEFINITION. The operand forms of a turner (R155, R156, R172): registers, elements of vector registers, predicates
and the two address windows. -/

namespace Sys2Proof.Machine

open Sys2Proof

/-! ## Registers (R155) -/

/-- s[i]; s0 reads as 0. -/
def Turner.s (t : Turner) (i : BitVec 5) : DWord := if i = 0 then 0 else t.sreg.getD i.toNat 0

/-- s[i] written; a write to s0 is discarded. -/
def Turner.setS (t : Turner) (i : BitVec 5) (x : DWord) : Turner :=
  if i = 0 then t else { t with sreg := t.sreg.set i.toNat x }

/-- v[i]. -/
def Turner.v (t : Turner) (i : Nat) : VReg := t.vreg.getD i 0

/-- v[i] written. -/
def Turner.setV (t : Turner) (i : Nat) (x : VReg) : Turner := { t with vreg := t.vreg.set i x }

/-- p[i]; p0 reads as all ones. -/
def Turner.p (t : Turner) (i : Nat) : DWord := if i = 0 then BitVec.allOnes 64 else t.preg.getD i 0

/-- p[i] written; a write to p0 is discarded. -/
def Turner.setP (t : Turner) (i : Nat) (x : DWord) : Turner :=
  if i = 0 then t else { t with preg := t.preg.set i x }

/-! ## Elements (R172) -/

/-- Bits of an element of type ET. -/
def etBits (et : Nat) : Nat := if et = 0 then 8 else if et = 1 ∨ et = 3 then 16 else 32

/-- Elements of type ET in a register. -/
def etCount (et : Nat) : Nat := 512 / etBits et

/-- ET names a type. -/
def etOK (et : Nat) : Bool := et ≤ 4

/-- ET names a floating type. -/
def etFloat (et : Nat) : Bool := et == 3 || et == 4

/-- The elements of `w` bits of a register, from bit 0 upwards. -/
def elems (w : Nat) (x : VReg) : List Nat := (List.range (512 / w)).map fun i => (x.toNat >>> (w * i)) % 2 ^ w

/-- A number whose digits of `w` bits, lowest first, are `xs`. -/
def packNat (w : Nat) : List Nat → Nat
  | [] => 0
  | x :: xs => x % 2 ^ w + 2 ^ w * packNat w xs

/-- A register of elements of `w` bits. -/
def pack (w : Nat) (xs : List Nat) : VReg := BitVec.ofNat 512 (packNat w xs)

/-- Element `i` is active under a predicate. -/
def active (p : DWord) (i : Nat) : Bool := p.getLsbD i

/-- R172: the new elements where active, the old ones elsewhere. -/
def merge (p : DWord) (old new : List Nat) : List Nat :=
  (old.zip new).zipIdx.map fun e => if active p e.2 then e.1.2 else e.1.1

/-- The bytes of a register, lowest first. -/
def vbytes (x : VReg) : Bytes := (elems 8 x).map fun b => BitVec.ofNat 8 b

/-- A register of 64 bytes. -/
def vOfBytes (bs : Bytes) : VReg := pack 8 (bs.map BitVec.toNat)

/-- A pattern of `w` bits read as two's complement. -/
def sx (w x : Nat) : Int := (BitVec.ofNat w x).toInt

/-- The `w`-bit pattern of an integer. -/
def wrapTo (w : Nat) (x : Int) : Nat := (BitVec.ofInt w x).toNat

/-- The value of a floating element. -/
def flOf (et x : Nat) : Fl := if et = 3 then flOf16 x else flOf32 x

/-- R173: a value rounded to a floating element. -/
def flTo (et : Nat) (x : Fl) : Nat := if et = 3 then to16 x else to32 x

/-! ## Addresses (R156) -/

/-- Where a turner address leads. -/
inductive Win where
  /-- the scratch, at an offset -/
  | scratch (off : Nat)
  /-- the cluster's near store, at an offset -/
  | near (off : Nat)
deriving DecidableEq, Repr, Inhabited

/-- R156: the window that holds the `n` bytes from an address; none is TRN_ADDR. -/
def window (s : State) (a n : Nat) : Option Win :=
  if a + n ≤ 0x10000 then some (.scratch a)
  else if 0x10000000 + areaBase s ≤ a && a + n ≤ 0x10000000 + nearSize then some (.near (a - 0x10000000))
  else none

/-- The `n` bytes at a window of turner `t`. -/
def winRead (s : State) (t : Nat) (w : Win) (n : Nat) : Bytes :=
  match w with
  | .scratch o => mread (s.trn t).scratch o n
  | .near o => mread (s.nearOf (clusterOfTrn t)) o n

/-- Bytes stored at a window of turner `t`. -/
def winWrite (s : State) (t : Nat) (w : Win) (bs : Bytes) : State :=
  match w with
  | .scratch o => s.modTrn t fun x => { x with scratch := mwrite x.scratch o bs }
  | .near o => s.nearWrite (clusterOfTrn t) o bs

/-! ## Exception codes (R194) -/

def xTRN_ILLEGAL : Nat := 0x10
def xTRN_ADDR : Nat := 0x11
def xTRN_ALIGN : Nat := 0x12
def xTRN_GROUP : Nat := 0x13
def xTRN_DIV0 : Nat := 0x14
def xTRN_DMA : Nat := 0x15
def xTRN_MOVE : Nat := 0x16
def xTRN_SYNC : Nat := 0x17
def xTRN_NOVAT : Nat := 0x18
def xTRN_TOPK : Nat := 0x19
def xTRN_TRAP : Nat := 0x1A

end Sys2Proof.Machine
end

