-- ==== Sys2Proof/Machine/Flags.lean ====
section
/-! DEFINITION. The saturation count, the NaN flag and the integer and floating element functions of the turners
(R66, R74, R75, R165, R174, R176). -/

namespace Sys2Proof.Machine

open Sys2Proof

/-- R74, R75: saturations and a NaN counted by turner `t` for its task. -/
def countSat (s : State) (t : Nat) (k : TaskRef) (sat : Nat) (nan : Bool) : State :=
  taskSat (s.modTrn t fun x => { x with sat := satAdd32 x.sat sat, nan := x.nan || nan }) k sat nan

/-- R165: the function of INT that FN selects; none where FN is unassigned, a required zero is not zero, or the
divisor is 0 (an exception code). -/
def intFn (fn : Nat) (b : BitVec 5) (x y : DWord) : Except Nat DWord :=
  let sh := y.toNat % 64
  match fn with
  | 0x00 => .ok (x + y)
  | 0x01 => .ok (x - y)
  | 0x02 => .ok (x &&& y)
  | 0x03 => .ok (x ||| y)
  | 0x04 => .ok (x ^^^ y)
  | 0x05 => .ok (x <<< sh)
  | 0x06 => .ok (x >>> sh)
  | 0x07 => .ok (x.sshiftRight sh)
  | 0x08 => .ok (if x.slt y then 1 else 0)
  | 0x09 => .ok (if x.ult y then 1 else 0)
  | 0x0A => .ok (x * y)
  | 0x0B => .ok (BitVec.ofNat 64 (x.toNat * y.toNat / 2 ^ 64))
  | 0x0C => if y = 0 then .error xTRN_DIV0 else .ok (x / y)
  | 0x0D => if y = 0 then .error xTRN_DIV0 else .ok (x % y)
  | 0x0E => .ok (if x.slt y then x else y)
  | 0x0F => .ok (if x.slt y then y else x)
  | 0x10 => if b = 0 then .ok (BitVec.ofNat 64 (((List.range 64).find? fun i => x.getLsbD i).getD 64))
      else .error xTRN_ILLEGAL
  | 0x11 => if b = 0 then .ok (BitVec.ofNat 64 ((List.range 64).filter fun i => x.getLsbD i).length)
      else .error xTRN_ILLEGAL
  | _ => .error xTRN_ILLEGAL

/-- An integer kept within the limits of `w` bits. -/
def clampTo (w : Nat) (x : Int) : Int := max (-2 ^ (w - 1)) (min (2 ^ (w - 1) - 1) x)

/-- R174: the integer element function of FN on elements of `w` bits. -/
def intElem (w fn x y : Nat) : Nat :=
  let a := sx w x
  let b := sx w y
  let sh := y % w
  match fn with
  | 0 => wrapTo w (a + b)
  | 1 => wrapTo w (a - b)
  | 2 => wrapTo w (a * b)
  | 3 => if a ≤ b then x else y
  | 4 => if a ≤ b then y else x
  | 5 => wrapTo w (clampTo w (a + b))
  | 6 => wrapTo w (clampTo w (a - b))
  | 7 => x &&& y
  | 8 => x ||| y
  | 9 => x ^^^ y
  | 10 => (x <<< sh) % 2 ^ w
  | 11 => x >>> sh
  | 12 => wrapTo w (a >>> sh)
  | 13 => wrapTo w (a.natAbs : Nat)
  | 14 => wrapTo w (-a)
  | _ => wrapTo w ((a * b) / 2 ^ w)

/-- R174: whether `x` sorts below `y` for MIN and MAX: −0 below +0. -/
def flBelow (x y : Fl) : Bool :=
  match Fl.cmp x y with
  | some .lt => true
  | some .eq => (match x, y with
    | .fin a 0 _, .fin b 0 _ => a && !b
    | _, _ => false)
  | _ => false

/-- R174: MIN; a NaN operand yields the other operand. -/
def flMin (x y : Fl) : Fl :=
  match x, y with
  | .nan, y => y
  | x, .nan => x
  | x, y => if flBelow y x then y else x

/-- R174: MAX; a NaN operand yields the other operand. -/
def flMax (x y : Fl) : Fl :=
  match x, y with
  | .nan, y => y
  | x, .nan => x
  | x, y => if flBelow x y then y else x

/-- R174: the functions that FN names for floating types. -/
def flFnOK (fn : Nat) : Bool := fn ≤ 4 || fn == 13 || fn == 14

/-- R173, R174: the floating element function of FN, before its rounding. -/
def flElem (fn : Nat) (x y : Fl) : Fl :=
  match fn with
  | 0 => x.add y
  | 1 => x.add y.neg
  | 2 => x.mul y
  | 3 => flMin x y
  | 4 => flMax x y
  | 13 => x.abs
  | _ => x.neg

/-- R174: the element function of ET and FN. -/
def arithElem (et fn x y : Nat) : Nat :=
  if etFloat et then flTo et (flElem fn (flOf et x) (flOf et y)) else intElem (etBits et) fn x y

/-- R176: the comparison of FN for integers. -/
def cmpInt (w fn x y : Nat) : Bool :=
  let a := sx w x
  let b := sx w y
  match fn with
  | 0 => a == b
  | 1 => a != b
  | 2 => a < b
  | 3 => a ≤ b
  | 4 => b < a
  | 5 => b ≤ a
  | 6 => x < y
  | _ => y ≤ x

/-- R176: the comparison of FN for floating values. -/
def cmpFl (fn : Nat) (x y : Fl) : Bool :=
  match Fl.cmp x y with
  | none => fn == 1
  | some o =>
    match fn with
    | 0 => o == .eq
    | 1 => o != .eq
    | 2 => o == .lt
    | 3 => o != .gt
    | 4 => o == .gt
    | _ => o != .lt

end Sys2Proof.Machine
end

