-- ==== Sys2Proof/Machine/Vat.lean ====
section
/-! DEFINITION. The vats: the nine commands, the residue comparison, start from idle, and the swapping of streams
(chapters 03 and 04). -/

namespace Sys2Proof.Machine

open Sys2Proof

/-! ## Fields of a command (R99) -/

/-- Bits `hi` to `lo` of a vat command. -/
def vf (w : BitVec 128) (hi lo : Nat) : Nat := bits w.toNat hi lo

/-- A field read as two's complement. -/
def vsf (w : BitVec 128) (hi lo : Nat) : Int :=
  let x := vf w hi lo
  if 2 ^ (hi - lo) ≤ x then (x : Int) - 2 ^ (hi + 1 - lo) else x

/-- R99: OP. -/
def vOP (w : BitVec 128) : Nat := vf w 3 0
/-- R99: MODE. -/
def vMODE (w : BitVec 128) : Nat := vf w 5 4
/-- R99: SIG. -/
def vSIG (w : BitVec 128) : Bool := vf w 6 6 == 1
/-- R99: SYNC. -/
def vSYNC (w : BitVec 128) : Nat := vf w 19 8

/-- R82: bytes of a tile record by MODE. -/
def tileBytes (mode : Nat) : Nat := if mode = 0 then 36352 else if mode = 1 then 33792 else 32768

/-- R82, R97: output columns by MODE. -/
def modeCols (mode : Nat) : Nat := if mode = 0 then 512 else if mode = 1 then 256 else 128

/-! ## Addresses (R80, R212) -/

/-- R212: the field is operand-relative. -/
def isRel (f : Nat) : Bool := bit f 31

/-- R101-R107: the offset of a field is aligned; copies of objects begin at multiples of 4 KiB. -/
def aligned (f a : Nat) : Bool := (if isRel f then f % 2 ^ 28 else f) % a == 0

/-- R80, R212: the near-store offset that a field names, where `len` bytes from it lie in the operand, or in the near
store; none is VAT_ADDR. `rel` says whether the field may be operand-relative. -/
def resolveAddr (s : State) (v : Nat) (k : TaskRef) (rel : Bool) (f len : Nat) : Option Nat :=
  if rel && isRel f then
    match operandObj s k (bits f 30 28) with
    | some (_, o) =>
      let c := clusterOfVat v
      if o.inNear c && f % 2 ^ 28 + len ≤ o.size then some (o.nearOff c + f % 2 ^ 28) else none
    | none => none
  else if f + len ≤ nearSize then some f else none

/-! ## Tiles -/

/-- R48: the 1,024 block headers of a Q4 tile record, each 28 bits, 8 to a header group read as one number. -/
def q4Headers (t : Memory) : List Nat :=
  (List.range 128).flatMap fun g =>
    let x := mnum t (32768 + 28 * g) 28
    (List.range 8).map fun i => bits x (28 * i + 27) (28 * i)

/-- R40: SCALE. -/
def hSCALE (h : Nat) : Nat := h % 65536
/-- R40: ZP. -/
def hZP (h : Nat) : Nat := bits h 19 16
/-- R40: ESC. -/
def hESC (h : Nat) : Bool := bit h 20
/-- R40: WHEY_N. -/
def hWHEY (h : Nat) : Nat := bits h 26 21

/-- `n` runs of `k` elements. -/
def chunks {α : Type} (k : Nat) : Nat → List α → List (List α)
  | 0, _ => []
  | n + 1, xs => xs.take k :: chunks k n (xs.drop k)

/-- R39: the codes of code bytes, the low half first. -/
def q4Codes (bs : Bytes) : List Nat := bs.flatMap fun b => [b.toNat % 16, b.toNat / 16]

/-- R48: the headers and codes of the 1,024 blocks of a Q4 tile record. -/
def q4Blocks (t : Memory) : List (Nat × List Nat) :=
  (q4Headers t).zip ((chunks 32 1024 (mread t 0 32768)).map q4Codes)

/-- R86: the structure of a block checked as it enters the vat. -/
def q4BlockOK (b : Nat × List Nat) : Bool :=
  hWHEY b.1 ≤ 8 && (if hESC b.1 then (b.2.filter (· == 15)).length == hWHEY b.1 else hWHEY b.1 == 0)

/-- R86: E, the escapes of a Q4 tile record. -/
def q4Escapes (t : Memory) : Nat := total ((q4Headers t).map hWHEY)

/-- R44: the elements of a block: a regular one as its operand c − ZP, an escape as the next whey entry. -/
def blockElems (codes : List Nat) (zp : Nat) (esc : Bool) (whey : List Nat) : List (Int ⊕ Nat) :=
  match codes with
  | [] => []
  | c :: cs =>
    if esc && c == 15 then .inr (whey.headD 0) :: blockElems cs zp esc (whey.drop 1)
    else .inl ((c : Int) - zp) :: blockElems cs zp esc whey

/-- A weight column as the vat uses it: per block its scale and its elements. -/
abbrev Column := List (Nat × List (Int ⊕ Nat))

/-- R44, R46: the blocks of a tile, each taking its WHEY_N entries of the whey list in order. -/
def withWhey : List (Nat × List Nat) → List Nat → List (Nat × List (Int ⊕ Nat))
  | [], _ => []
  | b :: bs, whey =>
    (hSCALE b.1, blockElems b.2 (hZP b.1) (hESC b.1) (whey.take (hWHEY b.1))) :: withWhey bs (whey.drop (hWHEY b.1))

/-- R41, R44, R48, R50, R51: the output columns of a buffer loaded in an integer mode. -/
def intColumns (b : WBuf) : List Column :=
  if b.mode = 0 then chunks 2 512 (withWhey (q4Blocks b.tile) b.whey)
  else
    (List.range 256).map fun n =>
      let h := mnum b.tile (32768 + 4 * n) 4
      [(hSCALE h, (mread b.tile (128 * n) 128).map fun c => .inl ((c.toNat : Int) - (bits h 23 16 : Nat)))]

/-- R84: output column n of a BF16 buffer: 128 BF16 values. -/
def bf16Column (b : WBuf) (n : Nat) : List Nat := (List.range 128).map fun k => mnum b.tile (2 * (128 * n + k)) 2

/-- R41, R44: the operand of an element in the array; an escape is operand 0 (R67). -/
def arrayOperand : Int ⊕ Nat → Int
  | .inl x => x
  | .inr _ => 0

/-! ## The arithmetic of a pass -/

/-- R67: the exact block sum P_b of elements against activation operands. -/
def blockSum (es : List (Int ⊕ Nat)) (a : List Int) : Int := ((es.zip a).map fun p => arrayOperand p.1 * p.2).foldl (· + ·) 0

/-- R68, R69: the terms of one block in order: the block term, then the escape terms; none where a scale or whey value
is not finite and the manual states no term. -/
def blockTerms (scale sa : Nat) (g : Int) (es : List (Int ⊕ Nat)) (a : List Int) : List (Option Int) :=
  termOf (blockSum es a) (flOf16 scale) (flOf16 sa) g ::
    (es.zip a).filterMap fun p => match p.1 with
      | .inl _ => none
      | .inr w => some (termOf p.2 (flOf16 w) (flOf16 sa) g)

/-- R69: terms added in order with saturation; the value, the saturations counted, and the number of the next free
value for a term the manual does not state (notes/assumptions/3.md). -/
def addTerms : Int × Nat × Nat → List (Option Int) → Int × Nat × Nat
  | r, [] => r
  | (acc, sat, free), t :: ts =>
    let x := match t with
      | some x => x
      | none => int32 (Config.free free)
    let q := satAddInt32 acc x
    addTerms (q.1, if q.2 then sat + 1 else sat, match t with | some _ => free | none => free + 1) ts

/-- One accumulator row updated in an integer mode: the columns' new values, the saturations, the next free value. -/
def intRow (cols : List Column) (halves : Column → List (List Int)) (sa : Nat) (g : Int) (old : List Nat) (free : Nat) :
    List Nat × Nat × Nat :=
  (cols.zip old).foldl (fun (r : List Nat × Nat × Nat) p =>
    let ts := (p.1.zip (halves p.1)).flatMap fun q => blockTerms q.1.1 sa g q.1.2 q.2
    let x := addTerms (int32 p.2, r.2.1, r.2.2) ts
    (r.1 ++ [nat32 x.1], x.2.1, x.2.2)) ([], 0, free)

/-- R52: the activation operands of 128 code bytes. -/
def actOperands (bs : Bytes) : List Int := bs.map fun b => (b.toNat : Int) - 128

/-- R67, R71: the activation operands met by each block of a column. -/
def halvesOf (mode : Nat) (a : List Int) (_ : Column) : List (List Int) :=
  if mode = 0 then [a.take 64, a.drop 64] else [a]

/-- Adjacent pairs added with rounding to FP32. -/
def pairAdd : List Nat → List Nat
  | a :: b :: r => f32Add a b :: pairAdd r
  | r => r

/-- A binary tree of FP32 additions of `n` levels over adjacent values (R72, R179). -/
def treeAdd : Nat → List Nat → Nat
  | 0, xs => xs.headD 0
  | n + 1, xs => treeAdd n (pairAdd xs)

/-- R72: one accumulator row updated in BF16 mode. -/
def bf16Row (b : WBuf) (act : List Nat) (old : List Nat) : List Nat :=
  old.zipIdx.map fun p =>
    f32Add p.1 (treeAdd 7 (((bf16Column b p.2).zip act).map fun q => f32Mul (q.1 * 65536) (q.2 * 65536)))

/-- R116: the residue modulus. -/
def resMod : Nat := 65521

/-- An integer reduced modulo 65,521. -/
def modRes (x : Int) : Nat := (x % 65521).toNat

/-- R82: the output columns of slice i. -/
def sliceCols (mode i : Nat) : List Nat := (List.range (modeCols mode / 8)).map fun j => i * (modeCols mode / 8) + j

/-- R115: the residue weights W_k of a slice's columns. -/
def residueWeights (cols : List Column) : List Int :=
  (List.range 128).map fun k =>
    ((modRes ((cols.map fun c => arrayOperand (((c.flatMap (·.2))[k]?).getD (.inl 0))).foldl (· + ·) 0) : Nat) : Int)

/-- R116: the comparison of one row and slice, not yet made. -/
def residOf (mode row slice : Nat) (cols : List Column) (a : List Int) : Resid :=
  { row := row, slice := slice
    s := modRes ((cols.map fun c =>
      ((c.zip (halvesOf mode a c)).map fun q => blockSum q.1.2 q.2).foldl (· + ·) 0).foldl (· + ·) 0)
    c := modRes ((((residueWeights cols).zip a).map fun q => q.1 * q.2).foldl (· + ·) 0) }

/-! ## Executing a command -/

/-- A vat executes the command at the head of its queue. -/
def vatReady (s : State) (v : Nat) (w : BitVec 128) (op : Nat) : Bool :=
  computeOn s && v < 16 && (s.vat v).queue.head? == some w && (s.vat v).state == 5 && vOP w == op &&
    ((s.vat v).bound.any fun k => (runOf s k).any fun r => !r.atEnd)

/-- R111: the command taken from the queue, the queue filled from the task's list, and its MODE noted (R124), also that of
a command that then ends with an exception (DESIGN CHOICE, notes/assumptions/64.md). -/
def popCmd (s : State) (v : Nat) : State :=
  s.modVat v fun x =>
    let q := x.queue.drop 1
    { x with queue := q ++ x.feed.take (32 - q.length), feed := x.feed.drop (32 - q.length),
             mode := ((x.queue.head?).map vMODE).getD x.mode }

/-- R113: the bound task's remaining commands are discarded and the task ends with the code; its PC is 0, since no
turner instruction raised it (notes/assumptions/20.md). -/
def vatExc (s : State) (v : Nat) (k : TaskRef) (code : Nat) : State :=
  taskException (s.modVat v fun x => { x with queue := [], feed := [] }) k code 0

/-- R74, R75: saturations and a NaN counted on a vat and for the task that issued the work. -/
def vatSat (s : State) (v : Nat) (k : TaskRef) (sat : Nat) (nan : Bool) : State :=
  taskSat (s.modVat v fun x => { x with sat := satAdd32 x.sat sat, nan := x.nan || nan }) k sat nan

/-- R113 conditions 2 and 3: MODE 0b11, LOADW_T outside BF16, and a counter the task may not signal. -/
def vatCommon (s : State) (k : TaskRef) (w : BitVec 128) : Option Nat :=
  if (vOP w ≤ 4 && vMODE w == 3) || (vOP w == 2 && vMODE w != 2) then some xVAT_MODE
  else if vSIG w && !(allocated s k.g (vSYNC w) && maySignal s k (vSYNC w)) then some 0x17
  else none

/-- One vat command (R99, R112, R113): its own conditions and effect `f` come after the common conditions; a command
that ends with an exception does nothing else; one that completes signals its counter, and the turner of its task goes on
if it waits for it (R191). -/
def vatCommand (v : Nat) (w : BitVec 128) (op : Nat) (f : State → TaskRef → Except Nat State) (s : State) : State :=
  if !vatReady s v w op then s
  else
    match (s.vat v).bound with
    | none => s
    | some k =>
      let s := popCmd s v
      match vatCommon s k w with
      | some code => vatExc s v k code
      | none =>
        match f s k with
        | .error code => vatExc s v k code
        | .ok t => goOn (if vSIG w then settle (taskSignal t k (vSYNC w)) k.g else t) v

/-- Buffer `b` of a vat. -/
def Vat.buf (x : Vat) (b : Nat) : WBuf := if b = 0 then x.buf0 else x.buf1

/-- Buffer `b` of a vat set. -/
def Vat.setBuf (x : Vat) (b : Nat) (w : WBuf) : Vat := if b = 0 then { x with buf0 := w } else { x with buf1 := w }

/-- R85, R86, R101: the tile record at SRC and its whey entries, or the exception. DESIGN CHOICE (notes/assumptions/64.md):
where SRC cannot be read, E is not known, and VAT_ADDR comes before any judgement of WHEY; SRC and WHEY of a LOADW_T, for
which R102 states no alignment, are aligned as R101 has them for LOADW. -/
def readTile (s : State) (v : Nat) (k : TaskRef) (fmt src whey : Nat) : Except Nat (Memory × List Nat) :=
  let near := s.nearOf (clusterOfVat v)
  if !aligned src 64 then .error xVAT_ALIGN
  else
    match resolveAddr s v k true src (tileBytes fmt) with
    | none => .error xVAT_ADDR
    | some a =>
      let t := mslice near a (tileBytes fmt)
      if fmt != 0 then .ok (t, [])
      else
        let e := q4Escapes t
        let bad := !(q4Blocks t).all q4BlockOK
        if e = 0 then (if bad then .error xVAT_PARAM else .ok (t, []))
        else if !aligned whey 2 then .error xVAT_ALIGN
        else
          match resolveAddr s v k true whey (2 * e) with
          | none => .error xVAT_ADDR
          | some b => if bad then .error xVAT_PARAM
            else .ok (t, (List.range e).map fun i => mnum near (b + 2 * i) 2)

/-- R88: a move not yet complete that writes some of `len` bytes at `a` in the near store of cluster c. -/
def writesNear (s : State) (c a len : Nat) (m : Move) : Bool :=
  let n := (moveSpan m.req).2
  let base := if m.req.dstH = 0 then (if m.cluster == some c then some m.req.dstOff else none) else
    (objOf s m.req.dstH).bind fun e => if e.2.inNear c then some (e.2.nearOff c + m.req.dstOff) else none
  base.any fun b => b < a + len && a < b + n

/-- R88: the source tile of a LOADW or LOADW_T at the head of the queue is not yet completely written. -/
def tilePending (s : State) (v : Nat) (fmt src : Nat) : Bool :=
  (s.vat v).bound.any fun k => (resolveAddr s v k true src (tileBytes fmt)).any fun a =>
    s.obj.moves.any (writesNear s (clusterOfVat v) a (tileBytes fmt))

/-- R338: a prefetch that has not started goes to the engine of its stack with the fewest queued bytes, or, where each of
them holds more than 262,144, to that of the package; among equals it stays, else the choice is free. Which engine holds it
until then the manual leaves open. The engine that loses it counts it. -/
def regive (s : State) (m : Move) : State :=
  match m.cluster with
  | none => s
  | some c =>
    let own := (List.range 4).map fun i => 4 * (c / 2) + i
    let r := match m.given with
      | some g => (some g, s)
      | none => pickOf own s
    let s := ungive r.2 m
    let ok (e : Nat) : Bool := !s.isFenced siteDMA e && !m.bad.contains e
    let q (e : Nat) : Nat := ((s.dx[e]?).map (·.queued)).getD 0
    let mine := own.filter ok
    let es := if mine.all fun e => 262144 < q e then (List.range 16).filter ok else mine
    let least := es.filter fun e => es.all fun x => q e ≤ q x
    let p := if r.1.any least.contains then (r.1, s) else pickOf least s
    match r.1, p.1 with
    | some old, some e =>
      let t := p.2.modDx e fun x => { x with queued := x.queued + (moveSpan m.req).1 }
      let t := if e = old then t else t.modDx old fun x => { x with moved := satAdd32 x.moved 1 }
      { t with obj := { t.obj with moves := t.obj.moves.map fun x => if x.id = m.id ∧ x.engine.isNone then { x with given := some e } else x } }
    | _, _ => { s with obj := { s.obj with moves := s.obj.moves.map fun x => if x.id = m.id ∧ x.engine.isNone then { x with given := none } else x } }

/-- R338: a move that brings bytes into the near store of its cluster. -/
def isPrefetch (s : State) (m : Move) : Bool :=
  m.cluster.any fun c => m.req.dstH == 0 || (objOf s m.req.dstH).any fun e => e.2.inNear c

/-- R88, R338, R339: a weight load waits for its tile: where an engine is writing it, that engine counts the cycles of the
wait, a measured value and so a free one (notes/assumptions/12.md), and the task's prefetches that have not started are
given out anew. -/
def expanderStall (v fmt src : Nat) (s : State) : State :=
  match (s.vat v).bound with
  | none => s
  | some k =>
    let es := ((resolveAddr s v k true src (tileBytes fmt)).map fun a =>
      ((s.obj.moves.filter (writesNear s (clusterOfVat v) a (tileBytes fmt))).filterMap (·.engine)).eraseDups).getD []
    if es.isEmpty then s
    else
      let t := es.foldl (fun t e => advance (t.modDx e fun x => { x with stall := satAdd32 x.stall (drawn t) })) s
      (t.obj.moves.filter fun m => m.engine.isNone && ofTurner k m && isPrefetch t m).foldl regive t

/-- R119: a weight load whose tile has come finds its vat idle: the vat asks for its grant and runs the load once it has its
full width. -/
def loadExit (v : Nat) (w : BitVec 128) (op : Nat) (s : State) : State :=
  if computeOn s && v < 16 && (s.vat v).queue.head? == some w && vOP w == op then askGrant s v else s

/-- R85, R101: the effect of LOADW. -/
def loadw (v : Nat) (w : BitVec 128) (s : State) (k : TaskRef) : Except Nat State :=
  match readTile s v k (vMODE w) (vf w 63 32) (vf w 95 64) with
  | .error e => .error e
  | .ok t => .ok (s.modVat v fun x =>
      x.setBuf (vf w 24 24) { valid := true, mode := vMODE w, tile := t.1, whey := t.2 })

/-- R85: LOADW; it waits for its tile (R88), and for its vat's full width (R119). -/
def execLoadw (v : Nat) (w : BitVec 128) (s : State) : Out :=
  if tilePending s v (vMODE w) (vf w 63 32) then
    .next (if vatReady s v w 1 then expanderStall v (vMODE w) (vf w 63 32) s else s)
  else .next (if (s.vat v).state = 2 then loadExit v w 1 s else vatCommand v w 1 (loadw v w) s)

/-- R87: the value of element k of a column as BF16: exact, then rounded once; an escape is exact. -/
def columnTo16 (col : Column) : List Nat :=
  col.flatMap fun blk => blk.2.map fun e => match e with
    | .inl c => to16 ((flOf16 blk.1).mul (.fin (c < 0) c.natAbs 0))
    | .inr w => w

/-- R87: the mode in which the source record of a LOADW_T is read: SRCFMT 0 is BF16. -/
def tMode (w : BitVec 128) : Nat := if vf w 29 28 = 0 then 2 else vf w 29 28 - 1

/-- R87, R102: the effect of LOADW_T: a 128 × 128 region transposed into a BF16 buffer. -/
def loadwT (v : Nat) (w : BitVec 128) (s : State) (k : TaskRef) : Except Nat State :=
  let fmt := vf w 29 28
  let q := vf w 27 26
  if fmt = 3 ∨ (fmt = 2 ∧ 1 < q) then .error xVAT_PARAM
  else
    match readTile s v k (tMode w) (vf w 63 32) (vf w 95 64) with
    | .error e => .error e
    | .ok t =>
      let b : WBuf := { valid := true, mode := tMode w, tile := t.1, whey := t.2 }
      let cols := if fmt = 0 then (List.range 128).map (bf16Column b)
        else (((intColumns b).drop (128 * q)).take 128).map columnTo16
      let bytes := (List.range 128).flatMap fun k => cols.flatMap fun col => leBytes 2 (col.getD k 0)
      .ok (s.modVat v fun x => x.setBuf (vf w 24 24) { valid := true, mode := 2, tile := memOf bytes, whey := [] })

/-- R87: LOADW_T; it waits for its tile (R88), and for its vat's full width (R119). -/
def execLoadwT (v : Nat) (w : BitVec 128) (s : State) : Out :=
  if tilePending s v (tMode w) (vf w 63 32) then
    .next (if vatReady s v w 2 then expanderStall v (tMode w) (vf w 63 32) s else s)
  else .next (if (s.vat v).state = 2 then loadExit v w 2 s else vatCommand v w 2 (loadwT v w) s)

/-- R91: the tag of a mode. -/
def modeTag (mode : Nat) : Tag := if mode = 2 then .fp32 else .int32

/-- R91: the tags of entries set. -/
def setTags (tags : List Tag) (e n : Nat) (t : Tag) : List Tag :=
  tags.zipIdx.map fun p => if e ≤ p.2 ∧ p.2 < e + n then t else p.1

/-- What a pass leaves: the accumulator file, the saturations, the next free value, the comparisons. -/
structure Pass where
  /-- accumulator file -/
  acc : Tab Nat
  /-- saturations counted -/
  sat : Nat
  /-- next free value -/
  free : Nat
  /-- comparisons of R116 -/
  resid : List Resid
deriving DecidableEq, Repr, Inhabited

/-- R89: one activation row of a pass in an integer mode. -/
def passIntRow (mode : Nat) (cols : List Column) (entry sa : Nat) (g : Int) (a : List Int) (p : Pass) : Pass :=
  let r := intRow cols (halvesOf mode a) sa g (rowGet p.acc (512 * entry) (modeCols mode)) p.free
  { acc := rowPut p.acc (512 * entry) r.1, sat := p.sat + r.2.1, free := r.2.2
    resid := p.resid ++ (List.range 8).map fun i =>
      residOf mode entry i ((sliceCols mode i).map fun n => (cols[n]?).getD []) a }

/-- R89, R103: the effect of STREAM. VAT_PASSES, for whose 64 bits the manual states no end, stops at its greatest value
(DESIGN CHOICE, notes/assumptions/64.md). -/
def stream (v : Nat) (w : BitVec 128) (s : State) (k : TaskRef) : Except Nat State :=
  let mode := vMODE w
  let rows := vf w 30 25 + 1
  let acc := vf w 101 96
  let src := vf w 63 32
  let ssrc := vf w 95 64
  let stride := vf w 125 110
  let rl := if mode = 2 then 256 else 128
  let near := s.nearOf (clusterOfVat v)
  let x := s.vat v
  let b := x.buf (vf w 24 24)
  if 64 < acc + rows then .error xVAT_PARAM
  else if !aligned src rl then .error xVAT_ALIGN
  else
    match resolveAddr s v k true src ((rows - 1) * stride * 128 + rl),
        (if mode = 2 then some 0 else resolveAddr s v k true ssrc ((rows - 1) * stride * 2 + 2)) with
    | some a, some sa =>
      if !b.valid then .error xVAT_PARAM
      else if b.mode != mode ||
          ((x.tags.drop acc).take rows).any (fun t => t != .empty && t != modeTag mode) then .error xVAT_MODE
      else
        let p0 : Pass := { acc := x.acc, sat := 0, free := s.fresh, resid := [] }
        let p := if mode = 2 then
            (List.range rows).foldl (fun (p : Pass) j =>
              let act := (List.range 128).map fun i => mnum near (a + j * stride * 128 + 2 * i) 2
              let e := 512 * (acc + j)
              { p with acc := rowPut p.acc e (bf16Row b act (rowGet p.acc e 128)) }) p0
          else
            let cols := intColumns b
            (List.range rows).foldl (fun (p : Pass) j =>
              passIntRow mode cols (acc + j) (mnum near (sa + j * stride * 2) 2) (vsf w 109 103)
                (actOperands (mread near (a + j * stride * 128) 128)) p) p0
        let s := s.modVat v fun x => { x with
          acc := p.acc, tags := setTags x.tags acc rows (modeTag mode), resid := x.resid ++ p.resid,
          passes := satAdd64 x.passes 1 }
        .ok (vatSat { s with fresh := p.free } v k p.sat false)
    | _, _ => .error xVAT_ADDR

/-- R89: STREAM. -/
def execStream (v : Nat) (w : BitVec 128) (s : State) : Out := .next (vatCommand v w 3 (stream v w) s)

/-! ## DRAIN -/

/-- R73 step 1, R91, R104: the values of an accumulator entry as FP32. -/
def entryValues (x : Vat) (e cols : Nat) (g : Int) : List Nat :=
  let vs := rowGet x.acc (512 * e) cols
  match (x.tags[e]?).getD .empty with
  | .int32 => vs.map fun a => f32OfInt (int32 a) (-g)
  | .fp32 => vs
  | .empty => vs.map fun _ => 0

/-- Runs of at most 128. -/
def blocks128 (xs : List Nat) : List (List Nat) :=
  (List.range ((xs.length + 127) / 128)).map fun i => (xs.drop (128 * i)).take 128

/-- R97: a drain descriptor, addresses resolved. -/
structure DrainD where
  /-- DST -/
  dst : Nat
  /-- DSTRIDE -/
  dstride : Nat
  /-- SDST -/
  sdst : Nat
  /-- SSTRIDE -/
  sstride : Nat
  /-- BIAS, where used -/
  bias : Option Nat
  /-- RSCALE, where used -/
  rscale : Option Nat
  /-- FIXED_SCALE -/
  fixed : Nat
  /-- COLS -/
  cols : Nat
deriving DecidableEq, Repr, Inhabited

/-- R95: bytes per output element. -/
def outBytes (out : Nat) : Nat := if out = 0 then 4 else if out = 1 then 2 else 1

/-- One drained row: output bytes, scale or statistic bytes, saturations, NaN flag (R73, R95). -/
def drainRow (out rm : Nat) (stat : Bool) (fixed : Nat) (ys : List Nat) : Bytes × Bytes × Nat × Bool :=
  if out = 0 ∨ out = 1 then
    (ys.flatMap fun y => if out = 0 then le4 y else leBytes 2 (bf16Of32 y),
     if stat then (blocks128 ys).flatMap fun b => leBytes 2 (bf16Of32 (maxAbs b)) else [], 0, false)
  else
    let qs := (blocks128 ys).map fun b => if out = 2 then quantQ8 rm b else quantQ8With fixed rm b
    (qs.flatMap fun q => q.codes.flatMap fun c => leBytes 1 c, qs.flatMap fun q => leBytes 2 q.scale,
     total (qs.map (·.sat)), qs.any (·.nan))

/-- R97, R98, R104, R212: the descriptor of a DRAIN read and checked, or the exception. DESIGN CHOICE
(notes/assumptions/64.md): a descriptor that is misaligned or beyond the store gives VAT_ALIGN or VAT_ADDR, since its COLS
cannot be read and judged first. -/
def readDrain (s : State) (v : Nat) (k : TaskRef) (w : BitVec 128) : Except Nat DrainD :=
  let out := vf w 25 24
  let desc := vf w 63 32
  let rows := vf w 75 70 + 1
  let near := s.nearOf (clusterOfVat v)
  if 64 < vf w 69 64 + rows then .error xVAT_PARAM
  else if !aligned desc 32 then .error xVAT_ALIGN
  else
    match resolveAddr s v k true desc 32 with
    | none => .error xVAT_ADDR
    | some d =>
      let f (o : Nat) : Nat := mnum near (d + o) 4
      let cols := mnum near (d + 26) 2
      let rel := isRel desc
      let at_ (o len : Nat) : Option Nat := resolveAddr s v k rel (f o) len
      let useS := 2 ≤ out || vf w 30 30 == 1
      if cols = 0 ∨ modeCols (vMODE w) < cols ∨ (2 ≤ out ∧ cols % 128 ≠ 0) then .error xVAT_PARAM
      else
        match at_ 0 ((rows - 1) * f 4 + cols * outBytes out),
            (if useS then at_ 8 ((rows - 1) * f 12 + 2 * ((cols + 127) / 128)) else some 0),
            (if vf w 26 26 = 1 then (at_ 16 (4 * cols)).map some else some none),
            (if vf w 27 27 = 1 then (at_ 20 (4 * rows)).map some else some none) with
        | some dst, some sdst, some bias, some rs =>
          .ok { dst := dst, dstride := f 4, sdst := sdst, sstride := f 12, bias := bias, rscale := rs,
                fixed := mnum near (d + 24) 2, cols := cols }
        | _, _, _, _ => .error xVAT_ADDR

/-- R73 steps 2 and 3: row scale, then bias. -/
def scaleBias (near : Memory) (d : DrainD) (i : Nat) (vs : List Nat) : List Nat :=
  let vs := match d.rscale with
    | some a => vs.map fun y => f32Mul y (mnum near (a + 4 * i) 4)
    | none => vs
  match d.bias with
  | some a => vs.zipIdx.map fun p => f32Add p.1 (mnum near (a + 4 * p.2) 4)
  | none => vs

/-- R91, R94: entries set to 0 with an empty tag. -/
def clearEntries (x : Vat) (e n : Nat) : Vat :=
  { x with acc := rowPut x.acc (512 * e) (List.replicate (512 * n) 0), tags := setTags x.tags e n .empty }

/-- R94: the effect of DRAIN. -/
def drain (v : Nat) (w : BitVec 128) (s : State) (k : TaskRef) : Except Nat State :=
  let c := clusterOfVat v
  let out := vf w 25 24
  let rows := vf w 75 70 + 1
  let acc := vf w 69 64
  match readDrain s v k w with
  | .error e => .error e
  | .ok d =>
    let near := s.nearOf c
    let x := s.vat v
    let s := (List.range rows).foldl (fun (t : State) i =>
      let r := drainRow out (rmOf t k) (vf w 30 30 == 1) d.fixed
        (scaleBias near d i (entryValues x (acc + i) d.cols (vsf w 82 76)))
      vatSat ((t.nearWrite c (d.dst + i * d.dstride) r.1).nearWrite c (d.sdst + i * d.sstride) r.2.1) v k r.2.2.1 r.2.2.2) s
    .ok (if vf w 28 28 = 1 then s.modVat v fun x => clearEntries x acc rows else s)

/-- R94: DRAIN; while a residue comparison of an earlier pass into its entries is outstanding it waits (R92). -/
def execDrain (v : Nat) (w : BitVec 128) (s : State) : Out :=
  if (s.vat v).resid.any fun r => vf w 69 64 ≤ r.row && r.row < vf w 69 64 + vf w 75 70 + 1 then .next s
  else .next (vatCommand v w 4 (drain v w) s)

/-! ## CLEAR, SCAN, carry moves, CHECK -/

/-- R142: a group of the mask is held by a resident stream that the bound task does not name. R113 gives this VAT_PARAM no
place in its order. DESIGN CHOICE (notes/assumptions/64.md): CLEAR takes it with its field ranges; SCAN, CARRY_IN and
CARRY_OUT after VAT_ALIGN and VAT_ADDR, and SCAN before VAT_MODE. -/
def foreignGroup (s : State) (v : Nat) (k : TaskRef) (mask : Nat) : Bool :=
  (s.vat v).held.zipIdx.any fun e => bit mask e.2 && e.1.any fun i => !(streamIdxs s k).contains i

/-- R105: the effect of CLEAR; for the place of R142's VAT_PARAM see `foreignGroup`. -/
def clear (v : Nat) (w : BitVec 128) (s : State) (k : TaskRef) : Except Nat State :=
  let acc := vf w 37 32
  let rows := vf w 43 38 + 1
  let mask := vf w 31 24
  if 64 < acc + rows || foreignGroup s v k mask then .error xVAT_PARAM
  else .ok (s.modVat v fun x => { clearEntries x acc rows with carry := zeroGroups x.carry mask })

/-- R105: CLEAR. -/
def execClear (v : Nat) (w : BitVec 128) (s : State) : Out := .next (vatCommand v w 5 (clear v w) s)

/-- R133: a triple of a scan combiner. -/
structure Tri where
  /-- A -/
  a : Nat
  /-- B -/
  b : Nat
  /-- F -/
  f : Bool
deriving DecidableEq, Repr, Inhabited

/-- R133: one level of the combiner at distance d. -/
def scanLevel (d : Nat) (ts : List Tri) : List Tri :=
  ts.zipIdx.map fun p =>
    if d ≤ p.2 && !p.1.f then
      let q := (ts[p.2 - d]?).getD default
      { a := f32Mul p.1.a q.a, b := f32Add (f32Mul p.1.a q.b) p.1.b, f := q.f }
    else p.1

/-- R133, R134: the results of one column: coefficients, inputs, marks, carry. -/
def scanColumn (as bs : List Nat) (marks : Nat) (c : Nat) : List Nat :=
  let ts := (as.zip bs).zipIdx.map fun p => { a := p.1.1, b := p.1.2, f := bit marks p.2 : Tri }
  let r := [1, 2, 4, 8, 16, 32].foldl (fun t d => scanLevel d t) ts
  r.map fun t => if t.f then t.b else f32Add (f32Mul t.a c) t.b

/-- R38, R132: a subnormal treated as a zero of its sign. -/
def flush32 (x : Nat) : Nat := if bits x 30 23 = 0 then x / 2 ^ 31 * 2 ^ 31 else x

/-- R128: the coefficient of a selected column at a position; `j` is its place among the selected columns. -/
def scanCoef (near : Memory) (a : Nat) (exp wide : Bool) (m t j : Nat) : Nat :=
  let w := if wide then 4 else 2
  let x := mnum near (a + (if exp then t * 64 * m * w else 0) + j * w) w
  flush32 (if wide then x else x * 65536)

/-- R126-R135: the effect of SCAN; for the place of R142's VAT_PARAM see `foreignGroup`. -/
def scan (v : Nat) (w : BitVec 128) (s : State) (k : TaskRef) : Except Nat State :=
  let mask := vf w 116 109
  let len := vf w 101 96 + 1
  let aaddr := vf w 63 32
  let maddr := vf w 95 64
  let wide := vf w 26 26 == 1
  let exp := vf w 24 24 == 1
  let groups := maskBits 8 mask
  let m := groups.length
  let need := (if exp then len else 1) * 64 * m * (if wide then 4 else 2)
  let near := s.nearOf (clusterOfVat v)
  let x := s.vat v
  let fp := vf w 25 25 == 1
  if !aligned aaddr 64 || (maddr != max32 && !aligned maddr 8) then .error xVAT_ALIGN
  else
    match resolveAddr s v k true aaddr need,
        (if maddr = max32 then some none else (resolveAddr s v k true maddr (8 * m)).map some) with
    | some a, some ma =>
      if foreignGroup s v k mask then .error xVAT_PARAM
      else if (x.tags.take len).any fun t => t != .empty && t != (if fp then Tag.fp32 else .int32) then .error xVAT_MODE
      else
        let inputs := (List.range len).map fun t => entryValues x t 512 (vsf w 108 102)
        let column (n : Nat) : List Nat × Option Nat :=
          let bs := inputs.map fun r => flush32 ((r[n]?).getD 0)
          if bit mask (n / 64) then
            let gi := (groups.filter (· < n / 64)).length
            let as := (List.range len).map fun t => scanCoef near a exp wide m t (64 * gi + n % 64)
            let marks := match ma with
              | some p => mnum near (p + 8 * gi) 8
              | none => 0
            let hs := scanColumn as bs marks (flush32 (nget x.carry n))
            (hs, hs.getLast?)
          else (inputs.map fun r => (r[n]?).getD 0, none)
        let cols := (List.range 512).map column
        let acc := (List.range len).foldl (fun (t : Tab Nat) i =>
          rowPut t (512 * i) (cols.map fun c => (c.1[i]?).getD 0)) x.acc
        let carry := cols.zipIdx.foldl (fun (t : Tab Nat) c => match c.1.2 with
          | some h => nset t c.2 h
          | none => t) x.carry
        .ok (s.modVat v fun x => { x with acc := acc, tags := setTags x.tags 0 len .fp32, carry := carry })
    | _, _ => .error xVAT_ADDR

/-- R126: SCAN. -/
def execScan (v : Nat) (w : BitVec 128) (s : State) : Out := .next (vatCommand v w 6 (scan v w) s)

/-- R144: the stream of the bound task whose CARRY_IN this is: LOADING on this vat, with this mask. -/
def loadingStream (s : State) (v : Nat) (k : TaskRef) (mask : Nat) : Option Nat :=
  (streamIdxs s k).find? fun i => streamOf s i == (1, v) && (objAt s i).any fun o => o.gmask == mask

/-- R107, R144, R145, R151: the effect of CARRY_IN; for a stream the carry object becomes RESIDENT and its loaded state is
the shadow row's, and a swap request that found it LOADING is evaluated again. For the place of R142's VAT_PARAM see
`foreignGroup`. -/
def carryIn (v : Nat) (w : BitVec 128) (s : State) (k : TaskRef) : Except Nat State :=
  let mask := vf w 31 24
  let n := 256 * (maskBits 8 mask).length
  if !aligned (vf w 63 32) 256 then .error xVAT_ALIGN
  else
    match resolveAddr s v k true (vf w 63 32) n with
    | none => .error xVAT_ADDR
    | some a =>
      if foreignGroup s v k mask then .error xVAT_PARAM
      else
      let bs := mread (s.nearOf (clusterOfVat v)) a n
      let s := s.modVat v fun x => { x with carry := putGroups x.carry mask bs }
      .ok (match loadingStream s v k mask with
        | some i =>
          retrySwap (setStream (s.modVat v fun x => { hold x i mask with shadow := putGroups x.shadow mask bs }) i 2 v) v i
        | none => s)

/-- R107: CARRY_IN. -/
def execCarryIn (v : Nat) (w : BitVec 128) (s : State) : Out := .next (vatCommand v w 7 (carryIn v w) s)

/-- R107: the effect of CARRY_OUT; for the place of R142's VAT_PARAM see `foreignGroup`. -/
def carryOut (v : Nat) (w : BitVec 128) (s : State) (k : TaskRef) : Except Nat State :=
  let mask := vf w 31 24
  if !aligned (vf w 63 32) 256 then .error xVAT_ALIGN
  else
    match resolveAddr s v k true (vf w 63 32) (256 * (maskBits 8 mask).length) with
    | none => .error xVAT_ADDR
    | some a => if foreignGroup s v k mask then .error xVAT_PARAM else .ok (s.nearWrite (clusterOfVat v) a (groupBytes (s.vat v).carry mask))

/-- R107: CARRY_OUT. -/
def execCarryOut (v : Nat) (w : BitVec 128) (s : State) : Out := .next (vatCommand v w 8 (carryOut v w) s)

/-- R108, R109: the effect of CHECK. -/
def check (v : Nat) (w : BitVec 128) (s : State) (_ : TaskRef) : Except Nat State :=
  if vf w 24 24 = 1 then
    if s.testMode then .ok (s.modVat v fun x => { x with
      inject := if x.inject.contains (vf w 27 25) then x.inject else x.inject ++ [vf w 27 25] }) else .error xVAT_PARAM
  else .ok s

/-- R108: CHECK; it completes only when every residue comparison of the earlier commands has been made. -/
def execCheck (v : Nat) (w : BitVec 128) (s : State) : Out :=
  if (s.vat v).resid.isEmpty then .next (vatCommand v w 9 (check v w) s) else .next s

/-- R100: the OP codes that name no command. -/
def vatOpUnassigned (op : Nat) : Bool := op == 0 || 10 ≤ op

/-- R100, R113: a command with an unassigned OP ends the bound task with VAT_OP. -/
def execVatOpUnassigned (v : Nat) (w : BitVec 128) (s : State) : Out :=
  if vatOpUnassigned (vOP w) && vatReady s v w (vOP w) then
    match (s.vat v).bound with
    | some k => .next (vatExc (popCmd s v) v k xVAT_OP)
    | none => .next s
  else .next s

/-- R108, R116, R118: one comparison is made. `err` is what a hardware error adds to the block-sum residue: 0 in a
sound vat. An injected mismatch sets CHECK_SEEN; any other is a detected fault. -/
def residueComparison (v row slice err : Nat) (s : State) : State :=
  match (s.vat v).resid.find? fun r => r.row == row && r.slice == slice with
  | none => s
  | some r =>
    let s1 := s.modVat v fun x => { x with resid := x.resid.erase r }
    let inj := (s.vat v).inject.contains slice
    let s2 := if inj then s1.modVat v fun x => { x with inject := x.inject.erase slice } else s1
    let c := if inj then (r.c + 1) % resMod else r.c
    if (r.s + err) % resMod = c then goOn s2 v
    else if inj then
      match (s.vat v).bound with
      | some k => goOn (modRun s2 k fun q => { q with checkSeen := true }) v
      | none => s2
    else detectVat s2 v mechRESIDUE slice

/-- R116: RESIDUE_COMPARISON. -/
def execResidueComparison (v row slice err : Nat) (s : State) : Out := .next (residueComparison v row slice err s)

/-! ## Starting from idle (R119-R121) -/

/-- R88: the command at the head of a vat's queue is a weight load that waits for its tile. -/
def headWaits (s : State) (v : Nat) : Bool :=
  (s.vat v).queue.head?.any fun w =>
    (vOP w == 1 && tilePending s v (vMODE w) (vf w 63 32)) || (vOP w == 2 && tilePending s v (tMode w) (vf w 63 32))

/-- R119: a running vat that has executed no command for 256 cycles becomes idle: it has none, or its next one waits. -/
def execVatIdleEntry (v : Nat) (s : State) : Out :=
  if computeOn s && (s.vat v).state == 5 && ((s.vat v).queue.isEmpty || headWaits s v) then
    .next (s.modVat v fun x => { x with state := 2 })
  else .next s

/-- R120, R121, R124: the governor grants the idle exit that was asked for first. An exit that had to wait is counted for
the vat, and its cycles, which are measured, for the bound task (notes/assumptions/12.md). -/
def execCurrentStepGrant (v : Nat) (s : State) : Out :=
  if computeOn s && (grantOrder s).head? == some v then
    let late := (s.vat v).late
    let s := s.modVat v fun x => { x with
      state := 3, late := false, idleExits := satAdd32 x.idleExits 1, grantWait := satAdd32 x.grantWait (b2n late) }
    let s := if late then
        match (s.vat v).bound with
        | some k => advance (modRun s k fun r => { r with csWait := satAdd32 r.csWait (drawn s % 2 ^ 32) })
        | none => s
      else s
    .next (grantsLeft s)
  else .next s

/-- R119: the stagger completes and the first command may run. -/
def execVatFullWidth (v : Nat) (s : State) : Out :=
  if computeOn s && (s.vat v).state == 3 then .next (s.modVat v fun x => { x with state := 5 }) else .next s

/-! ## Stream swaps (R144-R148) -/

/-- R144, R154: the CARRY_OUT of a swap completes: the carry row's groups are written and the object is STORED. -/
def execSwapOutComplete (v handle : Nat) (s : State) : Out :=
  match objOf s handle with
  | some (i, _) =>
    if (streamOf s i).2 == v && 3 ≤ (streamOf s i).1 then
      .next (swapOutFrom s v i (s.vat v).carry ((streamOf s i).1 == 4))
    else .next s
  | none => .next s

/-- R147: the chunk behind which a stream's swap is deferred has completed. -/
def deferredDue (s : State) (i : Nat) : Bool :=
  s.gra.deferred.any fun e => e.1 == i && (runOf s e.2).all fun r => r.st.status.isSome

/-- R147: a swap deferred behind a queued chunk is performed when that chunk has completed: CARRY_OUT is issued. -/
def execDeferredSwap (v handle : Nat) (s : State) : Out :=
  match objOf s handle with
  | some (i, _) =>
    if streamOf s i == (2, v) && deferredDue s i && !chunkRuns s v i then
      .next { setStream s i 3 v with gra := { (setStream s i 3 v).gra with deferred := s.gra.deferred.filter (·.1 != i) } }
    else .next s
  | none => .next s

end Sys2Proof.Machine
end

