-- ==== Sys2Proof/Machine/Sched.lean ====
section
/-! DEFINITION. Binding units to tasks (chapters 03 to 06): kernels, the choice of a vat for a task's streams, what a vat
and a turner do when a task starts on them. -/

namespace Sys2Proof.Machine

open Sys2Proof

/-- R198: the placed kernel that a TURNER task names. -/
def kernelOf (s : State) (k : TaskRef) : Option Kernel :=
  match descOf s k, instOf s k.g with
  | some d, some x => if d.kind = 0 then s.obj.kernels.find? fun n => n.handle == resolve x d.kernel else none
  | _, _ => none

/-- R208 FLAGS.VAT: the task requests a vat binding. -/
def Desc.vatBit (d : Desc) : Bool := bit d.flags 1

/-- The unit code that `Run.bad` holds. -/
def unitCode (site unit : Nat) : Nat := site * 256 + unit

/-- R222: an attempt of the task was detected faulty on a unit. -/
def isBad (s : State) (k : TaskRef) (site unit : Nat) : Bool := (runOf s k).any fun r => r.bad.contains (unitCode site unit)

/-- R604: a reset of the cluster is pending. -/
def resetting (s : State) (c : Nat) : Bool := s.pkg.clReset.any fun e => e.1 == c

/-- A vat that may take a task: on, unbound, neither fenced nor recovering nor about to be fenced (R110, R217, R546, R604,
R605). -/
def vatFree (s : State) (v : Nat) : Bool :=
  let x := s.vat v
  v < 16 && !resetting s (clusterOfVat v) && !(s.pkg.vatCmds.any fun e => e.1 && e.2.1 == v) && x.bound.isNone && 2 ≤ x.state && x.state ≤ 5 && !s.isFenced siteVAT v && !s.isRecovering siteVAT v

/-- A turner that may take a task (R217, R546, R604). -/
def trnFree (s : State) (t : Nat) : Bool :=
  let x := s.trn t
  t < 64 && !resetting s (clusterOfTrn t) && x.bound.isNone && x.state == 2 && !s.isFenced siteTURNER t && !s.isRecovering siteTURNER t && !x.halted

/-- R140: the column groups of a vat held by resident streams. -/
def heldCount (x : Vat) : Nat := (x.held.filter (·.isSome)).length

/-- R145: no group of a mask is held. -/
def groupsFree (x : Vat) (mask : Nat) : Bool := (maskBits 8 mask).all fun g => (x.held.getD g none).isNone

/-- R145: whether a task's streams let it bind to vat `v`: each RESIDENT stream is on `v`, each STORED one finds its
groups free there; none is LOADING or SWAPPING. While a swap is deferred, only the chunk it waits for binds (R147); while a
forced one waits, none does (R148). -/
def streamsFit (s : State) (k : TaskRef) (v : Nat) : Bool :=
  (streamIdxs s k).all fun i =>
    match streamOf s i with
    | (0, _) => (objAt s i).any fun o => groupsFree (s.vat v) o.gmask
    | (2, w) => w == v && !s.gra.forced.contains i && s.gra.deferred.all fun e => e.1 != i || e.2 == k
    | _ => false

/-- R110, R145, R217: the vats of a cluster to which a task may bind. -/
def vatChoices (s : State) (k : TaskRef) (c : Nat) : List Nat :=
  [2 * c, 2 * c + 1].filter fun v => vatFree s v && streamsFit s k v && !isBad s k siteVAT v

/-- R145, R217: the vat of a cluster that a task binds: a task that names a stream takes the vat with the fewest groups
held, then the lower number; for any other task the manual names none, a free choice. -/
def chooseVat (s : State) (k : TaskRef) (c : Nat) : Option Nat × State :=
  let vs := vatChoices s k c
  if (streamIdxs s k).isEmpty then pickOf vs s
  else (argMin (fun v => heldCount (s.vat v)) vs, s)

/-- R96: the RM bit of a DRAIN replaced by the task's rounding mode. -/
def withRM (rm : Nat) (w : BitVec 128) : BitVec 128 :=
  if vOP w = 4 then BitVec.ofNat 128 (w.toNat - 2 ^ 29 * vf w 29 29 + 2 ^ 29 * rm) else w

/-- R107, R143, R144: the CARRY_IN that the graph engine inserts for a carry object in a cluster. -/
def carryInCmd (o : Obj) (c : Nat) : BitVec 128 := BitVec.ofNat 128 (7 + o.gmask * 2 ^ 24 + o.nearOff c * 2 ^ 32)

/-- R209: the commands of a VAT task's command list, in main store. -/
def taskCommands (s : State) (k : TaskRef) : List (BitVec 128) :=
  match commandList s k with
  | some (_, o) => (List.range (o.size / 16)).map fun i => BitVec.ofNat 128 (mnum s.main (o.devBase + 16 * i) 16)
  | none => []

/-- R144: the carry objects of a task's STORED streams become LOADING on a vat; the CARRY_IN commands for them. -/
def loadStreams (s : State) (k : TaskRef) (v : Nat) : State × List (BitVec 128) :=
  (streamIdxs s k).foldl (fun (r : State × List (BitVec 128)) i =>
    match objAt s i with
    | some o => if (streamOf s i).1 = 0 then (setStream r.1 i 1 v, r.2 ++ [carryInCmd o (clusterOfVat v)]) else r
    | none => r) (s, [])

/-- R93, R141, R151: a vat bound to a task: accumulators empty, buffers invalid, every group that no resident stream
holds zeroed, the carries of the task's resident streams copied to the shadow row; a CARRY_IN for each STORED stream
stands at the head of the commands. -/
def bindVat (s : State) (v : Nat) (k : TaskRef) (t : Option Nat) (cmds : List (BitVec 128)) : State :=
  let r := loadStreams s k v
  let mine := streamIdxs s k
  let all := r.2 ++ cmds.map (withRM (rmOf s k))
  askGrant (r.1.modVat v fun x =>
    let keep := maskOf 8 fun g => (x.held.getD g none).isSome
    let own := maskOf 8 fun g => (x.held.getD g none).any fun i => mine.contains i
    { x with
      acc := [], tags := List.replicate 64 .empty, buf0 := { x.buf0 with valid := false },
      buf1 := { x.buf1 with valid := false }, carry := x.carry.filter fun e => bit keep (e.1 / 64),
      shadow := x.carry.filter fun e => bit own (e.1 / 64),
      queue := all.take 32, feed := all.drop 32, resid := [], inject := [], bound := some k, byTurner := t, sat := 0, nan := false }) v

/-- R157: a turner takes a task: registers, top-k buffer and, for another collection or after OFF, scratch cleared. -/
def Turner.begin (x : Turner) (k : TaskRef) (coll : Nat) (pc : Word) (vat : Option Nat) : Turner :=
  { x with
    sreg := List.replicate 32 0, vreg := List.replicate 32 0, preg := List.replicate 8 0, pc := pc,
    scratch := if x.lastColl = some coll ∧ ¬x.wasOff then x.scratch else [],
    topk := none, state := 3, bound := some k, vat := vat, wait := .none, wasOff := false, sat := 0, nan := false }

/-- R228, R226: an attempt of a task begins on a unit. -/
def beginAttempt (s : State) (k : TaskRef) (unit : Nat) : State :=
  modRun s k fun r => { r with
    st := .running, unit := unit, attempts := r.attempts + 1, sat := 0, nan := false, sigNow := [], moves := 0,
    exc := 0, pc := 0, overB := false, checkSeen := false, csWait := 0, userCode := 0, atEnd := false }

/-- R217: a turner starts a TURNER task, with the vat it binds. -/
def startOnTurner (s : State) (t : Nat) (k : TaskRef) (n : Kernel) (vat : Option Nat) : State :=
  let s := beginAttempt s k t
  let s := s.modTrn t fun x => x.begin k (collOf s k) (BitVec.ofNat 32 n.entry) vat
  match vat with
  | some v => bindVat s v k (some t) []
  | none => s

/-- R110, R217: the graph engine binds a vat to a VAT task and feeds its command list. -/
def startOnVat (s : State) (v : Nat) (k : TaskRef) : State :=
  bindVat (beginAttempt s k v) v k none (taskCommands s k)

end Sys2Proof.Machine
end

