-- ==== Sys2Proof/Machine/MoveOps.lean ====
section
/-! DEFINITION. Moves (R188, R189, R272, R273, R323-R327, R350-R353, R456): the checks at issue, the sparse-pack codec, and
the transfer of the data. -/

namespace Sys2Proof.Machine

open Sys2Proof

/-- R188: a move request read from its 32 bytes. -/
def moveReqOf (bs : Bytes) : MoveReq :=
  { srcH := bnum bs 0 4, dstH := bnum bs 4 4, srcOff := bnum bs 8 8, dstOff := bnum bs 16 8, len := bnum bs 24 4,
    xf := bnum bs 28 1, flags := bnum bs 29 1, sync := bnum bs 30 2 }

/-- R210, R456: a remote handle. -/
def isRemote (h : Nat) : Bool := 0xC0000000 ≤ h && h < 0xC0000000 + 24 * 256

/-! ## Sparse pack (R323-R327) -/

/-- R324: one packed block of 128 bytes. -/
def packBlock (b : Bytes) : Bytes :=
  ((List.range 16).map fun i =>
    BitVec.ofNat 8 (maskOf 8 fun j => ((b.drop (8 * i + j)).head?.map (· != 0x80)).getD false)) ++ b.filter (· != 0x80)

/-- R324: a packed frame. -/
def packFrame (b : Bytes) : Bytes := (chunks 128 ((b.length + 127) / 128) b).flatMap packBlock

/-- R325: the largest packed form of a frame of `u` bytes: ⌊u ÷ 1.1⌋. -/
def packLimit (u : Nat) : Nat := 10 * u / 11

/-- R325, R326: the table entry and the slot bytes of a frame. -/
def codeFrame (b : Bytes) : Nat × Bytes :=
  let p := packFrame b
  if packLimit b.length < p.length then (0, b) else (p.length, p)

/-- R326, R327: the pieces of a coded region: offset and bytes; the rest is not written. -/
def codedPieces (bs : Bytes) : List (Nat × Bytes) :=
  let fs := (chunks 4096 (frameCount bs.length) bs).map codeFrame
  let t := tableBytes bs.length
  let table := fs.flatMap fun f => leBytes 2 f.1
  (0, table ++ zeros (t - table.length)) :: fs.zipIdx.map fun e => (t + 4096 * e.2, e.1.2)

/-- R327: one block decoded from packed bytes as far as they go; the decoded bytes and what is left. -/
def unpackBlock (p : Bytes) : Bytes × Bytes :=
  let bm := p.take 16
  (List.range 128).foldl (fun (r : Bytes × Bytes) i =>
    if bit ((bm.getD (i / 8) 0).toNat) (i % 8) then
      match r.2 with
      | b :: rest => (r.1 ++ [b], rest)
      | [] => (r.1 ++ [0x80], [])
    else (r.1 ++ [0x80], r.2)) ([], p.drop 16)

/-- R327: `n` blocks decoded. -/
def unpackBlocks : Nat → Bytes → Bytes
  | 0, _ => []
  | n + 1, p => (unpackBlock p).1 ++ unpackBlocks n (unpackBlock p).2

/-- R326, R327: the uncompressed bytes of a coded region of U bytes. -/
def unpackRegion (u : Nat) (bs : Bytes) : Bytes :=
  let t := tableBytes u
  (List.range (frameCount u)).flatMap fun f =>
    let n := min 4096 (u - 4096 * f)
    let e := bnum bs (2 * f) 2
    let slot := (bs.drop (t + 4096 * f)).take n
    if e = 0 then slot else unpackBlocks (n / 128) (slot.take e)

/-! ## Checks at issue (R189) -/

/-- R189, R350, R456: whether one end of a move is legal: `dst` for the destination; `fromTurner` where handle 0 names
the cluster's near store; `remoteOK` where a remote handle may stand. -/
def endOK (s : State) (k : TaskRef) (dst fromTurner remoteOK : Bool) (h off n xf : Nat) : Bool :=
  if h = 0 then fromTurner && off + n ≤ nearSize
  else if isView h then xf == 0 && (operandHandles s k).contains h
  else if isRemote h then dst && remoteOK && xf ≤ 1
  else
    match objOf s h with
    | some (_, o) => (operandHandles s k).contains h && off + n ≤ o.size && (!dst || o.rw)
    | none => false

/-- R327: the alignment of coded and uncompressed offsets. -/
def xfAligned (q : MoveReq) : Bool :=
  if q.xf = 0 then true
  else q.len % 128 == 0 && (if q.xf = 1 then q.srcOff % 128 == 0 && (q.dstOff % 64 == 0) else
    q.srcOff % 64 == 0 && q.dstOff % 128 == 0)

/-- R265, R266: a move request names an object that is being freed or closed. -/
def namesGone (s : State) (q : MoveReq) : Bool :=
  [q.srcH, q.dstH].any fun h => (objOf s h).any fun p => p.2.freeing || p.2.closing

/-- R189, R224, R265: the exception with which a move request ends at issue, or none. Where OBJ_GONE stands among the
others the manual leaves open (notes/assumptions/50.md). -/
def checkMove (s : State) (k : TaskRef) (fromTurner : Bool) (q : MoveReq) : Option Nat :=
  let sp := moveSpan q
  let group := (graphOf s k.g).any (·.group)
  if 2 < q.xf || q.flags / 2 != 0 || q.sync / 4096 != 0 || q.len == 0 || 16777216 < q.len || !xfAligned q ||
      !endOK s k false fromTurner false q.srcH q.srcOff sp.1 q.xf ||
      !endOK s k true fromTurner group q.dstH q.dstOff sp.2 q.xf then some xTRN_DMA
  else if namesGone s q then some xOBJ_GONE
  else if bit q.flags 0 && !(allocated s k.g q.sync && maySignal s k q.sync) then some xTRN_SYNC
  else none

/-- R188, R259: a move issued: entered as outstanding, with its pins unless they must wait. -/
def issueMove (s : State) (k : TaskRef) (by_ : MoveBy) (cluster : Option Nat) (pc : Nat) (q : MoveReq) : State :=
  let can := canPin s (moveObjs s q)
  let m : Move := { id := s.obj.nextMove, req := q, by_ := by_, cluster := cluster, coll := collOf s k, rm := rmOf s k,
                    engine := none, given := none, waiting := false, pinWait := !can, bad := [], remote := false, pc := pc }
  let s := if can then pin s (moveObjs s q) else s
  let s := { s with obj := { s.obj with moves := s.obj.moves ++ [m], nextMove := s.obj.nextMove + 1 } }
  modRun s k fun r => { r with moves := r.moves + 1 }

/-! ## Transfer -/

/-- What a failed transfer leaves: an R262 result, or a cause of KVE_LAST_FAIL. -/
inductive MoveFail where
  /-- R273, R262 -/
  | mig (r : Nat)
  /-- R351 -/
  | view (c : Nat)
deriving DecidableEq, Repr, Inhabited

/-- R272, R352: the source bytes of a move, with the state after the read. -/
def moveSource (s : State) (m : Move) : Except MoveFail (Bytes × State) :=
  let q := m.req
  let n := (moveSpan q).1
  if q.srcH = 0 then .ok (mread (s.nearOf (m.cluster.getD 0)) q.srcOff n, s)
  else if isView q.srcH then
    match viewRead s (q.srcH % 4) m.coll q.srcOff n with
    | .ok (bs, denied) =>
      .ok (bs, if denied then { s with kve := { s.kve with viewDenied := satAdd32 s.kve.viewDenied 1 } } else s)
    | .error c => .error (.view c)
  else
    match objOf s q.srcH with
    | some (_, o) =>
      match if o.lost then none else objRead s o q.srcOff n with
      | some bs => .ok (bs, s)
      | none => .error (.mig mrFAILED_DAMAGED)
    | none => .error (.mig mrCANCELLED_FREED)

/-- R189, R327: the pieces a move writes, as offsets from DST_OFF. -/
def movePieces (q : MoveReq) (bs : Bytes) : List (Nat × Bytes) :=
  if q.xf = 1 then codedPieces bs else if q.xf = 2 then [(0, unpackRegion q.len bs)] else [(0, bs)]

/-- R272, R353: the pieces written to a local destination. -/
def moveDest (s : State) (m : Move) (ps : List (Nat × Bytes)) : Except MoveFail State :=
  let q := m.req
  if q.dstH = 0 then
    .ok (ps.foldl (fun t p => t.nearWrite (m.cluster.getD 0) (q.dstOff + p.1) p.2) s)
  else if isView q.dstH then
    match viewAppend s (q.dstH % 4) m.coll m.rm q.dstOff (ps.flatMap (·.2)) with
    | .ok (t, sat, nan) => .ok (taskSat t m.ref sat nan)
    | .error c => .error (.view c)
  else
    match objOf s q.dstH with
    | some (i, _) => .ok (ps.foldl (fun t p => objWrite t i (q.dstOff + p.1) p.2) s)
    | none => .error (.mig mrCANCELLED_FREED)

/-- R544: a move taken off the engine on which its run failed, to be run again on another. -/
def pullMove (s : State) (m : Move) (e : Nat) : State :=
  let ms := s.obj.moves.map fun (x : Move) =>
    if x.id = m.id then { x with engine := none, remote := false, bad := x.bad ++ [e] } else x
  let s := { s with obj := { s.obj with moves := ms } }
  leaveDx s e (moveSpan m.req).1

/-- R161, R191, R218, R272: a move completes: its counter is signalled, a seventeenth one ends the task with TRN_SYNC; its
issuer goes on. -/
def moveDone (s : State) (m : Move) : State :=
  let s := dropMove s m
  let s := if !bit m.req.flags 0 then s
    else if maySignal s m.ref m.req.sync then settle (taskSignal s m.ref m.req.sync) m.ref.g
    else taskException s m.ref xTRN_SYNC m.pc
  match m.by_ with
  | .task k => modRun s k fun r => { r with atEnd := true }
  | .turner t _ => trnProceed s t

/-- R273, R351: a move fails after issue: the cause is recorded and its task ends EXCEPTION with TRN_MOVE. -/
def moveFailed (s : State) (m : Move) (f : MoveFail) : State :=
  let s := dropMove s m
  let s := match f with
    | .mig r => { s with obj := { s.obj with lastFail := r } }
    | .view c => { s with kve := { s.kve with lastFail := c } }
  taskException s m.ref xTRN_MOVE m.pc

/-- R325: the frames of a coded region stored raw. -/
def rawFrameCount (ps : List (Nat × Bytes)) (n : Nat) : Nat :=
  match ps with
  | (_, table) :: _ => ((List.range (frameCount n)).filter fun f => bnum table (2 * f) 2 == 0).length
  | [] => 0

/-- R339: what an engine counts of a move: bytes read, bytes written, frames stored raw. -/
def countDx (s : State) (m : Move) (bs : Bytes) (ps : List (Nat × Bytes)) : State :=
  match m.engine with
  | some e => s.modDx e fun x => { x with
      bytesIn := satAdd64 x.bytesIn bs.length, bytesOut := satAdd64 x.bytesOut (total (ps.map (·.2.length))),
      rawFrames := if m.req.xf = 1 then satAdd32 x.rawFrames (rawFrameCount ps bs.length) else x.rawFrames }
  | none => s

/-- R272: bytes written to the local destination of a move, and the move completed or failed. -/
def deliverMove (s : State) (m : Move) (bs : Bytes) : State :=
  let ps := movePieces m.req bs
  match moveDest s m ps with
  | .error f => moveFailed s m f
  | .ok t => moveDone (countDx t m bs ps) m

/-- R272: the data of a move transferred within the package, and the move completed or failed. -/
def transfer (s : State) (m : Move) : State :=
  match moveSource s m with
  | .error f => moveFailed s m f
  | .ok (bs, s) => deliverMove s m bs

end Sys2Proof.Machine
end

