-- ==== Sys2Proof/Machine/CaveOps.lean ====
section
/-! DEFINITION. The cave's pages and the peer copies of damaged wheels (R284, R290, R312), which promotions and the
cave's own commands share. -/

namespace Sys2Proof.Machine

open Sys2Proof

/-- A block: (block set, channel). -/
abbrev Block := Nat × Nat

/-- A page: (block set, stripe, channel). -/
abbrev CPage := Nat × Nat × Nat

/-- R284: the data offset of a page within its block set; none for the parity page. -/
def pageOff (p : CPage) : Option Nat :=
  let j := (p.2.2 + 64 - p.2.1 % 32 - 1) % 32
  if j = 31 then none else some (16384 * (31 * p.2.1 + j))

/-- R284: the data bytes of a block set. -/
def setBytes : Nat := 31 * 16384 * 1024

/-- R284, R289: the data offset of a page within a region; none where the region does not hold its set, or for parity. -/
def regionOff (r : Region) (p : CPage) : Option Nat :=
  match r.sets.findIdx? (· == p.1), pageOff p with
  | some i, some o => some (setBytes * i + o)
  | _, _ => none

/-- R290: the wheels of a directory entry, each with its number in the entry, offset and length. -/
def entryIndex (r : Region) (entry : Nat) : List (Nat × Nat × Nat) :=
  match r.dir[entry]? with
  | some d => ((r.wheels.drop d.1).take d.2.1).zipIdx.map fun w => (w.2, w.1.1, w.1.2)
  | none => []

/-- R312: a wheel touches a page. -/
def touches (r : Region) (w : Nat × Nat × Nat) (p : CPage) : Bool :=
  (regionOff r p).any fun o => w.2.1 < o + 16384 && o < w.2.1 + w.2.2

/-- R312: the numbers of an object's wheels that touch a damaged page. -/
def damagedWheels (s : State) (o : Obj) : List Nat :=
  match tget s.cave.regions o.homeref with
  | some r => ((entryIndex r o.dirEntry).filter fun w => s.cave.bad.any fun p => touches r w p).map (·.1)
  | none => []

/-- R312: damaged wheels for which no peer copy has come. -/
def missingWheels (s : State) (i : Nat) (o : Obj) : List Nat :=
  (damagedWheels s o).filter fun k => !s.cave.peerGot.any fun g => g.1 == i && g.2.1 == k

/-- R407: OBJ_ID of the first wheel of an object in the cave. -/
def caveObjId (s : State) (o : Obj) : Nat :=
  match tget s.cave.regions o.homeref with
  | some r => ((entryIndex r o.dirEntry).head?.map fun w => mnum r.data (w.2.1 + 16) 4).getD 0
  | none => 0

/-- R33: an object is being broadcast by another member; its wheels in this package's cave are not read. -/
def broadcasting (s : State) (objId : Nat) : Bool := s.wgt.mans.any fun e => e.2.objId == objId && e.2.reader != fabId s

/-- R33: the wheels of an object in the cave may be read. -/
def caveReadable (s : State) (o : Obj) : Bool := !broadcasting s (caveObjId s o)

/-- R312, R453: the members of the groups of this package that can be asked, in ascending order. The manual does not say
which group an object belongs to (notes/assumptions/23.md). -/
def peersOf (s : State) : List Nat :=
  (List.range 24).filter fun m => m != fabId s && !s.fab.lost.contains m &&
    (List.range 8).any fun g => groupValid s g && bit (groupMask s g) m && bit (groupMask s g) (fabId s)

/-- R312: the next member asked for a copy of the damaged wheels of an object; none where three have been asked or no
further one is there. -/
def askPeer (s : State) (i : Nat) (o : Obj) : Option State :=
  let asked := ((s.cave.peerWait.find? (·.1 == i)).map (·.2)).getD []
  if 3 ≤ asked.length then none
  else
    match (peersOf s).find? fun m => !asked.contains m with
    | none => none
    | some m =>
      let ks := missingWheels s i o
      let first := (argMin id ks).getD 0
      let last := ks.foldl max first
      let s := sendCtl m 0x08 0xFF [caveObjId s o, first, last + 1 - first] s
      some { s with cave := { s.cave with
        peerWait := (s.cave.peerWait.filter (·.1 != i)) ++ [(i, asked ++ [m])] } }

/-! ## Geometry (R282, R283, R286) -/

/-- R282: dies of a channel. -/
def Part.dies (p : Part) : Nat := if p.code = 0 then 2 else 4

/-- R282: planes of a die. -/
def diePlanes : Nat := 4

/-- R282: blocks of a channel. -/
def Part.blocks (p : Part) : Nat := if p.code = 0 then 512 else 1024

/-- R283: spare blocks of a channel as made. -/
def Part.spares (p : Part) : Nat := if p.code = 0 then 16 else 32

/-- R283, R286: region blocks of a channel as made, after the six of the boot region: 490 or 986. -/
def Part.regionBlocks (p : Part) : Nat := p.blocks - 6 - p.spares

/-- R282, R283: pages of a block: the boot region is run in pSLC mode. -/
def blockPages (blk : Nat) : Nat := if blk < 6 then 256 else 1024

/-- R283: on channel `ch` of a part as made, the factory-marked bad blocks other than spares, and the good spares. -/
def Part.channel (p : Part) (ch : Nat) : List Nat × List Nat :=
  let bad (b : Nat) : Bool := p.badBlocks.contains (ch, b)
  ((List.range (p.blocks - p.spares)).filter bad, ((List.range p.spares).map (p.blocks - p.spares + ·)).filter fun b => !bad b)

/-- R283: the cave of a part as made: its bad blocks are replaced from the spares first; `Cave.reset` is that of
`Part.reset`. -/
def Cave.factory (p : Part) : Cave :=
  let chans := (List.range 32).map fun ch => (ch, p.channel ch)
  { Cave.reset with
    spares := chans.map fun e => e.2.2.drop e.2.1.length
    retired := (List.range 32).map fun ch => (p.badBlocks.filter (·.1 == ch)).map (·.2)
    map := (chans.flatMap fun e => (e.2.1.zip e.2.2).map fun b => (32 * (b.1 - 6) + e.1, b)).foldl (fun t e =>
      if e.2.1 < 6 then t else tset t e.1 e.2.2) []
    dead := chans.flatMap fun e => ((e.2.1.drop e.2.2.length).filter (6 ≤ ·)).map fun b => (b - 6, e.1) }

/-- R286 CAVE_SETS_TOTAL: the smallest count of good region blocks on any channel. -/
def caveSets (s : State) : Nat :=
  s.part.regionBlocks - ((List.range 32).map fun ch => (s.cave.dead.filter (·.2 == ch)).length).foldl max 0

/-! ## Blocks, budgets and spares -/

/-- The cave changed. -/
def modCave (s : State) (f : Cave → Cave) : State := { s with cave := f s.cave }

/-- The region that holds a block set. -/
def regionOfSet (s : State) (set : Nat) : Option (Nat × Region) := s.cave.regions.find? fun e => e.2.sets.contains set

/-- `s` with a region changed. -/
def modRegion (s : State) (n : Nat) (f : Region → Region) : State :=
  modCave s fun c => { c with regions := tmod c.regions n f }

/-- R284, R298: the block of a place. -/
def Cave.blockAt (c : Cave) (b : Block) : Nat := tgetD c.map (32 * b.1 + b.2) (6 + b.1)

/-- The key of a block's counters. -/
def keyOf (blk ch : Nat) : Nat := 32 * blk + ch

/-- The key of the counters of the block at a place. -/
def blockKey (c : Cave) (b : Block) : Nat := keyOf (c.blockAt b) b.2

/-- R301: whether reads of a block reach `pct` per cent of CAVE_RD_LIMIT. -/
def budgetAt (s : State) (reads pct : Nat) : Bool := pct * s.part.rdLimit ≤ 100 * reads

/-- R300: the read counter of a block. -/
def blockReads (c : Cave) (b : Block) : Nat := tgetD c.reads (blockKey c b) c.readBase

/-- R300: a block's read counter set to 0; where every unlisted one reads 0 it is not listed. -/
def clearReads (c : Cave) (key : Nat) : Tab Nat :=
  if c.readBase = 0 then terase c.reads key else tset c.reads key 0

/-- The places of a block set. -/
def setPlaces (n : Nat) : List Block := (List.range 32).map fun ch => (n, ch)

/-- The places of a region. -/
def Region.places (r : Region) : List Block := r.sets.flatMap setPlaces

/-- R301: the largest read count among the blocks of a region. -/
def regionReads (s : State) (r : Region) : Nat := (r.places.map (blockReads s.cave)).foldl max 0

/-! ## The journal and the keep sets (R287, R288, R315) -/

/-- The blocks of a boot set erased. -/
def Cave.eraseBoot (c : Cave) (blk : Nat) : Cave :=
  { c with erases := (List.range 32).foldl (fun t ch => nset t (keyOf blk ch) (nget t (keyOf blk ch) + 1)) c.erases }

/-- R287, R300: a checkpoint: the journal starts anew, in the other of its sets. -/
def Cave.checkpoint (c : Cave) : Cave :=
  { c.eraseBoot (9 - c.jset) with ckpt := c.reads, ckptBase := c.readBase, journal := [], jset := 9 - c.jset, keepMark := none }

/-- R315: an entry journaled; the journal holds at most 4,096 between checkpoints. -/
def Cave.note (e : JEntry) (c : Cave) : Cave :=
  let c := if 4096 ≤ c.journal.length then c.checkpoint else c
  { c with journal := c.journal ++ [e] }

/-- R307, R315: the keys of the blocks to which the map has flipped, by the journal's entries from number `from_` on. -/
def Cave.flipped (c : Cave) (from_ : Nat) : List Nat :=
  (c.journal.drop from_).filterMap fun e => match e with
    | .block _ ch blk => some (keyOf blk ch)
    | _ => none

/-- R300, R315: the read counters restored from saved ones and the journal's entries after them, each raised by `add`. -/
def Cave.loadReads (c : Cave) (saved : Tab Nat) (base from_ add : Nat) : Cave :=
  let start := (c.flipped from_).foldl (fun t k => tset t k 0) saved
  { c with reads := start.map fun e => (e.1, e.2 + add), readBase := base + add }

/-- R287, R288: where 128 stripes of the current keep set are used, the other set is erased and becomes current. -/
def Cave.keepRoom (c : Cave) : Cave :=
  if 128 ≤ c.keepUsed then { c.eraseBoot (5 - c.keepSet) with keepSet := 5 - c.keepSet, keepUsed := 0 } else c

/-- R288: a keep record takes a stripe of the current keep set. -/
def Cave.keepStripe (c : Cave) : Cave :=
  { c.keepRoom with keepUsed := c.keepRoom.keepUsed + 1, keepMark := some c.journal.length }

/-- R309: CAVE_SPARE_LOW where a channel is left with fewer than four spares. -/
def spareEvent (s : State) (ch : Nat) : State :=
  if (s.cave.spares.getD ch []).length < 4 then sendEvent evCAVE_SPARE_LOW (le4 ch) s else s

/-- R294, R306: a spare block of a channel taken; which one the manual leaves open. -/
def takeSpare (s : State) (ch : Nat) : Option Nat × State :=
  match pickOf (s.cave.spares.getD ch []) s with
  | (some b, t) => (some b, spareEvent (modCave t fun c => { c with spares := c.spares.modify ch fun l => l.filter (· != b) }) ch)
  | (none, t) => (none, t)

/-- R307, R309: a block erased and returned to the spares of its channel. -/
def Cave.giveSpare (ch blk : Nat) (c : Cave) : Cave :=
  { c with
    spares := c.spares.modify ch fun l => l ++ [blk]
    erases := nset c.erases (keyOf blk ch) (nget c.erases (keyOf blk ch) + 1) }

/-- R306, R309: relocations stop: their spare blocks are erased and returned. -/
def Cave.stopRelocs (p : Reloc → Bool) (c : Cave) : Cave :=
  ((c.relocating ++ c.copied).filter p).foldl (fun c r => c.giveSpare r.ch r.blk)
    { c with relocating := c.relocating.filter fun r => !p r, copied := c.copied.filter fun r => !p r }

/-! ## Relocation queue and slices (R302-R306) -/

/-- A relocation of a place is under way. -/
def relocatingAt (s : State) (b : Block) : Bool := (s.cave.relocating ++ s.cave.copied).any fun r => (r.set, r.ch) == b

/-- R302, R311: a block queued for relocation, unless it is queued or under way. -/
def queueReloc (s : State) (b : Block) : State :=
  if s.cave.relocQ.contains b || relocatingAt s b then s
  else modCave s fun c => { c with relocQ := c.relocQ ++ [b] }

/-- R305: the dies of a channel that may program or erase at once in the slice. -/
def dieLimit (s : State) : Nat :=
  match s.cave.slice with
  | some (excl, _, _) => if excl then s.part.dies else s.part.dies / 2
  | none => 0

/-- R305, R306, R309, R313: a block of a channel may start to be relocated: the channel has a spare, is not fenced and
relocates nothing, and the slice leaves a die free for it. -/
def mayRelocate (s : State) (ch : Nat) : Bool :=
  let busy := ((s.cave.relocating ++ s.cave.copied).filter (·.ch == ch)).length
  busy == 0 && busy < dieLimit s && !s.isFenced siteCAVE ch && !(s.cave.spares.getD ch []).isEmpty

/-- R306, R309, R313: the first queued block of each channel that may starts to be relocated, while a slice runs. -/
def startRelocs (s : State) : State :=
  s.cave.relocQ.foldl (fun t b =>
    if !mayRelocate t b.2 then t
    else
      match takeSpare t b.2 with
      | (some blk, t) => modCave t fun c => { c with
          relocQ := c.relocQ.filter (· != b), relocating := c.relocating ++ [{ set := b.1, ch := b.2, blk := blk, read := [] }] }
      | (none, t) => t) s

/-- R305: a slice granted or taken; it replaces the remaining duration. -/
def grantSlice (s : State) (excl : Bool) (dur : Nat) : State :=
  startRelocs (modCave s fun c => { c with
    slice := some (excl, dur, s.tick), mode := 3, regions := c.regions.map fun e => (e.1, { e.2 with sliceReq := false }) })

/-- R317 CAVE_SLICE_LEFT: ms that remain of the slice; a tick is 1/32,768 s (R11). -/
def sliceLeft (s : State) : Nat :=
  match s.cave.slice with
  | some (_, ms, t) => ms - (s.tick - t) * 1000 / 32768
  | none => 0

/-- R317 CAVE_AUTO_SLICE. -/
def autoSlice (s : State) : Nat := rsv s 0x80010 200

/-- R303: a SHARED slice taken by the package while a region is at 95 per cent, no slice is granted and the package has
reached READY; not for a region that is being released, whose blocks are not relocated (R309). -/
def takeAuto (s : State) : State :=
  if s.cave.slice.isSome || s.cave.mode != 2 || s.pkg.phase != .ready then s
  else
    match s.cave.regions.find? fun e => e.2.state != 3 && budgetAt s (regionReads s e.2) 95 with
    | some e => grantSlice (sendEvent evCAVE_SLICE_AUTO (le4 e.1) s) false (autoSlice s)
    | none => s

/-- R304: of `n` reads of a block that has been read `before` times, those that find or bring it to its full budget. -/
def overReads (s : State) (before n : Nat) : Nat := min n (before + n + 1 - s.part.rdLimit)

/-- R300-R304: `n` page reads of a block counted, with what its budget calls for. -/
def countReads (s : State) (b : Block) (n : Nat) : State :=
  let before := blockReads s.cave b
  let after := before + n
  let old := (regionOfSet s b.1).map fun e => regionReads s e.2
  let s := modCave s fun c => { c with
    reads := tset c.reads (blockKey c b) (after % 2 ^ 32), nReads := satAdd64 c.nReads n,
    rdOver := satAdd32 c.rdOver (overReads s before n) }
  if !budgetAt s before 80 && budgetAt s after 80 then
    let s := startRelocs (queueReloc s b)
    takeAuto (match regionOfSet s b.1, old with
      | some e, some o =>
        if s.cave.slice.isNone || !budgetAt s o 80 then
          modRegion (sendEvent evCAVE_SLICE_REQ (le4 e.1) s) e.1 fun r => { r with sliceReq := s.cave.slice.isNone }
        else s
      | _, _ => s)
  else takeAuto s

/-- R302, R311, R315: every block of a region, other than one that is being released, at 80 per cent, and every block of
which the repair cache holds a page, queued for relocation. -/
def queueWorn (s : State) : State :=
  let worn := (s.cave.regions.filter fun e => e.2.state != 3).flatMap fun e =>
    e.2.places.filter fun b => budgetAt s (blockReads s.cave b) 80
  (worn ++ s.cave.repair.map fun e => (e.1.1, e.1.2.2)).foldl queueReloc s

/-- R302: CAVE_SLICE_REQ for every region of which a block is queued, where no slice is granted. -/
def askSlices (s : State) : State :=
  (s.cave.regions.filter fun e => budgetAt s (regionReads s e.2) 80 && !e.2.sliceReq && s.cave.slice.isNone).foldl (fun t e =>
    modRegion (sendEvent evCAVE_SLICE_REQ (le4 e.1) t) e.1 fun r => { r with sliceReq := true }) s

/-! ## Pages (R284, R299, R310, R311) -/

/-- R284: the page of a region that holds a data offset. -/
def pageAt (r : Region) (off : Nat) : CPage :=
  let n := off % setBytes / 16384
  (r.sets.getD (off / setBytes) 0, n / 31, (n / 31 + 1 + n % 31) % 32)

/-- R290: the pages of a region that hold the bytes of a wheel. -/
def wheelPages (r : Region) (off len : Nat) : List CPage :=
  (List.range ((off + len - 1) / 16384 + 1 - off / 16384)).map fun i => pageAt r (16384 * (off / 16384 + i))

/-- R284, R290: the pages of a region that hold the wheels of a directory entry, which follow one another. -/
def entryPages (r : Region) (entry : Nat) : List CPage :=
  match (entryIndex r entry).head?, (entryIndex r entry).getLast? with
  | some a, some z => wheelPages r a.2.1 (z.2.1 + z.2.2 - a.2.1)
  | _, _ => []

/-- R299: the pages of the cave that a promotion of an object reads. -/
def promoPages (s : State) (o : Obj) : List CPage :=
  ((tget s.cave.regions o.homeref).map fun r => entryPages r o.dirEntry).getD []

/-- The bytes of a data page of a region, or of a page of none. -/
def dataPage (r : Region) (p : CPage) : Bytes :=
  match regionOff r p with
  | some o => mread r.data o 16384
  | none => zeros 16384

/-- The bytewise exclusive-or of two pages. -/
def xorBytes (a b : Bytes) : Bytes := List.zipWith (· ^^^ ·) a b

/-- R284: the parity page of stripe `k` of a block set: the bytewise exclusive-or of its 31 data pages. -/
def parityPage (r : Region) (set k : Nat) : Bytes :=
  (((List.range 32).filter (· != k % 32)).map fun ch => dataPage r (set, k, ch)).foldl xorBytes (zeros 16384)

/-- R284: the bytes of a page of a region. -/
def pageData (r : Region) (p : CPage) : Bytes := if p.2.2 = p.2.1 % 32 then parityPage r p.1 p.2.1 else dataPage r p

/-- R310: a page rebuilt: the bytewise exclusive-or of the 31 other pages of its stripe. -/
def rebuildPage (r : Region) (p : CPage) : Bytes :=
  (((List.range 32).filter (· != p.2.2)).map fun ch => pageData r (p.1, p.2.1, ch)).foldl xorBytes (zeros 16384)

/-- R311: the repair cache holds a page. -/
def repaired (s : State) (p : CPage) : Bool := s.cave.repair.any (·.1 == p)

/-- R310: the step of the ladder at which a page stands. -/
def ladderStep (s : State) (p : CPage) : Nat := ((s.cave.ladder.find? (·.1 == p)).map (·.2)).getD 0

/-- R310: a page put at a step of the ladder; 0 takes it off. -/
def setLadder (s : State) (p : CPage) (st : Nat) : State :=
  modCave s fun c => { c with ladder := (c.ladder.filter (·.1 != p)) ++ (if st = 0 then [] else [(p, st)]) }

/-- R299, R306: a page has been read: the read serves every promotion that waits on it, and a relocation of its block. -/
def servePage (s : State) (p : CPage) : State :=
  modCave { s with obj := { s.obj with mig := s.obj.mig.map fun r => { r with pages := r.pages.filter (· != p) } } } fun c =>
    { c with relocating := c.relocating.map fun r =>
        if (r.set, r.ch) = (p.1, p.2.2) then { r with read := p.2.1 :: r.read.filter (· != p.2.1) } else r }

/-- R300, R311: a page read without an error: from the repair cache, or from its block, which is counted; a damaged page is
not read. -/
def readPage (s : State) (p : CPage) : State :=
  servePage (if repaired s p || s.cave.bad.contains p then s else countReads s (p.1, p.2.2) 1) p

/-- R313: of the pages that a reader waits on, those on a fenced channel go to step 2. -/
def fencedPages (s : State) (ps : List CPage) : State :=
  (ps.filter fun p => s.isFenced siteCAVE p.2.2 && !repaired s p && !s.cave.bad.contains p && ladderStep s p == 0).foldl
    (fun t p => setLadder t p 2) s

end Sys2Proof.Machine
end

