-- ==== Sys2Proof/Machine/MigOps.lean ====
section
/-! DEFINITION. The migration engine's requests (R255-R271): the states of positions, the start of promotions and
evictions, near-store space and pressure, and what a result does to those that wait for it. -/

namespace Sys2Proof.Machine

open Sys2Proof

/-! ## Positions (R256, R257): 0 MAIN, 1 + c NEAR(c) -/

/-- R257: the state of a position: 0 STABLE, 1 PROMOTING, 2 EVICTING. -/
def Obj.posState (o : Obj) (pos : Nat) : Nat :=
  if pos = 0 then o.mstate else if bit o.nsprom (pos - 1) then 1 else if bit o.nsevict (pos - 1) then 2 else 0

/-- R257: the state of a position set. -/
def Obj.setPos (o : Obj) (pos st : Nat) : Obj :=
  if pos = 0 then { o with mstate := st }
  else { o with nsprom := setBit o.nsprom (pos - 1) (st == 1), nsevict := setBit o.nsevict (pos - 1) (st == 2) }

/-- A position holds a copy that a reader may take: in main store, for a writable object, only while no near-store copy
makes it stale (R254). -/
def Obj.holds (o : Obj) (pos : Nat) : Bool :=
  o.posState pos == 0 && (if pos = 0 then o.res && (!o.rw || o.nsmask == 0) else o.inNear (pos - 1))

/-- R265, R266: the result with which a request on an object that is going ends. -/
def Obj.gone (o : Obj) : Option Nat :=
  if o.freeing then some mrCANCELLED_FREED else if o.closing then some mrCANCELLED_CLOSED else none

/-- R255: a position whose copy is never evicted: a read-only home copy, a writable main-store copy. -/
def Obj.homePos (o : Obj) (pos : Nat) : Bool := pos == 0 && (o.rw || o.home == 0)

/-- R250: PIN protects the copy at a position: copies at TIER and above. -/
def Obj.protects (o : Obj) (pos : Nat) : Bool := o.pinBit && (if pos = 0 then 1 ≤ o.tier else true)

/-- The near-store offset of a cluster set. -/
def setNs (s : State) (i c : Nat) (off : Option Nat) : State := modObj s i fun o => { o with ns := o.ns.set c off }

/-! ## Results -/

/-- R572: a MIGRATION record. -/
def migRecord (handle pos req res wait src : Nat) : Bytes :=
  le4 handle ++ leBytes 1 pos ++ leBytes 1 req ++ leBytes 1 res ++ leBytes 1 wait ++ leBytes 1 src

/-- R267: the exception code of a result. -/
def excOf (res : Nat) : Nat :=
  if res = mrFAILED_SPACE then xOBJ_SPACE else if res = mrFAILED_DAMAGED then xOBJ_DAMAGED
  else if res = mrFAILED_FETCH then xOBJ_UNREACHABLE else xOBJ_GONE

/-- R267: a task that has not started ends EXCEPTION with a code. -/
def failTask (s : State) (k : TaskRef) (code : Nat) : State := settle (endTask (taskException s k code 0) k 1) k.g

/-- R267: a task's granted residency waits on a position of an object. -/
def waitsOn (s : State) (i pos : Nat) (k : TaskRef) : Bool :=
  (runOf s k).any (fun r => r.st == .granted && (pos == 0 || r.cluster + 1 == pos)) &&
    (if pos = 0 then (commandList s k).any (·.1 == i) else (operandIdxs s k).contains i)

/-- R267: the tasks that wait on the position of a request that has ended, its own task, or those without a request of
their own. -/
def waitersOf (s : State) (r : MigReq) : List TaskRef :=
  ((match r.task with
    | some k => [k]
    | none => (liveTasks s).filter fun k => !s.obj.mig.any fun q => q.task == some k && q.idx == r.idx && q.pos == r.pos)).filter
      (waitsOn s r.idx r.pos)

/-- R273: the move whose implicit promotion a request is, while it waits for it. -/
def movesOf (s : State) (r : MigReq) : List Move := s.obj.moves.filter fun m => m.waiting && r.move == some m.id

/-- R203, R207: a promotion into main store that failed: the GRAPH_LOADs that wait for the object end STATE, and the
instances whose binding object it is are refused. -/
def failReaders (s : State) (i : Nat) : State :=
  let s := [Port.usb, .mgt, .fabric].foldl (fun t p =>
    (t.portq p).outst.foldl (fun t o => match o.cmd with
      | .graphLoad _ handle _ _ =>
        if !o.waitData && (objOf t handle).any (·.1 == i) then answer p o.tag (Ans.err stSTATE) t else t
      | _ => t) t) s
  s.gra.graphs.foldl (fun t e => match nextInst t e.2 with
    | some n =>
      if e.2.nparam != 0 && (objOf t n.binding).any (·.1 == i) then refuseInstance (takeInstance t e.1 e.2 n) e.1 e.2 n 2 else t
    | none => t) s

/-- R203, R207, R267, R273: what a failed promotion does to the commands, instances, tasks and moves that wait for it. -/
def failWaiters (s : State) (r : MigReq) (res : Nat) : State :=
  let s := if r.pos = 0 then failReaders s r.idx else s
  let s := (waitersOf s r).foldl (fun t k => failTask t k (excOf res)) s
  (movesOf s r).foldl (fun t m => moveFailed t m (.mig res)) s

/-- R262, R279, R280: a migration request ends with a result: LAST, the counters, the MIGRATION record. -/
def finishMig (s : State) (r : MigReq) (res : Nat) : State :=
  let handle := ((objAt s r.idx).map fun o => mkHandle r.idx o).getD 0
  let s := modObj s r.idx fun o => { o with last := res }
  let s := { s with obj := { s.obj with
    lastFail := if 2 ≤ res then res else s.obj.lastFail
    collide := if r.wait = 0 then s.obj.collide else satAdd32 s.obj.collide 1
    promotions := if res = mrDONE ∧ ¬r.evict then satAdd64 s.obj.promotions 1 else s.obj.promotions
    evictions := if res = mrDONE ∧ r.evict then satAdd64 s.obj.evictions 1 else s.obj.evictions } }
  let s := match r.cmd with
    | some (p, tag) =>
      pushRec p (mkRec tyMIGRATION tag 0 (migRecord handle r.pos (b2n r.evict) res (r.wait + 4 * b2n r.restarted)
        (if r.evict then 0xFF else r.src))) s
    | none => s
  if !r.evict && 2 ≤ res then failWaiters s r res else s

/-! ## Near-store space (R268, R270) -/

/-- The lowest free place for `n` bytes among used ranges. -/
def firstPlace (s : State) (used : List (Nat × Nat)) (n : Nat) : Option Nat :=
  argMin id ((areaBase s :: used.map fun r => r.1 + r.2).filter fun a =>
    areaBase s ≤ a && a + n ≤ areaBase s + areaSize s && rangeFree used a n)

/-- Places for several copies among used ranges, each the lowest that is free. -/
def firstPlaces (s : State) : List (Nat × Nat) → List Nat → Option (List Nat)
  | _, [] => some []
  | used, n :: ns =>
    match firstPlace s used n with
    | some a => (firstPlaces s ((a, n) :: used) ns).map (a :: ·)
    | none => none

/-- Places chosen freely for several objects, one after another; none where a choice leaves no room. -/
def freePlaces (c : Nat) : List Nat → State → Option State
  | [], s => some s
  | i :: is, s =>
    match objAt s i with
    | none => freePlaces c is s
    | some o =>
      match nearPlace s c o.nearBytes with
      | (some a, t) => freePlaces c is (setNs t i c (some a))
      | (none, _) => none

/-- R268: space in a cluster reserved for the copies of several objects at once; which places, the manual leaves open
(notes/assumptions/3.md). -/
def reserveAll (s : State) (c : Nat) (is : List Nat) : Option State :=
  match freePlaces c is s with
  | some t => some t
  | none =>
    (firstPlaces s (nearUsed s c) (is.map fun i => ((objAt s i).map Obj.nearBytes).getD 0)).map fun as =>
      (is.zip as).foldl (fun t e => setNs t e.1 c (some e.2)) s

/-- R270: the category of a copy that may be evicted under pressure. -/
def Obj.pressureCat (o : Obj) : Nat := if o.rw then 2 else if o.tier = 0 then 1 else 0

/-- R270: the copies in a cluster that may be evicted, in the order of R270. -/
def pressureList (s : State) (c : Nat) : List Nat :=
  let cs := s.obj.tab.filter fun e => e.2.inNear c && e.2.posState (c + 1) == 0 && e.2.pins == 0 && !e.2.pinBit
  (sortBy (fun e => e.2.pressureCat * 2 ^ 64 + e.2.used) cs).map (·.1)

/-- The ranges of a cluster that no chosen copy and no copy being evicted holds. -/
def usedWithout (s : State) (c : Nat) (drop : List Nat) : List (Nat × Nat) :=
  (s.obj.tab.filter fun e => !drop.contains e.1 && !bit e.2.nsevict c).filterMap fun e =>
    (e.2.ns.getD c none).map fun a => (a, e.2.nearBytes)

/-- R270: as few as are needed of the evictable copies, in order; none where all of them would not make room. -/
def choosePressure (s : State) (c : Nat) (sizes : List Nat) : List Nat → List Nat → List Nat
  | chosen, [] => if (firstPlaces s (usedWithout s c chosen) sizes).isSome then chosen else []
  | chosen, i :: is =>
    if (firstPlaces s (usedWithout s c chosen) sizes).isSome then chosen
    else choosePressure s c sizes (chosen ++ [i]) is

/-- R255: a read-only near-store copy dropped. -/
def dropNear (s : State) (i c : Nat) : State :=
  modObj s i fun o => { o.setPos (c + 1) 0 with ns := o.ns.set c none, nsmask := setBit o.nsmask c false }

/-- R319, R546: an engine can take a move or a migration: on, neither fenced nor recovering. -/
def dxFree (s : State) (e : Nat) : Bool :=
  ((s.dx[e]?).any fun x => x.state == 2 || x.state == 3) && !s.isFenced siteDMA e && !s.isRecovering siteDMA e

/-- R19: the engine that carries a migration, one of the stack of its near store, where it touches one; which of them the
manual leaves open. -/
def pickDx (s : State) (pos : Nat) : Option Nat × State :=
  pickOf ((List.range 16).filter fun e => dxFree s e && (pos == 0 || e / 4 == (pos - 1) / 2)) s

/-- R256, R339: a migration under way, on an engine. -/
def carryMig (s : State) (r : MigReq) (o : Obj) : State :=
  let p := pickDx s r.pos
  let r := { r with active := true, space := false, dx := p.1.map fun e => (e, o.size) }
  let s := { p.2 with obj := { p.2.obj with mig := p.2.obj.mig ++ [r] } }
  match p.1 with
  | some e => joinDx s e o.size
  | none => s

/-- R339: what the engine of a migration that completes has read and written. -/
def countMig (s : State) (r : MigReq) (nin nout : Nat) : State :=
  match r.dx with
  | some e => s.modDx e.1 fun x => { x with bytesIn := satAdd64 x.bytesIn nin, bytesOut := satAdd64 x.bytesOut nout }
  | none => s

/-- R262: one request taken off the list of the engine. -/
def dropMig (s : State) (r : MigReq) : State :=
  let s := { s with obj := { s.obj with mig := s.obj.mig.filter (· != r) } }
  match r.dx with
  | some e => leaveDx s e.1 e.2
  | none => s

/-- R322, R338, R544: the migrations on a DMA engine run again from their start on another one. -/
def rehomeMigs (s : State) (e : Nat) : State :=
  (s.obj.mig.filter fun r => r.dx.any (·.1 == e)).foldl (fun t r =>
    match objAt t r.idx with
    | none => t
    | some o =>
      let t := dropMig t r
      let stack := (List.range 16).filter fun x => x != e && dxFree t x && (r.pos == 0 || x / 4 == (r.pos - 1) / 2)
      let p := pickOf (if stack.isEmpty then (List.range 16).filter fun x => x != e && dxFree t x else stack) t
      let t := { p.2 with obj := { p.2.obj with mig := p.2.obj.mig ++ [{ r with dx := p.1.map fun x => (x, o.size) }] } }
      match p.1 with
      | some x => joinDx t x o.size
      | none => t) s

/-- R255: an eviction starts: the position is EVICTING until it completes. -/
def startEvict (s : State) (r : MigReq) : State :=
  match objAt s r.idx with
  | some o => carryMig (modObj s r.idx fun o => o.setPos r.pos 2) r o
  | none => s

/-- A migration request not yet seen. -/
def newMig (i pos : Nat) (evict : Bool) (cmd : Option (Port × Nat)) : MigReq :=
  { idx := i, pos := pos, evict := evict, cmd := cmd, active := false, wait := 0, restarted := false, src := 0xFF,
    from_ := none, task := none, move := none, space := false, dx := none, pages := [] }

/-- R270: room made in a cluster for copies of given sizes: read-only copies dropped at once, writable ones spilled. -/
def pressure (s : State) (c : Nat) (sizes : List Nat) : State :=
  (choosePressure s c sizes [] (pressureList s c)).foldl (fun t i =>
    if (objAt t i).any Obj.rw then startEvict t (newMig i (c + 1) true none)
    else countEvictions (dropNear t i c) 1) s

/-! ## Main-store space (R271) -/

/-- R429: bytes of the staging reservation of a replacement. -/
def stagingBytes (s : State) : Nat := (s.wgt.repl.map (·.staging)).getD 0

/-- R271: free bytes of the object region. -/
def mainFree (s : State) : Nat := objectRegion s - mainReserved s - mainCachedAll s - stagingBytes s

/-- R271: main-store copies dropped, least recently used first, until `n` bytes are free; none where that cannot be. -/
def mainRoom (s : State) (n : Nat) : Option State :=
  let cs := (sortBy (fun e => e.2.used) (s.obj.tab.filter fun e => e.2.mainDroppable)).map (·.1)
  let t := cs.foldl (fun (t : State) i =>
    if n ≤ mainFree t then t
    else countEvictions (modObj t i fun o => { o with res := false }) 1) s
  if n ≤ mainFree t then some t else none

/-! ## Fetches (R275) -/

/-- R275, R278: the host can be asked for fetches: USB attached, a stream enabled. -/
def canFetch (s : State) : Bool := s.host.usb.attached && hostFetchStreams s != 0

/-- R275: a fetch entered as needed. -/
def addFetch (s : State) (o : Obj) (i form start count : Nat) (pos move : Option Nat) (cover : Nat) : State :=
  let f : Fetch := { id := s.obj.nextFetch, fid := none, stream := 0, handle := mkHandle i o, form := form, start := start,
                     count := count, attempt := 1, got := [], pos := pos, move := move, cover := cover }
  { s with obj := { s.obj with fetches := s.obj.fetches ++ [f], nextFetch := s.obj.nextFetch + 1 } }

/-- R275: the fetches of a whole object: one per 16,777,216 bytes in PLAIN form; in SEALED form the first of those that
follow one another until the object is whole, each of a number of wheels that the manual leaves to the device. -/
def fetchObject (s : State) (o : Obj) (i pos : Nat) : State :=
  if o.isSealed then addFetch (advance s) o i 1 0 (drawn s % 256 + 1) (some pos) none 0
  else
    (List.range ((o.size + 16777215) / 16777216)).foldl (fun t k =>
      addFetch t o i 0 (16777216 * k) (min 16777216 (o.size - 16777216 * k)) (some pos) none 0) s

/-! ## Promotions (R258) -/

/-- A cluster other than that of `pos` whose near store holds a copy. -/
def otherNear (o : Obj) (pos : Nat) : Option Nat := (List.range 8).find? fun c => c + 1 != pos && o.holds (c + 1)

/-- R258, R261: the position of the copy that a promotion takes as its source, never one that is being evicted; none where
that is the home copy. -/
def promoFrom (o : Obj) (pos : Nat) : Option Nat :=
  match otherNear o pos with
  | some c => some (c + 1)
  | none => if o.res && o.mstate != 2 then some 0 else none

/-- R258: the tier code of the source that a promotion takes. -/
def promoSource (o : Obj) (pos : Nat) : Nat :=
  match promoFrom o pos with
  | some p => if p = 0 then 1 else 0
  | none => if o.home = 1 then 2 else 3

/-- R312: a further promotion of an object from the cave waits with the one for which a member has been asked. -/
def askedFor (s : State) (i : Nat) : Bool := s.cave.peerWait.any (·.1 == i)

/-- R220, R259: a writable copy that a task in its cluster works on, or that a move reads or writes, is not moved away. -/
def inUseAt (s : State) (i c : Nat) : Bool :=
  (liveTasks s).any (fun k => (runOf s k).any (fun r =>
      r.cluster == c && (r.st == .ready || r.st == .running || r.st == .suspended)) &&
      (operandIdxs s k).contains i) ||
    s.obj.moves.any fun m => m.engine.isSome && (moveObjs s m.req).contains i

/-- The promotion is entered as active, its positions marked (R256, R258). -/
def markPromo (s : State) (r : MigReq) (o : Obj) : State :=
  let src := promoSource o r.pos
  let s := modObj s r.idx fun o =>
    let o := o.setPos r.pos 1
    match (if o.rw then otherNear o r.pos else none) with
    | some c => o.setPos (c + 1) 2
    | none => o
  -- R258: from a home tier the main-store position is filled too where TIER and the room allow
  let s := if 0 < r.pos ∧ 2 ≤ src ∧ o.tier ≤ 1 ∧ o.mstate = 0 then
      match mainRoom s o.mainBytes with
      | some t => modObj t r.idx fun o => { o with mstate := 1 }
      | none => s
    else s
  let s := carryMig s { r with src := src, from_ := promoFrom o r.pos, pages := if src = 2 then promoPages s o else [] } o
  if src = 3 then fetchObject s o r.idx r.pos
  else if src = 2 ∧ ¬(missingWheels s r.idx o).isEmpty ∧ ¬askedFor s r.idx then (askPeer s r.idx o).getD s
  else s

/-- R262, R268: a request for which there is no near-store space waits for it, no longer than the space-wait limit. -/
def waitSpace (s : State) (r : MigReq) : State :=
  { s with obj := { s.obj with mig := s.obj.mig ++ [{ r with active := false, space := true, src := 0xFF }] } }

/-- R258, R278: a promotion that can start does so, or ends at once where its source or its space cannot be had. A copy
in near store needs the place that `ns` already gives it, or one that is free and for which no task waits; it waits for
that. -/
def startPromo (s : State) (r : MigReq) (o : Obj) : State :=
  let src := promoSource o r.pos
  let r := { r with src := src, restarted := r.restarted || r.wait == 2 }
  if src = 1 ∧ !o.rw ∧ o.lost then finishMig (if 0 < r.pos then setNs s r.idx (r.pos - 1) none else s) r mrFAILED_DAMAGED
  else if src = 3 ∧ ¬canFetch s then finishMig (if 0 < r.pos then setNs s r.idx (r.pos - 1) none else s) r mrFAILED_FETCH
  else if src = 2 ∧ ¬(missingWheels s r.idx o).isEmpty ∧ ¬askedFor s r.idx ∧ (askPeer s r.idx o).isNone then
    finishMig (if 0 < r.pos then setNs s r.idx (r.pos - 1) none else s) r mrFAILED_DAMAGED
  else if r.pos = 0 then
    if o.rw || o.home = 0 then markPromo s r o
    else
      match mainRoom s o.mainBytes with
      | some t => markPromo t r o
      | none => finishMig s r mrFAILED_SPACE
  else if (o.ns.getD (r.pos - 1) none).isSome then markPromo s r o
  else if !(s.gra.resQ.getD (r.pos - 1) []).isEmpty then waitSpace s r
  else
    match reserveAll s (r.pos - 1) [r.idx] with
    | some t => markPromo t r o
    | none =>
      let t := pressure s (r.pos - 1) [o.nearBytes]
      match reserveAll t (r.pos - 1) [r.idx] with
      | some u => markPromo u r o
      | none => waitSpace t r

/-- A request waits for its positions to become STABLE (R260). -/
def waitMig (s : State) (r : MigReq) (evicting : Bool) : State :=
  let r := { r with active := false, wait := if evicting then 2 else if r.wait = 0 then 1 else r.wait }
  { s with obj := { s.obj with mig := s.obj.mig ++ [r] } }

/-- The first state other than STABLE among the positions that a request must find STABLE (R256, R260). -/
def busyState (o : Obj) (r : MigReq) : Nat :=
  let ps := if o.rw && !r.evict then r.pos :: List.range 9 else [r.pos]
  ((ps.map o.posState).find? (· != 0)).getD 0

/-- R260: a migration request evaluated: refused, already met, waiting, or started. -/
def evalMig (s : State) (r : MigReq) : State :=
  let r := { r with space := false }
  match objAt s r.idx with
  | none => finishMig s r mrCANCELLED_FREED
  | some o =>
    match o.gone with
    | some res => finishMig (if 0 < r.pos && !r.evict && o.posState r.pos == 0 && !o.inNear (r.pos - 1) then
        setNs s r.idx (r.pos - 1) none else s) r res
    | none =>
      if r.evict && o.homePos r.pos then finishMig s r mrREFUSED_HOME
      else
        let b := busyState o r
        if b != 0 then waitMig s r (b == 2)
        else if r.evict then
          if !o.holds r.pos then finishMig s r mrALREADY
          else if o.pins != 0 || o.protects r.pos then finishMig s r mrREFUSED_PINNED
          else startEvict s r
        else if o.holds r.pos then finishMig s r mrALREADY
        else
          match (if o.rw then otherNear o r.pos else none) with
          | some c => if inUseAt s r.idx c then waitMig s r false else startPromo s r o
          | none => startPromo s r o

/-- R260: the waiting requests on an object evaluated again, in arrival order. -/
def kickMig (s : State) (i : Nat) : State :=
  let ws := s.obj.mig.filter fun r => r.idx == i && !r.active
  let s := { s with obj := { s.obj with mig := s.obj.mig.filter fun r => r.idx != i || r.active } }
  ws.foldl evalMig s

/-- The promotion of a position asked for by the device itself, unless one is under way. -/
def wantPromo (s : State) (i pos : Nat) : State :=
  match objAt s i with
  | some o => if o.holds pos || s.obj.mig.any (fun r => r.idx == i && r.pos == pos && !r.evict) then s
      else evalMig s (newMig i pos false none)
  | none => s

/-! ## Residency of a task (R213, R268) -/

/-- R209: the objects among a task's operands that must lie in its cluster's near store. -/
def nearIdxs (s : State) (k : TaskRef) : List Nat :=
  if (descOf s k).any fun d => d.kind ≤ 1 then (operandIdxs s k).eraseDups else []

/-- R268: the operands that hold no place in a cluster, or one that an eviction is about to give up. -/
def needPlace (s : State) (c : Nat) (is : List Nat) : List Nat :=
  is.filter fun i => (objAt s i).any fun o => (o.ns.getD c none).isNone || bit o.nsevict c

/-- R268: an operand's place in a cluster is being given up. -/
def leaving (s : State) (c : Nat) (is : List Nat) : Bool := is.any fun i => (objAt s i).any fun o => bit o.nsevict c

/-- R214, R262: a task's request for one position. -/
def askPromo (s : State) (k : TaskRef) (i pos : Nat) : State := evalMig s { newMig i pos false none with task := some k }

/-- R213, R268: every operand is resident in the cluster, and the command list in main store. -/
def allResident (s : State) (k : TaskRef) (c : Nat) : Bool :=
  (nearIdxs s k).all (fun i => (objAt s i).any fun o => o.holds (c + 1)) &&
    ((commandList s k).all fun p => p.2.holds 0)

/-- R266: a task names an operand that is stale, freeing or closing: OBJ_GONE. A view handle names no object (R350). -/
def operandGone (s : State) (k : TaskRef) : Bool :=
  (operandHandles s k ++ (match descOf s k, instOf s k.g with
    | some d, some x => if d.kind = 1 then [resolve x d.kernel] else []
    | _, _ => [])).any fun h =>
    !isView h && !isRemote h && ((objOf s h).all fun p => p.2.freeing || p.2.closing)

/-- R266, R541: the exception of a task that names an operand that is gone or lost. -/
def operandBad (s : State) (k : TaskRef) : Option Nat :=
  if operandGone s k then some xOBJ_GONE
  else if ((operandHandles s k).filterMap (objOf s)).any (fun p => p.2.lost) || (commandList s k).any fun p => p.2.lost then
    some xOBJ_DAMAGED
  else none

/-- R268: the request of a task granted: places reserved for its operands and their promotions asked for. -/
def grantTask (s : State) (k : TaskRef) (c : Nat) : Option State :=
  match (if leaving s c (nearIdxs s k) then none else reserveAll s c (needPlace s c (nearIdxs s k))) with
  | none => none
  | some s =>
    let s := modRun s k fun r => { r with st := .granted }
    let s := (nearIdxs s k).foldl (fun t i => askPromo t k i (c + 1)) s
    some (match commandList s k with
      | some (i, _) => askPromo s k i 0
      | none => s)

/-- R268: a residency request that has not been granted ends with a result, and its task with the code of R267. -/
def endRequest (s : State) (k : TaskRef) (is : List Nat) (res : Nat) : State :=
  let s := { s with obj := { s.obj with lastFail := res } }
  let s := is.foldl (fun t i => modObj t i fun o => { o with last := res }) s
  failTask { s with gra := { s.gra with resQ := s.gra.resQ.map fun q => q.filter (· != k) } } k (excOf res)

/-- R265, R266: the residency requests on an object that wait for space or for a pin end with a result. -/
def endRequestsOf (s : State) (i res : Nat) : State :=
  ((liveTasks s).filter fun k => (runOf s k).any (fun r => r.st == .requested || r.st == .pinWait) &&
    (pinnedIdxs s k).contains i).foldl (fun t k => endRequest t k [i] res) s

/-- R262, R268: the first request without a task that waits for space in a cluster. -/
def spaceWaiter (s : State) (c : Nat) : Option MigReq := s.obj.mig.find? fun r => r.space && r.pos == c + 1

/-- R262, R268: space given to the first request without a task, where no task waits in the cluster. -/
def serveSpace (s : State) (c : Nat) : State :=
  match spaceWaiter s c with
  | none => s
  | some r =>
    if (reserveAll s c [r.idx]).isSome then evalMig (dropMig s r) r
    else pressure s c [((objAt s r.idx).map Obj.nearBytes).getD 0]

/-- R268, R270: pressure for the request at the head of a cluster's queue. -/
def pressHead (s : State) (c : Nat) : State :=
  match (s.gra.resQ.getD c []).head? with
  | some k => pressure s c ((needPlace s c (nearIdxs s k)).map fun i => ((objAt s i).map Obj.nearBytes).getD 0)
  | none => s

end Sys2Proof.Machine
end

