-- ==== Sys2Proof/Machine/Graph.lean ====
section
/-! DEFINITION. The graph engine: loading, running, aborting and dropping graphs, readiness, placement, dispatch,
stealing and completion (chapter 06). -/

namespace Sys2Proof.Machine

open Sys2Proof

/-! ## Reading a graph object (R202, R208, R237) -/

/-- R208, R209: a task descriptor. -/
def descOfBytes (b : Bytes) : Desc :=
  { kind := bnum b 0 1, flags := bnum b 1 1, affinity := bnum b 2 1, npred := bnum b 3 1 % 16, nopnd := bnum b 3 1 / 16,
    kernel := bnum b 4 4, budget := bnum b 8 4, strm := bnum b 12 1, wmask := bnum b 13 1, doneSync := bnum b 14 2,
    opnd := (List.range 8).map fun j => bnum b (16 + 4 * j) 4, pred := (List.range 8).map fun j => bnum b (48 + 2 * j) 2,
    req := moveReqOf ((b.drop 16).take 32) }

/-- R237: an edge table entry. -/
def edgeOfBytes (b : Bytes) : EdgeE := { srcM := bnum b 0 1, dstM := bnum b 1 1, srcT := bnum b 2 2, dstT := bnum b 4 2 }

/-- R202: the graph that an object's bytes describe. -/
def graphOfBytes (b : Bytes) (handle coll gnum : Nat) : Graph :=
  let n := bnum b 6 2
  { handle := handle, coll := coll, cntBase := bnum b 8 2, cntCount := bnum b 10 2, nparam := bnum b 12 1,
    group := bit (bnum b 13 1) 0, gnum := gnum, nmemb := bnum b 14 1, member := bnum b 15 1, gid := bnum b 20 4,
    tasks := (List.range n).map fun i => descOfBytes ((b.drop (64 + 64 * i)).take 64)
    edges := (List.range (bnum b 16 2)).map fun i => edgeOfBytes ((b.drop (64 + 64 * n + 8 * i)).take 8)
    drop := none, queue := [], run := none, serial := 0, reports := [], starts := [], early := [] }

/-- R203 step 4: MAGIC and the reserved fields of the header. -/
def headerOK (b : Bytes) : Bool :=
  bnum b 0 4 == 0x5A524750 && bnum b 13 1 < 2 && bnum b 18 2 == 0 && bnum b 24 40 == 0

/-- R202: the other fields of the header. -/
def rangesOK (b : Bytes) (x : Graph) : Bool :=
  let n := bnum b 6 2
  let e := bnum b 16 2
  1 ≤ n && n ≤ 16384 && x.cntBase ≤ 4095 && x.cntBase + x.cntCount ≤ 4096 && x.nparam ≤ 64 &&
    64 + 64 * n + 8 * e ≤ b.length &&
    (if x.group then 2 ≤ x.nmemb && x.nmemb ≤ 24 && x.member < x.nmemb && e ≤ 4096
     else x.nmemb == 0 && x.member == 0 && e == 0 && x.gid == 0)

/-- R210: a parameter reference below NPARAM. -/
def isParamRef (x : Graph) (h : Nat) : Bool := 0xFFFFFF00 ≤ h && h < 0xFFFFFF00 + x.nparam

/-- R210: a legal operand handle; `remote` where a remote handle may stand. -/
def handleOK (x : Graph) (remote : Bool) (h : Nat) : Bool :=
  (h != 0 && h < 0x80000000) || isParamRef x h || isView h || (remote && x.group && isRemote h)

/-- R143, R203: a fixed stream operand that is a carry object. -/
def carryOK (s : State) (h : Nat) : Bool := 0xFFFFFF00 ≤ h || (objOf s h).any fun p => p.2.role == 2

/-- R208-R210, R224: the fields of a descriptor. -/
def descOK (s : State) (x : Graph) (i : Nat) (d : Desc) : Bool :=
  let inCnt (c : Nat) : Bool := x.cntBase ≤ c && c < x.cntBase + x.cntCount
  let move := d.kind == 2 || d.kind == 4
  d.kind ≤ 4 && d.flags < 4 && d.affinity < 32 && d.npred ≤ 8 && d.nopnd ≤ 8 && bits d.doneSync 14 12 == 0 &&
    (!d.vatBit || d.kind == 0) && (if d.kind ≤ 2 then d.budget != 0 else d.budget == 0) &&
    (!move || (d.kernel == 0 && d.nopnd == 2)) && (d.kind != 3 || (d.nopnd == 0 && inCnt (d.kernel % 4096))) &&
    (d.kind != 4 || d.req.xf == 0) &&
    d.pred.all (· < 16384) && (d.pred.take d.npred).all (· < i) && (d.pred.drop d.npred).all (· == 0) &&
    (if move then handleOK x false d.req.srcH && handleOK x (d.kind == 2) d.req.dstH
     else (d.opnd.take d.nopnd).all (handleOK x false) && (d.opnd.drop d.nopnd).all (· == 0)) &&
    (d.kind != 1 || (d.kernel != 0 && d.kernel < 0x80000000) || isParamRef x d.kernel) &&
    (maskBits 8 (d.strm ||| d.wmask)).all (· < d.nopnd) && (maskBits 8 d.strm).all (bit d.wmask) &&
    (maskBits 8 d.strm).length ≤ 1 && (d.strm == 0 || d.kind == 1 || (d.kind == 0 && d.vatBit)) &&
    (maskBits 8 d.strm).all (fun j => carryOK s (d.opnd.getD j 0)) &&
    (!bit d.doneSync 15 || inCnt (d.doneSync % 4096))

/-- R237: a well-formed edge whose tasks on this member exist. -/
def edgeOK (x : Graph) (e : EdgeE) : Bool :=
  e.srcM != e.dstM && e.srcM < x.nmemb && e.dstM < x.nmemb && (e.srcM != x.member || e.srcT < x.tasks.length) &&
    (e.dstM != x.member || e.dstT < x.tasks.length)

/-- R203 KERNEL: the kernel of a TURNER task is OK and needs no vat that the task does not request. -/
def kernelOK (s : State) (d : Desc) : Bool :=
  d.kind != 0 || (s.obj.kernels.find? fun n => n.handle == d.kernel).any fun n => n.vat == 0 || d.vatBit

/-- R208: WMASK says which operands a task writes, the destination of a MOVE or FETCH task included (R209). -/
def Desc.writes (d : Desc) (j : Nat) : Bool := bit d.wmask j

/-- R203 ACCESS: an object handle used as an operand by tasks of a collection. -/
def accessOK (s : State) (coll h : Nat) (written : Bool) : Bool :=
  match objOf s h with
  | some (i, o) => if written then o.coll == coll && o.rw else mayRead s coll i o
  | none => false

/-- R203 ACCESS: the fixed operands and the fixed command list of a task. -/
def descAccess (s : State) (coll : Nat) (d : Desc) : Bool :=
  (rawOperands d).zipIdx.all (fun e => 0x80000000 ≤ e.1 || accessOK s coll e.1 (d.writes e.2)) &&
    (d.kind != 1 || 0x80000000 ≤ d.kernel ||
      (accessOK s coll d.kernel false && (objOf s d.kernel).any fun p => !p.2.rw))

/-- R203: the first of a list that fails, by index. -/
def firstBad {α : Type} (ok : Nat → α → Bool) (xs : List α) : Option Nat :=
  (xs.zipIdx.find? fun e => !ok e.2 e.1).map (·.2)

/-- R203: the status with which GRAPH_LOAD ends once the object's bytes can be read, with the index reported; none is
OK. -/
def graphStatus (s : State) (b : Bytes) (x : Graph) : Option (Nat × Nat) :=
  if !headerOK b then some (stFORMAT, 0)
  else if bnum b 4 2 != 1 then some (stCONTRACT, 0)
  else if !rangesOK b x then some (stFORMAT, 0)
  else
    match firstBad (fun i d => descOK s x i d) x.tasks, firstBad (fun _ e => edgeOK x e) x.edges with
    | some i, _ => some (stFORMAT, i)
    | none, some i => some (stFORMAT, i)
    | none, none =>
      let used := total (s.gra.graphs.map fun e => e.2.tasks.length)
      if 64 ≤ s.gra.graphs.length || 16384 < used + x.tasks.length then some (stLIMIT, 0)
      else
        match firstBad (fun _ d => kernelOK s d) x.tasks with
        | some i => some (stKERNEL, i)
        | none =>
          if s.gra.graphs.any fun e => x.cntCount != 0 && e.2.cntCount != 0 &&
            x.cntBase < e.2.cntBase + e.2.cntCount && e.2.cntBase < x.cntBase + x.cntCount
          then some (stSYNC_BUSY, 0)
          else
            (firstBad (fun _ d => descAccess s x.coll d) x.tasks).map fun i => (stACCESS, i)

/-- Whether an object's bytes can be read now, later after a promotion that this asks for, or not at all (R203, R207). -/
inductive Readable where
  /-- the bytes -/
  | now (b : Bytes)
  /-- a promotion into main store is under way -/
  | later (s : State)
  /-- damaged or unreachable -/
  | never

/-- R203, R207: an object's bytes read by the graph engine, from a copy above its home or through a promotion. -/
def readable (s : State) (i : Nat) (o : Obj) : Readable :=
  match objRead s o 0 o.size with
  | some b => if o.damaged && o.home == 0 then .never else .now b
  | none =>
    if o.damaged || (o.home == 2 && !canFetch s) then .never
    else
      let t := wantPromo s i 0
      if t.obj.mig.any fun r => r.idx == i && r.pos == 0 && !r.evict then .later t else .never

/-- R203: the effect of GRAPH_LOAD; it waits while the object is promoted. -/
def graphLoad (handle coll group : Nat) : Effect := fun _ s =>
  match objOf s handle with
  | none => (some (Ans.err stPARAM), s)
  | some (i, o) =>
    if o.rw then (some (Ans.err stPARAM), s)
    else if !s.keyed coll || !mayRead s coll i o then (some (Ans.err stACCESS), s)
    else if o.lstate != lsREADY || o.freeing || o.closing then (some (Ans.err stSTATE), s)
    else
      match readable s i o with
      | .never => (some (Ans.err stSTATE), s)
      | .later t => (none, t)
      | .now b =>
        let x := graphOfBytes b handle coll group
        match graphStatus s b x with
        | some (st, idx) => (some (Ans.err st idx), s)
        | none =>
          match pickBelow 64 (fun g => (graphOf s g).isNone) s with
          | (some g, s) =>
            (some (Ans.ok g), { zeroCounters s x with
              gra := { (zeroCounters s x).gra with graphs := tset (zeroCounters s x).gra.graphs g x } })
          | (none, s) => (some (Ans.err stLIMIT), s)

/-- R203: GRAPH_LOAD. -/
def execGraphLoad (h : Hdr) (handle coll group : Nat) (s : State) : Out :=
  .next (hostCmd h {} (graphLoad handle coll group) (.graphLoad h handle coll group) s)

/-- R203: the GRAPH_LOADs that wait for an object are taken up again once its promotion has ended. -/
def retryLoads (s : State) : State :=
  [Port.usb, .mgt, .fabric].foldl (fun t p =>
    (t.portq p).outst.foldl (fun t o => match o.cmd with
      | .graphLoad _ handle coll group =>
        if o.waitData then t else runEffect p o.tag (graphLoad handle coll group) [] t
      | _ => t) t) s

/-! ## Instances -/

/-- R205, R206: an instance entered in a graph's queue. -/
def submitInstance (s : State) (g band comp binding : Nat) (port : Port) (tag : Nat) (isStep : Bool) (gen : Nat) : State :=
  modGraph s g fun x =>
    { x with
      serial := (x.serial + 1) % 2 ^ 32
      queue := x.queue ++ [{ serial := x.serial, band := band, comp := comp, binding := binding, binds := [], port := port,
                             tag := tag, isStep := isStep, gen := gen, runs := [], start := 0, early := 0, reason := 0 }] }

/-- R205, R206: the status that GRAPH_RUN, GRAPH_ABORT and GRAPH_DROP share. -/
def graphCmdStatus (s : State) (g : Nat) : Option Nat :=
  if 63 < g then some stPARAM
  else if (graphOf s g).all fun x => x.drop.isSome then some stSTATE else none

/-- R205: the effect of GRAPH_RUN. -/
def graphRun (h : Hdr) (g band comp binding : Nat) : Effect := fun _ s =>
  if 63 < g || 3 < band then (some (Ans.err stPARAM), s)
  else
    match graphCmdStatus s g with
    | some st => (some (Ans.err st), s)
    | none =>
      if (graphOf s g).any fun x => 16 ≤ x.queue.length then (some (Ans.err stBUSY), s)
      else (some (Ans.ok 0), submitInstance s g band comp binding h.port h.tag false 0)

/-- R205: GRAPH_RUN. -/
def execGraphRun (h : Hdr) (graph band comp binding : Nat) (s : State) : Out :=
  .next (hostCmd h {} (graphRun h graph band comp binding) (.graphRun h graph band comp binding) s)

/-- R207: the completion object of an instance that passes the checks of R207. -/
def compOK (s : State) (x : Graph) (comp : Nat) : Option Nat :=
  match objOf s comp with
  | none => some 2
  | some (_, o) =>
    if !o.rw || o.size < 32 * x.tasks.length || o.freeing || o.closing then some 2
    else if o.coll != x.coll then some 1 else none

/-- R231: a queued instance ends ABORTED with every task ABORTED. -/
def abortQueued (s : State) (g cause : Nat) (x : Graph) (n : Inst) : State :=
  let n := { n with early := cause, runs := x.tasks.map fun _ => { Run.fresh with st := .ended stABORTED } }
  let s := match compOK s x n.comp, objOf s n.comp with
    | none, some (i, _) => x.tasks.zipIdx.foldl (fun t e =>
        objWrite t i (32 * e.2) (entryBytes e.1 Run.fresh stABORTED fun _ => 0)) s
    | _, _ => s
  let s := deliverInstance g n (instRecord g n 3 0 0) s
  { s with gra := { s.gra with
    instances := satAdd64 s.gra.instances 1, tasks := satAdd64 s.gra.tasks x.tasks.length } }

/-- R231: an instance ends early for a cause: unstarted tasks end ABORTED, running ones run on. -/
def endEarly (s : State) (g cause : Nat) : State :=
  settle (modInst s g fun n => { n with early := if n.early = 0 then cause else n.early }) g

/-- R231: every instance of a graph aborted: the queued ones at once, the running one early. -/
def abortAll (s : State) (g cause : Nat) : State :=
  match graphOf s g with
  | none => s
  | some x =>
    let s := x.queue.foldl (fun t n => abortQueued t g cause x n) s
    endEarly (modGraph s g fun x => { x with queue := [] }) g cause

/-- R231: the effect of GRAPH_ABORT. -/
def graphAbort (graph : Nat) : Effect := fun _ s =>
    match graphCmdStatus s graph with
    | some st => (some (Ans.err st), s)
    | none => (some (Ans.ok 0), abortAll s graph 1)

/-- R231: GRAPH_ABORT. -/
def execGraphAbort (h : Hdr) (graph : Nat) (s : State) : Out :=
  .next (hostCmd h {} (graphAbort graph) (.graphAbort h graph) s)

/-- R204: the effect of GRAPH_DROP. -/
def graphDrop (h : Hdr) (graph : Nat) : Effect := fun _ s =>
    match graphCmdStatus s graph with
    | some st => (some (Ans.err st), s)
    | none => (none, modGraph (abortAll s graph 1) graph fun x => { x with drop := some (h.port, h.tag) })

/-- R204: GRAPH_DROP; it waits until the running instance has completed. -/
def execGraphDrop (h : Hdr) (graph : Nat) (s : State) : Out :=
  .next (hostCmd h {} (graphDrop h graph)
    (.graphDrop h graph) s)

/-- R204 steps 3 and 4: the counters zeroed, the slots and counters freed. -/
def execGraphDropComplete (g : Nat) (s : State) : Out :=
  .next (match graphOf s g with
    | some x =>
      match x.drop with
      | some (p, tag) =>
        if x.run.isNone then
          let s := zeroCounters s x
          answer p tag (Ans.ok 0) { s with gra := { s.gra with graphs := terase s.gra.graphs g } }
        else s
      | none => s
    | none => s)

/-! ## Start of an instance (R207) -/

/-- R209: a command list is a read-only object that the collection may read. -/
def listOK (s : State) (coll h : Nat) : Bool := accessOK s coll h false && (objOf s h).any fun p => !p.2.rw

/-- R207 check 3: the parameters bound to operands and command lists; 1 ACCESS, 2 PARAM. -/
def paramReason (s : State) (x : Graph) (n : Inst) : Option Nat :=
  let one (d : Desc) (h : Nat) (written stream : Bool) : Option Nat :=
    if h < 0xFFFFFF00 then none
    else
      let v := resolve n h
      if isView v then (if stream then some 2 else none)
      else if isRemote v && x.group && d.kind == 2 then none
      else if !accessOK s x.coll v written then some 1
      else if stream && (objOf s v).any (fun p => p.2.role != 2) then some 2
      else none
  (x.tasks.flatMap fun d =>
    ((rawOperands d).zipIdx.map fun e => one d e.1 (d.writes e.2) (bit d.strm e.2)) ++
      [if d.kind = 1 ∧ 0xFFFFFF00 ≤ d.kernel ∧ ¬listOK s x.coll (resolve n d.kernel) then some 1 else none]).findSome? id

/-- R269: the operand space of every TURNER and VAT task. -/
def spaceOK (s : State) (x : Graph) (n : Inst) : Bool :=
  x.tasks.all fun d => 1 < d.kind ||
    total ((((rawOperands d).map (resolve n)).eraseDups.filterMap fun h => objOf s h).map fun p => p.2.nearBytes) ≤ areaSize s

/-- R428: an instance other than a step binds an object that a running replacement replaces. -/
def bindsReplaced (s : State) (n : Inst) : Bool :=
  !n.isStep && s.wgt.repl.any fun r => n.binds.any fun h => r.plan.any fun e => e.handle == h

/-- R207: an instance whose checks have passed runs. -/
def runInstance (s : State) (g : Nat) (n : Inst) : State :=
  let s := modGraph s g fun x =>
    let edges (i : Nat) : List (Nat × Bool) := x.early.filterMap fun e =>
      if e.1 = n.serial ∧ (x.edges[e.2.1]?).any (fun d => d.dstM == x.member && d.dstT == i) then some e.2 else none
    { x with
      run := some { n with start := s.tick, runs := x.tasks.zipIdx.map fun e => { Run.fresh with edges := edges e.2 } }
      early := x.early.filter fun e => e.1 != n.serial }
  settle s g

/-- R205, R207: the checks of an instance taken from the queue, its bindings read. -/
def checkInstance (s : State) (g : Nat) (x : Graph) (n : Inst) (binds : List Nat) : State :=
  let n := { n with binds := binds }
  match compOK s x n.comp with
  | some r => refuseInstance s g x n r
  | none =>
    match paramReason s x n with
    | some r => refuseInstance s g x n r
    | none => if !spaceOK s x n || bindsReplaced s n then refuseInstance s g x n 2 else runInstance s g n

/-- R206, R207, R238: INSTANCE_START. -/
def execInstanceStart (g : Nat) (s : State) : Out :=
  .next (match graphOf s g with
    | none => s
    | some x =>
      match nextInst s x with
      | none => s
      | some n =>
        if !serviceOn s then s
        else
          if x.nparam = 0 then checkInstance (takeInstance s g x n) g x n []
          else
            match objOf s n.binding with
            | none => refuseInstance (takeInstance s g x n) g x n 2
            | some (i, o) =>
              if o.size < 4 * x.nparam || o.lstate != lsREADY || o.freeing || o.closing then
                refuseInstance (takeInstance s g x n) g x n 2
              else if !mayRead s x.coll i o then refuseInstance (takeInstance s g x n) g x n 1
              else
                match readable s i o with
                | .never => refuseInstance (takeInstance s g x n) g x n 2
                | .later t => t
                | .now b => checkInstance (takeInstance s g x n) g x n ((List.range x.nparam).map fun p => bnum b (4 * p) 4))

/-! ## Residency requests (R214, R215, R252) -/

/-- The ready queue of a cluster for a kind of task. -/
def readyQueue (s : State) (isVat : Bool) (c : Nat) : List TaskRef :=
  if isVat then s.gra.rqV.getD c [] else s.gra.rqT.getD c []

/-- A cluster on which tasks are placed: neither fenced nor being reset (R215, R604). -/
def clusterUp (s : State) (c : Nat) : Bool := !s.isFenced siteCLUSTER c && !s.pkg.clReset.any (·.1 == c)

/-- R532: the junction temperature of a cluster. -/
def tempOf (s : State) (c : Nat) : Nat := s.pwr.temp.getD c 0

/-- R549: a cluster is treated as fenced for a task: it is fenced, or both its vats are and the task requests one. -/
def fencedFor (s : State) (d : Desc) (c : Nat) : Bool :=
  s.isFenced siteCLUSTER c || ((d.kind == 1 || d.vatBit) && s.isFenced siteVAT (2 * c) && s.isFenced siteVAT (2 * c + 1))

/-- R215: the cluster of a task. -/
def chooseCluster (s : State) (k : TaskRef) (d : Desc) : Option Nat :=
  let v := d.kind == 1
  let depth (c : Nat) : Nat := (readyQueue s v c).length
  let ups := (List.range 8).filter fun c => clusterUp s c && !fencedFor s d c
  let c0 := d.affinity % 8
  let res := (streamIdxs s k).find? fun i => (streamOf s i).1 == 2
  match argMin (fun c => depth c * 2 ^ 32 + tempOf s c) ups with
  | none => none
  | some best =>
    if bit d.affinity 4 && !fencedFor s d c0 then (if clusterUp s c0 then some c0 else none)
    else
      match res with
      | some i => some (clusterOfVat (streamOf s i).2)
      | none =>
        if bit d.affinity 3 && ups.contains c0 && depth c0 < depth best + 16 then some c0 else some best

/-- R214: a task has been released to a unit, or has ended. -/
def Run.released (r : Run) (d : Desc) : Bool :=
  match r.st with
  | .running => true
  | .suspended => true
  | .ended _ => true
  | .ready => d.kind == 2 || r.attempts != 0
  | _ => false

/-- R252: the tasks from which a task is reached by a chain of at most `n` predecessor links. -/
def ancestors (x : Graph) : Nat → List Nat → List Nat
  | 0, _ => []
  | n + 1, is =>
    let ps := (is.flatMap fun i => ((x.tasks[i]?).map fun d => d.pred.take d.npred).getD []).eraseDups
    ps ++ ancestors x n ps

/-- R214, R252: the residency of a task's operands may be asked for. -/
def mayRequest (s : State) (x : Graph) (n : Inst) (k : TaskRef) (d : Desc) : Bool :=
  let pfd := (operandIdxs s k).foldl (fun a i => max a (((objAt s i).map Obj.pfd).getD 0)) 0
  d.kind ≤ 1 && ((n.runs[k.i]?).any fun r => r.st == .idle) &&
    (ancestors x (pfd + 1) [k.i]).all (fun j =>
      match n.runs[j]?, x.tasks[j]? with
      | some r, some e => r.released e
      | _, _ => true) &&
    (x.edges.zipIdx.filter fun e => e.1.dstM == x.member && e.1.dstT == k.i).all fun e =>
      ((n.runs[k.i]?).map fun r => r.edges.contains (e.2, true)).getD false

/-- R268: a request that holds its pins joins its cluster's queue, or is granted at once where every operand has its
place. -/
def placeRequest (s : State) (k : TaskRef) (c : Nat) : State :=
  let s := modRun s k fun r => { r with st := .requested }
  if (needPlace s c (nearIdxs s k)).isEmpty then (grantTask s k c).getD s
  else
    let s := { s with gra := { s.gra with resQ := s.gra.resQ.modify c fun q => q ++ [k] } }
    if (s.gra.resQ.getD c []).head? == some k then pressHead s c else s

/-- R214, R215, R259: RESIDENCY_REQUEST; requests go out in ascending task index. -/
def execResidencyRequest (g i : Nat) (s : State) : Out :=
  let k : TaskRef := ⟨g, i⟩
  .next (match graphOf s g, instOf s g, descOf s k with
    | some x, some n, some d =>
      if !serviceOn s || n.early != 0 || !mayRequest s x n k d ||
          (List.range i).any (fun j => (x.tasks[j]?).any fun e => mayRequest s x n ⟨g, j⟩ e) then s
      else if (operandBad s k).isSome then failTask s k ((operandBad s k).getD 0)
      else
        match chooseCluster s k d with
        | none => s
        | some c =>
          let s := modRun s k fun r => { r with cluster := c }
          if canPin s (pinnedIdxs s k) then placeRequest (pin s (pinnedIdxs s k)) k c
          else modRun s k fun r => { r with st := .pinWait }
    | _, _, _ => s)

/-- R268: RESIDENCY_SPACE_GRANT; where the space is not there, room is made under R270. -/
def execResidencySpaceGrant (c : Nat) (s : State) : Out :=
  .next (match (s.gra.resQ.getD c []).head? with
    | none => if !serviceOn s || !clusterUp s c then s else serveSpace s c
    | some k =>
      if !serviceOn s || !clusterUp s c then s
      else
        match grantTask s k c with
        | some t => pressHead { t with gra := { t.gra with resQ := t.gra.resQ.modify c fun q => q.filter (· != k) } } c
        | none => pressHead s c)

/-- R262, R268: OBJ_SPACE_WAIT_EXPIRY; the head request ends FAILED_SPACE and its task OBJ_SPACE. -/
def execObjSpaceWaitExpiry (c : Nat) (s : State) : Out :=
  .next (match (s.gra.resQ.getD c []).head? with
    | none =>
      match spaceWaiter s c with
      | some r => if clusterUp s c then finishMig (dropMig s r) r mrFAILED_SPACE else s
      | none => s
    | some k => if clusterUp s c then pressHead (endRequest s k (operandIdxs s k) mrFAILED_SPACE) c else s)

/-! ## Readiness (R213) -/

/-- R213 condition 2: an operand or the command list is not READY. -/
def allReady (s : State) (k : TaskRef) : Bool :=
  (operandIdxs s k ++ ((commandList s k).map (·.1)).toList).all fun i => (objAt s i).all fun o => o.lstate == lsREADY

/-- R427, R428: the services of a replacement whose step graph is `g`. -/
def stepServices (s : State) (r : Repl) (g : Nat) : List Nat :=
  (s.acc.svcs.filter fun e => e.2.valid && bit r.svcs e.1 && (e.2.dgraph == g || e.2.pgraph == g)).map (·.1)

/-- R427, R432: an instance is a step: of the accession engine, or a member's part of a group step. -/
def isStepOf (s : State) (g : Nat) (n : Inst) : Bool := n.isStep || (graphOf s g).any fun x => x.group

/-- R431: a step of the new generation names an object of a group not yet flipped. -/
def atBarrier (s : State) (k : TaskRef) : Bool :=
  match s.wgt.repl, instOf s k.g with
  | some r, some n =>
    isStepOf s k.g n && (stepServices s r k.g).any (fun i => n.gen == s.wgt.gens.getD i 1) &&
      r.plan.any fun e => !r.flippedG.contains e.group && (operandHandles s k).contains e.handle
  | _, _ => false

/-- R209: a MOVE or FETCH task starts: its request is checked, then it goes to the DMA engines, or posts a fetch. -/
def startMoveTask (s : State) (k : TaskRef) (d : Desc) (n : Inst) : State :=
  let q := { d.req with srcH := resolve n d.req.srcH, dstH := resolve n d.req.dstH }
  let s := modRun s k fun r => { r with st := .ready }
  let src := objOf s q.srcH
  let bad := d.kind = 4 ∧ ¬(src.any fun p => !p.2.rw && p.2.home == 2)
  match (if bad then some xTRN_DMA else checkMove s k false q) with
  | some c => settle (endTask (taskException (modRun s k fun r => { r with attempts := 1 }) k c 0) k 1) k.g
  | none =>
    let id := s.obj.nextMove
    let s := issueMove s k (.task k) none 0 q
    if d.kind = 2 then s
    else
      let s := beginAttempt s k 0xFF
      let s := modRun s k fun r => { r with moves := 1 }
      match s.obj.moves.find? (·.id == id), src with
      | some m, some (i, o) =>
        if canFetch s then
          if o.isSealed then
            addFetch (advance (advance s)) o i 1 (drawn s % 2 ^ 32) (drawn (advance s) % 256 + 1) none (some id) 0
          else addFetch s o i 0 q.srcOff q.len none (some id) 0
        else moveFailed s m (.mig mrFAILED_FETCH)
      | _, _ => s

/-- R145: the cluster on whose vat a stream of a task has become RESIDENT, where it is not cluster `c`; a PIN (R215) holds
the task where it is. -/
def strayed (s : State) (k : TaskRef) (c : Nat) : Option Nat :=
  if (descOf s k).any fun d => bit d.affinity 4 then none
  else
    (((streamIdxs s k).find? fun i => (streamOf s i).1 == 2).map fun i => clusterOfVat (streamOf s i).2).filter (· != c)

/-- R145: a task pinned to the vat of its RESIDENT stream asks for its operands in that vat's cluster. -/
def repin (s : State) (k : TaskRef) : State :=
  match runOf s k with
  | none => s
  | some r =>
    match strayed s k r.cluster with
    | none => s
    | some c =>
      let s := { s with gra := { s.gra with
        rqT := s.gra.rqT.map fun q => q.filter (· != k)
        rqV := s.gra.rqV.map fun q => q.filter (· != k) } }
      placeRequest (modRun s k fun r => { r with cluster := c, stolen := false }) k c

/-- R213, R216: TASK_RELEASE. -/
def execTaskRelease (g i : Nat) (s : State) : Out :=
  let k : TaskRef := ⟨g, i⟩
  .next (match graphOf s g, instOf s g, descOf s k, runOf s k with
    | some x, some n, some d, some r =>
      if !serviceOn s || n.early != 0 || !predsOK x n d i then s
      else if d.kind ≤ 1 then
        if r.st != .granted then s
        else if (operandBad s k).isSome then failTask s k ((operandBad s k).getD 0)
        else if atBarrier s k then
          { s with wgt := { s.wgt with
            held := if s.wgt.held.contains ⟨g, n.serial⟩ then s.wgt.held else s.wgt.held ++ [⟨g, n.serial⟩] } }
        else if (strayed s k r.cluster).isSome then repin s k
        else if !allReady s k || !allResident s k r.cluster then s
        else if (streamIdxs s k).any fun j => (streamOf s j).1 != 0 && (streamOf s j).1 != 2 then s
        else
          let s := modRun s k fun n => { n with st := .ready, stolen := false, readyAt := if r.stolen then 0 else s.tick + 1 }
          modQueue s (d.kind == 1) r.cluster (if r.stolen then insertHead s k else insertTail s k)
      else if d.kind = 3 || r.st != .idle then s
      else if (operandBad s k).isSome then failTask s k ((operandBad s k).getD 0)
      else if !allReady s k || atBarrier s k || (d.kind == 4 && !canPin s (pinnedIdxs s k)) then s
      else startMoveTask s k d n
    | _, _, _, _ => s)

/-! ## Dispatch and stealing (R216-R222) -/

/-- R217: a turner can run a task of its cluster's queue: its kernel, and the vat it needs. -/
def turnerRuns (s : State) (t : Nat) (k : TaskRef) : Bool :=
  !isBad s k siteTURNER t && (kernelOf s k).isSome &&
    (!(descOf s k).any Desc.vatBit || !(vatChoices s k (clusterOfTrn t)).isEmpty)

/-- R145, R217: a vat can run a VAT task of its cluster's queue: it is the vat that R145 chooses where a stream is named. -/
def vatRuns (s : State) (v : Nat) (k : TaskRef) : Bool :=
  let vs := vatChoices s k (clusterOfVat v)
  if (streamIdxs s k).isEmpty then vs.contains v else argMin (fun w => heldCount (s.vat w)) vs == some v

/-- A free unit of a kind. -/
def unitFree (s : State) (isVat : Bool) (u : Nat) : Bool := if isVat then vatFree s u else trnFree s u

/-- The cluster of a unit of a kind. -/
def unitCluster (isVat : Bool) (u : Nat) : Nat := if isVat then clusterOfVat u else clusterOfTrn u

/-- A unit can run a task of its own cluster's queue. -/
def unitRuns (s : State) (isVat : Bool) (u : Nat) (k : TaskRef) : Bool := if isVat then vatRuns s u k else turnerRuns s u k

/-- R148: a task of a lower band than `k` runs a chunk of a stream, or waits to run one. -/
def lowerChunk (s : State) (c v i : Nat) (k : TaskRef) : Bool :=
  let waiting := readyQueue s true c ++ readyQueue s false c ++ (s.vat v).bound.toList
  waiting.any fun j => (streamIdxs s j).contains i && bandOf s j < bandOf s k

/-- R144, R145: the streams that hold groups of a mask on a vat, or are being loaded into them. -/
def streamsUsing (s : State) (v mask : Nat) : List Nat :=
  (((s.vat v).held.zipIdx.filterMap fun e => if bit mask e.2 then e.1 else none) ++
    (s.gra.streams.filter fun e => e.2 == (1, v) && (objAt s e.1).any fun o => o.gmask &&& mask != 0).map (·.1)).eraseDups

/-- R145, R146: a task whose stream finds its groups free on no vat of the cluster has other streams swapped out of the
vat that holds the fewest groups. -/
def swapFor (s : State) (k : TaskRef) (c : Nat) : State :=
  let mine := streamIdxs s k
  let stored := mine.filter fun i => (streamOf s i).1 == 0
  let vs := [2 * c, 2 * c + 1].filter fun v => !s.isFenced siteVAT v && !s.isRecovering siteVAT v && !isBad s k siteVAT v
  let mask := maskOf 8 fun g => stored.any fun i => (objAt s i).any fun o => bit o.gmask g
  if stored.isEmpty || vs.any (fun v => (streamsUsing s v mask).isEmpty) then s
  else
    match argMin (fun v => heldCount (s.vat v)) vs with
    | none => s
    | some v =>
      (streamsUsing s v mask).foldl (fun t i => requestSwap t v i (lowerChunk s c v i k)) s

/-- R217: TASK_DISPATCH; a free unit takes the first task of its cluster's queue that it can run. -/
def execTaskDispatch (isVat : Bool) (u : Nat) (s : State) : Out :=
  let c := unitCluster isVat u
  let q := readyQueue s isVat c
  .next (if !computeOn s || !unitFree s isVat u || !clusterUp s c then s
    else
      match q.find? (unitRuns s isVat u) with
      | some k =>
        let s := modQueue s isVat c fun q => q.filter (· != k)
        if isVat then startOnVat s u k
        else
          match kernelOf s k with
          | some n =>
            if (descOf s k).any Desc.vatBit then
              match chooseVat s k c with
              | (some v, t) => startOnTurner t u k n (some v)
              | (none, _) => s
            else startOnTurner s u k n none
          | none => s
      | none =>
        match q.find? fun k => (strayed s k c).isSome, q.head? with
        | some k, _ => repin s k
        | none, some k => swapFor s k c
        | none, none => s)

/-- R220: a task of a victim cluster may be stolen by a unit. -/
def mayStealTask (s : State) (isVat : Bool) (u victim : Nat) (k : TaskRef) : Bool :=
  let units := if isVat then [2 * victim, 2 * victim + 1] else (List.range 8).map fun j => 8 * victim + j
  let idle := units.any fun w => unitFree s isVat w && unitRuns s isVat w k
  let writable := (operandIdxs s k).filter fun i => (objAt s i).any (·.rw)
  let others := (liveTasks s).filter fun j => j != k && (runOf s j).any fun r =>
    r.cluster == victim && (r.st == .ready || r.st == .running)
  !idle && !(descOf s k).any (fun d => bit d.affinity 4) && !isBad s k (if isVat then siteVAT else siteTURNER) u &&
    !(streamIdxs s k).any (fun i => (streamOf s i).1 == 2) &&
    !(operandIdxs s k).any (fun i => (objAt s i).any Obj.pinBit) &&
    !writable.any fun i => others.any fun j => (operandIdxs s j).contains i

/-- R219: the clusters in which a unit looks for work, with the tier: the sibling, then the other stacks, hotter first,
then the deeper queue, then the lower number. -/
def victims (s : State) (isVat : Bool) (c : Nat) : List (Nat × Nat) :=
  let far := (List.range 8).filter fun d => d / 2 != c / 2
  let key (d : Nat) : Nat := (2 ^ 16 - tempOf s d) * 2 ^ 32 + (2 ^ 20 - (readyQueue s isVat d).length)
  (c ^^^ 1, 2) :: (sortBy key far).map fun d => (d, 3)

/-- R219: the task that a unit steals, with its cluster and the tier. -/
def stealFrom (s : State) (isVat : Bool) (u : Nat) : Option (TaskRef × Nat × Nat) :=
  (victims s isVat (unitCluster isVat u)).findSome? fun e =>
    ((readyQueue s isVat e.1).find? (mayStealTask s isVat u e.1)).map fun k => (k, e.1, e.2)

/-- R219-R221: TASK_STEAL; the stolen task is not ready in the thief's cluster until R213 holds there. -/
def execTaskSteal (isVat : Bool) (u : Nat) (s : State) : Out :=
  let c := unitCluster isVat u
  .next (if !computeOn s || !unitFree s isVat u || !clusterUp s c || (readyQueue s isVat c).any (unitRuns s isVat u) then s
    else
      match stealFrom s isVat u with
      | none => s
      | some (k, victim, tier) =>
        let s := modQueue s isVat victim fun q => q.filter (· != k)
        let s := { s with gra := if tier = 2 then { s.gra with stealsSib := satAdd32 s.gra.stealsSib 1 }
          else { s.gra with stealsFar := satAdd32 s.gra.stealsFar 1 } }
        placeRequest (modRun s k fun r => { r with cluster := c, stolen := true }) k c)

/-! ## Completion, budgets -/

/-- R218: a running task has reached its completion point. -/
def taskAtEnd (s : State) (k : TaskRef) (d : Desc) (r : Run) : Bool :=
  (r.st == .running || (2 ≤ d.kind && r.st == .ready && r.atEnd)) && r.moves == 0 &&
    (r.atEnd || (d.kind == 1 && s.vats.any fun x => x.bound == some k && x.byTurner.isNone && x.queue.isEmpty &&
      x.feed.isEmpty && x.resid.isEmpty))

/-- R260, R270: what the end of a task sets going: waiting migrations evaluated. -/
def afterTask (s : State) (is : List Nat) : State := is.foldl kickMig s

/-- R218, R228: TASK_COMPLETE. -/
def execTaskComplete (g i : Nat) (s : State) : Out :=
  let k : TaskRef := ⟨g, i⟩
  .next (match descOf s k, runOf s k with
    | some d, some r =>
      if taskAtEnd s k d r then
        let is := operandIdxs s k
        afterTask (settle (endTask s k (if r.exc = 0 then 0 else 1)) g) is
      else s
    | _, _ => s)

/-- R227, R527: OVER_BUDGET; the count is measured outside the model, the event says that it has passed. -/
def execOverBudget (g i : Nat) (s : State) : Out :=
  let k : TaskRef := ⟨g, i⟩
  .next (match descOf s k, runOf s k with
    | some d, some r =>
      if computeOn s && r.st == .running && !r.overB && d.budget != 0 then
        let s := modRun s k fun r => { r with overB := true, overOnce := true }
        if r.overOnce then s else { s with gra := { s.gra with overB := satAdd32 s.gra.overB 1 } }
      else s
    | _, _ => s)

/-- R222, R544: a MOVE task whose engine is faulty runs again, or ends FAULTED after its third attempt. -/
def releaseMove (s : State) (k : TaskRef) (e : Nat) : State :=
  match s.obj.moves.find? (fun m => m.by_ == .task k), runOf s k with
  | some m, some r =>
    if 3 ≤ r.attempts then settle (endTask (dropMove s m) k 2) k.g
    else
      let s := pullMove s m e
      let s := { s with gra := { s.gra with reexec := satAdd32 s.gra.reexec 1 } }
      settle (modRun s k fun r => { r with st := .ready, bad := r.bad ++ [unitCode siteDMA e] }) k.g
  | _, _ => s

/-- R227, R527: BUDGET_HANG; a detected hang fault of the unit, which is released. -/
def execBudgetHang (g i : Nat) (s : State) : Out :=
  let k : TaskRef := ⟨g, i⟩
  .next (match descOf s k, runOf s k with
    | some d, some r =>
      if computeOn s && r.st == .running && d.budget != 0 then
        let s := { s with gra := { s.gra with hangs := satAdd32 s.gra.hangs 1 } }
        if d.kind = 1 then detectVat s r.unit mechBUDGET 0
        else if d.kind = 0 then detectTurner s r.unit mechBUDGET
        else
          releaseMove (queueDet (mkTaskDet s siteDMA r.unit mechBUDGET
            (if 3 ≤ r.attempts then actTASK_FAULTED else actREEXEC) k) s) k r.unit
      else s
    | _, _ => s)

end Sys2Proof.Machine
end

