-- ==== Sys2Proof/Machine/Turner.lean ====
section
/-! DEFINITION. The turners: every instruction of the native encoding, and the events that resume a waiting turner
(chapter 05). A row of this family is the event that turner `t` executes the instruction whose fields it carries. -/

namespace Sys2Proof.Machine

open Sys2Proof

/-! ## Executing an instruction -/

/-- What an instruction does. -/
inductive TRes where
  /-- it retires and the program counter moves to the next instruction -/
  | ok (s : State)
  /-- it retires and the program counter moves to `pc` -/
  | jump (s : State) (pc : Word)
  /-- R194: it ends the task with an exception -/
  | exc (code : Nat)
  /-- it does not retire: the turner waits in the state given -/
  | wait (s : State)

/-- R158, R201, R526: turner `t` can execute an instruction: clocks run, bound, running, not waiting, not halted. -/
def trnReady (s : State) (t : Nat) : Bool :=
  let x := s.trn t
  computeOn s && t < 64 && x.state == 3 && x.wait == .none && !x.halted &&
    x.bound.any fun k => (runOf s k).any fun r => !r.atEnd

/-- One instruction of turner `t`, its effect `f` given the turner and its task. -/
def trnDo (t : Nat) (f : State → Turner → TaskRef → TRes) (s : State) : State :=
  if !trnReady s t then s
  else
    match (s.trn t).bound with
    | none => s
    | some k =>
      match f s (s.trn t) k with
      | .ok u => retire u t ((s.trn t).pc + 4)
      | .jump u pc => retire u t pc
      | .exc code => trnExc s t k code
      | .wait u => u

/-- An instruction that only changes its turner. -/
def trnReg (t : Nat) (f : Turner → Except Nat Turner) (s : State) : State :=
  trnDo t (fun s x _ => match f x with
    | .ok y => .ok (s.modTrn t fun _ => y)
    | .error c => .exc c) s

/-! ## Integer and immediate (R165, R166) -/

/-- R165: INT. -/
def execInt (t : Nat) (f : FmtN) (s : State) : Out :=
  .next (trnReg t (fun x =>
    if f.z ≠ 0 then .error xTRN_ILLEGAL
    else
      match intFn f.fn.toNat f.b (x.s f.a) (x.s f.b) with
      | .ok r => .ok (x.setS f.d r)
      | .error c => .error c) s)

/-- R166: IMM sign-extended to 64 bits. -/
def immS (f : FmtI) : DWord := f.imm.signExtend 64

/-- R166: an immediate form. -/
def immOp (t : Nat) (f : FmtI) (op : DWord → DWord → DWord) (s : State) : State :=
  trnReg t (fun x => .ok (x.setS f.d (op (x.s f.a) (immS f)))) s

/-- R166: ADDI. -/
def execAddi (t : Nat) (f : FmtI) (s : State) : Out := .next (immOp t f (fun a i => a + i) s)

/-- R166: ANDI. -/
def execAndi (t : Nat) (f : FmtI) (s : State) : Out := .next (immOp t f (fun a i => a &&& i) s)

/-- R166: ORI. -/
def execOri (t : Nat) (f : FmtI) (s : State) : Out := .next (immOp t f (fun a i => a ||| i) s)

/-- R166: XORI. -/
def execXori (t : Nat) (f : FmtI) (s : State) : Out := .next (immOp t f (fun a i => a ^^^ i) s)

/-- R166: an immediate shift by IMM[5:0]; IMM[14:6] must be 0. -/
def shiftOp (t : Nat) (f : FmtI) (op : DWord → Nat → DWord) (s : State) : State :=
  trnReg t (fun x =>
    if 64 ≤ f.imm.toNat then .error xTRN_ILLEGAL else .ok (x.setS f.d (op (x.s f.a) f.imm.toNat))) s

/-- R166: SHLI. -/
def execShli (t : Nat) (f : FmtI) (s : State) : Out := .next (shiftOp t f (fun a n => a <<< n) s)

/-- R166: SHRI. -/
def execShri (t : Nat) (f : FmtI) (s : State) : Out := .next (shiftOp t f (fun a n => a >>> n) s)

/-- R166: SRAI. -/
def execSrai (t : Nat) (f : FmtI) (s : State) : Out := .next (shiftOp t f (fun a n => a.sshiftRight n) s)

/-- R166: SLTI. -/
def execSlti (t : Nat) (f : FmtI) (s : State) : Out := .next (immOp t f (fun a i => if a.slt i then 1 else 0) s)

/-- R166: LSH15. -/
def execLsh15 (t : Nat) (f : FmtI) (s : State) : Out :=
  .next (trnReg t (fun x =>
    if f.a ≠ 0 then .error xTRN_ILLEGAL else .ok (x.setS f.d ((x.s f.d <<< 15) + f.imm.zeroExtend 64))) s)

/-! ## Branches and jumps (R167) -/

/-- R167: the target pc + 4 × IMM. -/
def relTarget (pc : Word) (f : FmtI) : Word := pc + 4 * f.imm.signExtend 32

/-- R198: the length of the native body that a task runs. -/
def bodyLen (s : State) (k : TaskRef) : Nat := ((kernelOf s k).map (·.len)).getD 0

/-- R167, R194: a jump to a target in the body; one at or beyond its length is TRN_ADDR. -/
def jumpTo (s : State) (k : TaskRef) (target : Word) (u : State) : TRes :=
  if bodyLen s k ≤ target.toNat then .exc xTRN_ADDR else .jump u target

/-- R167: a branch on the comparison of s[A] with s[D]. -/
def branchOp (t : Nat) (f : FmtI) (c : DWord → DWord → Bool) (s : State) : State :=
  trnDo t (fun s x k => if c (x.s f.a) (x.s f.d) then jumpTo s k (relTarget x.pc f) s else .ok s) s

/-- R167: BEQ. -/
def execBeq (t : Nat) (f : FmtI) (s : State) : Out := .next (branchOp t f (fun a d => a == d) s)

/-- R167: BNE. -/
def execBne (t : Nat) (f : FmtI) (s : State) : Out := .next (branchOp t f (fun a d => a != d) s)

/-- R167: BLT. -/
def execBlt (t : Nat) (f : FmtI) (s : State) : Out := .next (branchOp t f (fun a d => a.slt d) s)

/-- R167: BGE. -/
def execBge (t : Nat) (f : FmtI) (s : State) : Out := .next (branchOp t f (fun a d => !a.slt d) s)

/-- R167: BLTU. -/
def execBltu (t : Nat) (f : FmtI) (s : State) : Out := .next (branchOp t f (fun a d => a.ult d) s)

/-- R167: BGEU. -/
def execBgeu (t : Nat) (f : FmtI) (s : State) : Out := .next (branchOp t f (fun a d => !a.ult d) s)

/-- R155: a program-counter value as a 64-bit number. -/
def pc64 (pc : Word) : DWord := pc.zeroExtend 64

/-- R167: JMP. -/
def execJmp (t : Nat) (f : FmtI) (s : State) : Out :=
  .next (trnDo t (fun s x k => jumpTo s k (relTarget x.pc f) (s.modTrn t fun y => y.setS f.d (pc64 (x.pc + 4)))) s)

/-- R167: JMPR. -/
def execJmpr (t : Nat) (f : FmtI) (s : State) : Out :=
  .next (trnDo t (fun s x k =>
    let target := x.s f.a + 4 * immS f
    if target.toNat % 4 ≠ 0 then .exc xTRN_ALIGN
    else if bodyLen s k ≤ target.toNat then .exc xTRN_ADDR
    else .jump (s.modTrn t fun y => y.setS f.d (pc64 (x.pc + 4))) (target.truncate 32)) s)

/-! ## Loads and stores (R168-R170) -/

/-- R162, R168: the address s[A] + OFF × size, 64 bits. -/
def mAddr (x : Turner) (f : FmtM) (size : Nat) : Nat := (x.s f.a + f.off.signExtend 64 * BitVec.ofNat 64 size).toNat

/-- R156, R168, R169: an access of `n` bytes at an address that must be a multiple of `n`. -/
def access (s : State) (a n : Nat) : Except Nat Win :=
  if a % n ≠ 0 then .error xTRN_ALIGN
  else
    match window s a n with
    | some w => .ok w
    | none => .error xTRN_ADDR

/-- R168, R169: a load of `n` bytes whose bytes `g` puts into the turner. -/
def loadOp (t : Nat) (f : FmtM) (n : Nat) (g : Turner → Bytes → Turner) (s : State) : State :=
  trnDo t (fun s x _ =>
    match access s (mAddr x f n) n with
    | .ok w => .ok (s.modTrn t fun y => g y (winRead s t w n))
    | .error c => .exc c) s

/-- R168, R169: a store of the bytes that `g` takes from the turner. -/
def storeOp (t : Nat) (f : FmtM) (n : Nat) (g : Turner → Bytes) (s : State) : State :=
  trnDo t (fun s x _ =>
    match access s (mAddr x f n) n with
    | .ok w => .ok (winWrite s t w (g x))
    | .error c => .exc c) s

/-- R163: an instruction with an unassigned field. -/
def illegal (t : Nat) (s : State) : State := trnDo t (fun _ _ _ => .exc xTRN_ILLEGAL) s

/-- R168: LD. -/
def execLd (t : Nat) (f : FmtM) (s : State) : Out :=
  .next (if 3 < f.w.toNat then illegal t s
    else loadOp t f (2 ^ f.w.toNat) (fun y bs => y.setS f.t (BitVec.ofInt 64 (sx (8 * 2 ^ f.w.toNat) (leNat bs)))) s)

/-- R168: LDU. -/
def execLdu (t : Nat) (f : FmtM) (s : State) : Out :=
  .next (if 2 < f.w.toNat then illegal t s
    else loadOp t f (2 ^ f.w.toNat) (fun y bs => y.setS f.t (BitVec.ofNat 64 (leNat bs))) s)

/-- R168: ST. -/
def execSt (t : Nat) (f : FmtM) (s : State) : Out :=
  .next (if 3 < f.w.toNat then illegal t s
    else storeOp t f (2 ^ f.w.toNat) (fun x => leBytes (2 ^ f.w.toNat) (x.s f.t).toNat) s)

/-- R169: VLD. -/
def execVld (t : Nat) (f : FmtM) (s : State) : Out :=
  .next (if f.w ≠ 0 then illegal t s else loadOp t f 64 (fun y bs => y.setV f.t.toNat (vOfBytes bs)) s)

/-- R169: VST. -/
def execVst (t : Nat) (f : FmtM) (s : State) : Out :=
  .next (if f.w ≠ 0 then illegal t s else storeOp t f 64 (fun x => vbytes (x.v f.t.toNat)) s)

/-- R170: the runs of bytes that VSTM stores, as offset and bytes. -/
def activeRuns (w : Nat) (p : DWord) (x : VReg) : List (Nat × Bytes) :=
  (elems w x).zipIdx.filterMap fun e => if active p e.2 then some (w / 8 * e.2, leBytes (w / 8) e.1) else none

/-- A window `o` bytes further on. -/
def Win.add (w : Win) (o : Nat) : Win :=
  match w with
  | .scratch a => .scratch (a + o)
  | .near a => .near (a + o)

/-- R170: VSTM. -/
def execVstm (t : Nat) (f : FmtV) (s : State) : Out :=
  .next (if !etOK f.et.toNat || f.vb != 0 || f.fn != 0 then illegal t s
    else trnDo t (fun s x _ =>
      match access s (x.s f.va).toNat 64 with
      | .ok w => .ok ((activeRuns (etBits f.et.toNat) (x.p f.p.toNat) (x.v f.vd.toNat)).foldl
          (fun u r => winWrite u t (w.add r.1) r.2) s)
      | .error c => .exc c) s)

/-- R169: VLDB. -/
def execVldb (t : Nat) (f : FmtM) (s : State) : Out :=
  .next (if 3 < f.w.toNat then illegal t s
    else
      let n := 2 ^ f.w.toNat
      loadOp t f n (fun y bs => y.setV f.t.toNat (vOfBytes (List.replicate (64 / n) bs).flatten)) s)

/-! ## Vector arithmetic (R172-R178) -/

/-- R172: the new elements written to v[D] where active. -/
def Turner.putV (x : Turner) (f : FmtV) (new : List Nat) : Turner :=
  let w := etBits f.et.toNat
  x.setV f.vd.toNat (pack w (merge (x.p f.p.toNat) (elems w (x.v f.vd.toNat)) new))

/-- R174: ET and FN name a function, and ABS and NEG have VB 0. -/
def arithOK (f : FmtV) : Bool :=
  etOK f.et.toNat && (!etFloat f.et.toNat || flFnOK f.fn.toNat) &&
    (!(f.fn.toNat == 13 || f.fn.toNat == 14) || f.vb == 0)

/-- R174: VARITH. -/
def execVarith (t : Nat) (f : FmtV) (s : State) : Out :=
  .next (if !arithOK f then illegal t s
    else trnReg t (fun x =>
      let w := etBits f.et.toNat
      .ok (x.putV f (((elems w (x.v f.va.toNat)).zip (elems w (x.v f.vb.toNat))).map fun e =>
        arithElem f.et.toNat f.fn.toNat e.1 e.2))) s)

/-- R174: VSARITH. -/
def execVsarith (t : Nat) (f : FmtV) (s : State) : Out :=
  .next (if !arithOK f then illegal t s
    else trnReg t (fun x =>
      let w := etBits f.et.toNat
      let b := (x.s f.vb).toNat % 2 ^ w
      .ok (x.putV f ((elems w (x.v f.va.toNat)).map fun e => arithElem f.et.toNat f.fn.toNat e b))) s)

/-- A predicate whose bit `i` is the i-th of a list. -/
def predOf (bs : List Bool) : DWord := BitVec.ofNat 64 (maskOf bs.length fun i => bs.getD i false)

/-- R176: VCMP. -/
def execVcmp (t : Nat) (f : FmtV) (s : State) : Out :=
  .next (if !etOK f.et.toNat || 7 < f.fn.toNat || (etFloat f.et.toNat && 5 < f.fn.toNat) || 7 < f.vd.toNat then illegal t s
    else trnReg t (fun x =>
      let et := f.et.toNat
      let w := etBits et
      let p := x.p f.p.toNat
      let es := (elems w (x.v f.va.toNat)).zip (elems w (x.v f.vb.toNat))
      .ok (x.setP f.vd.toNat (predOf (es.zipIdx.map fun e =>
        active p e.2 && (if etFloat et then cmpFl f.fn.toNat (flOf et e.1.1) (flOf et e.1.2)
          else cmpInt w f.fn.toNat e.1.1 e.1.2))))) s)

/-- R175: one element of a fused multiply-add. -/
def fmaElem (et fn a b c : Nat) : Nat :=
  let p := (flOf et a).mul (flOf et b)
  flTo et (if fn = 0 then p.add (flOf et c) else if fn = 1 then p.add (flOf et c).neg else p.neg.add (flOf et c))

/-- R175: VFMA. -/
def execVfma (t : Nat) (f : FmtX) (s : State) : Out :=
  .next (if 7 < f.fn.toNat || f.fn.toNat % 4 == 3 then illegal t s
    else trnReg t (fun x =>
      let et := if bit f.fn.toNat 2 then 3 else 4
      let w := etBits et
      let g (i : BitVec 5) : List Nat := elems w (x.v i.toNat)
      .ok (x.setV f.d.toNat (pack w (((g f.a).zip ((g f.b).zip (g f.c))).map fun e =>
        fmaElem et (f.fn.toNat % 4) e.1 e.2.1 e.2.2)))) s)

/-- A floating value rounded to an integer of `w` bits, to nearest with ties to even, saturating (R177). -/
def flToInt (w : Nat) (x : Fl) : Nat :=
  match x with
  | .nan => 0
  | .inf neg => wrapTo w (if neg then -2 ^ (w - 1) else 2 ^ (w - 1) - 1)
  | .fin neg m e => wrapTo w (clampTo w (rneInt neg m e))

/-- R177: one element converted; `free` stands where an integer does not fit a narrower integer type, for which the
manual states no result (notes/assumptions/3.md). -/
def convElem (src dst x free : Nat) : Nat :=
  if etFloat dst then
    flTo dst (if etFloat src then flOf src x
      else .fin (sx (etBits src) x < 0) (sx (etBits src) x).natAbs 0)
  else if etFloat src then flToInt (etBits dst) (flOf src x)
  else
    let v := sx (etBits src) x
    if clampTo (etBits dst) v = v then wrapTo (etBits dst) v else free % 2 ^ etBits dst

/-- R177: the field h is legal for source type `src` and target type `dst`. -/
def convOK (src dst h : Nat) : Bool :=
  let ns := etCount src
  let nt := etCount dst
  if nt < ns then h < ns / nt else if ns < nt then h < nt / ns else h == 0

/-- R177: VCVT. -/
def execVcvt (t : Nat) (f : FmtV) (s : State) : Out :=
  let src := f.et.toNat
  let dst := f.fn.toNat
  let h := f.vb.toNat
  .next (if !etOK src || !etOK dst || !convOK src dst h then illegal t s
    else trnDo t (fun s x _ =>
      let ns := etCount src
      let nt := etCount dst
      let w := etBits dst
      let conv := (elems (etBits src) (x.v f.va.toNat)).zipIdx.map fun e =>
        convElem src dst e.1 (Config.free (s.fresh + e.2))
      let old := elems w (x.v f.vd.toNat)
      let new := if nt < ns then (conv.drop (h * nt)).take nt
        else old.take (h * ns) ++ conv ++ old.drop (h * ns + ns)
      let keep := if ns < nt then maskOf 64 fun i => h * ns ≤ i && i < h * ns + ns else 2 ^ 64 - 1
      let p := x.p f.p.toNat &&& BitVec.ofNat 64 keep
      .ok (({ s with fresh := s.fresh + ns }).modTrn t fun y => y.setV f.vd.toNat (pack w (merge p old new)))) s)

/-- R178: the register fields that VMOVE's FN requires to be small or zero are so. -/
def vmoveOK (f : FmtV) : Bool :=
  let fn := f.fn.toNat
  let lo (x : BitVec 5) : Bool := x.toNat < 8
  etOK f.et.toNat && fn ≤ 11 &&
    (match fn with
    | 0 => f.vb == 0
    | 5 => lo f.va && f.p == 0
    | 6 => lo f.vd && f.p == 0
    | 7 => lo f.vd && lo f.va && lo f.vb && f.p == 0
    | 8 => lo f.vd && lo f.va && lo f.vb && f.p == 0
    | 9 => lo f.vd && lo f.va && f.p == 0
    | 11 => !etFloat f.et.toNat
    | _ => true)

/-- R178: VMOVE. IOTA writes the bit pattern of the integer i whatever ET; for a floating ET the manual states no other
(DESIGN CHOICE, notes/assumptions/48.md). -/
def execVmove (t : Nat) (f : FmtV) (s : State) : Out :=
  .next (if !vmoveOK f then illegal t s
    else trnReg t (fun x =>
      let w := etBits f.et.toNat
      let n := etCount f.et.toNat
      let va := elems w (x.v f.va.toNat)
      let vb := elems w (x.v f.vb.toNat)
      let p := x.p f.p.toNat
      let d := f.vd.toNat
      .ok (match f.fn.toNat with
        | 0 => x.putV f va
        | 1 => x.putV f (List.replicate n ((x.s f.va).toNat % 2 ^ w))
        | 2 => x.setS f.vd (BitVec.ofNat 64 (va.getD ((x.s f.vb).toNat % n) 0))
        | 3 => x.setV d (pack w ((elems w (x.v d)).set ((x.s f.vb).toNat % n) ((x.s f.va).toNat % 2 ^ w)))
        | 4 => x.setV d (pack w (merge p vb va))
        | 5 => x.setS f.vd (x.p f.va.toNat)
        | 6 => x.setP d (x.s f.va)
        | 7 => x.setP d (x.p f.va.toNat &&& x.p f.vb.toNat)
        | 8 => x.setP d (x.p f.va.toNat ||| x.p f.vb.toNat)
        | 9 => x.setP d (~~~ x.p f.va.toNat)
        | 10 => x.putV f ((List.range n).map fun i => i % 2 ^ w)
        | _ => x.putV f (vb.map fun i => va.getD (i % n) 0))) s)

/-! ## Reductions (R179) -/

/-- R179: the levels of the tree over the elements of a floating type. -/
def treeLevels (et : Nat) : Nat := if et = 3 then 5 else 4

/-- One level of the tree: adjacent elements added with rounding. -/
def sumPairs (et : Nat) : List Nat → List Nat
  | a :: b :: r => flTo et ((flOf et a).add (flOf et b)) :: sumPairs et r
  | r => r

/-- R179: the floating SUM. -/
def sumTree (et : Nat) : Nat → List Nat → Nat
  | 0, xs => xs.headD 0
  | n + 1, xs => sumTree et n (sumPairs et xs)

/-- R179: whether an active element takes part in MAX, MIN and ARGMAX. -/
def notNan (et x : Nat) : Bool := !etFloat et || flOf et x != .nan

/-- R179: the largest, or the smallest, of active elements. -/
def redExt (et : Nat) (big : Bool) (xs : List Nat) : Nat :=
  let w := etBits et
  if etFloat et then
    flTo et (xs.foldl (fun a x => if big then flMax a (flOf et x) else flMin a (flOf et x)) (.inf big))
  else xs.foldl (fun a x => if (if big then sx w a < sx w x else sx w x < sx w a) then x else a)
    (if big then 2 ^ (w - 1) else 2 ^ (w - 1) - 1)

/-- R179: whether an element is larger than another for ARGMAX. -/
def larger (et x y : Nat) : Bool :=
  if etFloat et then Fl.cmp (flOf et x) (flOf et y) == some .gt else sx (etBits et) y < sx (etBits et) x

/-- R179: ARGMAX of the elements with their indices. -/
def argMaxOf (et : Nat) (xs : List (Nat × Nat)) : DWord :=
  match xs with
  | [] => BitVec.allOnes 64
  | x :: r => BitVec.ofNat 64 (r.foldl (fun b y => if larger et y.1 b.1 then y else b) x).2

/-- R179: the magnitude that an element contributes to MAXABS. -/
def redAbs (et x : Nat) : Nat :=
  if et = 3 then absContribution (65536 * x) / 65536
  else if et = 4 then absContribution x
  else (sx (etBits et) x).natAbs

/-- R179: the result of VRED. -/
def redResult (et fn : Nat) (xs : List Nat) (p : DWord) : DWord :=
  let act := xs.zipIdx.filter fun e => active p e.2
  let ok := act.filter fun e => notNan et e.1
  match fn with
  | 0 => BitVec.ofNat 64 (redExt et true (ok.map (·.1)))
  | 1 => BitVec.ofNat 64 (redExt et false (ok.map (·.1)))
  | 2 =>
    if etFloat et then BitVec.ofNat 64 (sumTree et (treeLevels et) (xs.zipIdx.map fun e => if active p e.2 then e.1 else 0))
    else BitVec.ofInt 64 ((act.map fun e => sx (etBits et) e.1).foldl (· + ·) 0)
  | 3 => BitVec.ofNat 64 (act.foldl (fun a e => max a (redAbs et e.1)) 0)
  | _ => argMaxOf et ok

/-- R179: VRED. -/
def execVred (t : Nat) (f : FmtV) (s : State) : Out :=
  .next (if !etOK f.et.toNat || 4 < f.fn.toNat || f.vb != 0 then illegal t s
    else trnReg t (fun x =>
      .ok (x.setS f.vd (redResult f.et.toNat f.fn.toNat (elems (etBits f.et.toNat) (x.v f.va.toNat)) (x.p f.p.toNat)))) s)

/-! ## Quantise and dequantise (R180-R182) -/

/-- R180: source and destination registers of VQUANT. -/
def quantGroups (fn : Nat) : Nat × Nat :=
  match fn with
  | 0 => (8, 2)
  | 1 => (4, 2)
  | 2 => (8, 2)
  | 3 => (4, 2)
  | 4 => (4, 1)
  | 5 => (2, 1)
  | 6 => (4, 2)
  | 7 => (2, 2)
  | 8 => (2, 8)
  | 9 => (2, 4)
  | 10 => (2, 8)
  | 11 => (2, 4)
  | 12 => (2, 4)
  | _ => (2, 2)

/-- R180: elements of `w` bits of a group of `g` registers. -/
def Turner.group (x : Turner) (i : BitVec 5) (g w : Nat) : List Nat :=
  (List.range g).flatMap fun j => elems w (x.v (i.toNat + j))

/-- R180: elements of `w` bits written to a group of registers. -/
def Turner.setGroup (x : Turner) (i : BitVec 5) (g w : Nat) (xs : List Nat) : Turner :=
  (List.range g).foldl (fun y j => y.setV (i.toNat + j) (pack w ((xs.drop (512 / w * j)).take (512 / w)))) x

/-- R181: what a quantise instruction gives: elements of 8 or 16 bits for the destination, the value for s[C],
saturations and the NaN flag. -/
structure QRes where
  /-- bytes of the destination group, in order -/
  out : List Nat
  /-- for s[C] -/
  res : Nat
  /-- saturations -/
  sat : Nat
  /-- NaN flag -/
  nan : Bool
deriving DecidableEq, Repr, Inhabited

/-- R180-R182: quantise; `supplied` is s[B] where B is not 0, `free` a free value for the scale where the clip ratio is
outside its range and the manual states no scale (notes/assumptions/3.md). -/
def quantise (fn rm : Nat) (supplied : Option Nat) (free : Nat) (xs : List Nat) : QRes :=
  let m := maxAbs xs
  if fn < 4 then
    let q := quantQ8With ((supplied.map (· % 65536)).getD (scaleQ8 m)) rm xs
    { out := q.codes, res := q.scale + (if fn < 2 then 0 else 128 * 65536), sat := q.sat, nan := q.nan }
  else
    let esc := decide (6 ≤ fn)
    let rho := (supplied.map (· % 65536)).getD 0x3F80
    let scale := if esc then (if rhoOK rho then scaleQ4 rho m else free % 65536)
      else (supplied.map (· % 65536)).getD (scaleQ4 0x3F80 m)
    let q := quantQ4With scale rm esc 4 xs
    { out := (packQ4 q.codes).map BitVec.toNat ++ List.replicate 32 0 ++
        (if esc then (q.whey.flatMap fun w => [w % 256, w / 256]) ++ List.replicate (64 - 2 * q.whey.length) 0 else [])
      res := q4Header scale (if esc then 7 else 8) esc q.whey.length, sat := q.sat, nan := q.nan }

/-- R41, R44, R182: the values of a Q4 block under a header, whey entries in order; entries that WHEY_N or the register
does not give are free values. -/
def deq4 (h : Nat) (whey : List Nat) : List Nat → List Nat → List Fl
  | [], _ => []
  | c :: cs, free =>
    if bit h 20 && c == 15 then flOf16 ((whey.head?).getD (free.headD 0 % 65536)) :: deq4 h (whey.drop 1) cs (free.drop 1)
    else dequant (h % 65536) c (bits h 19 16) :: deq4 h whey cs free

/-- R180, R182: the values of a dequantise instruction. -/
def dequantise (x : Turner) (f : FmtX) (free : List Nat) : List Fl :=
  let fn := f.fn.toNat
  let h := (x.s f.b).toNat
  if fn < 10 then (x.group f.a 2 8).map fun c => dequant (h % 65536) c 128
  else if fn < 12 then (x.group f.a 2 8).map fun c => dequant (h % 65536) c (bits h 23 16)
  else
    let codes := ((elems 8 (x.v f.a.toNat)).take 32).flatMap fun b => [b % 16, b / 16]
    deq4 h ((elems 16 (x.v (f.a.toNat + 1))).take (bits h 26 21)) codes free

/-- R180: VQUANT. -/
def execVquant (t : Nat) (f : FmtX) (s : State) : Out :=
  let fn := f.fn.toNat
  let g := quantGroups fn
  .next (if 13 < fn || (8 ≤ fn && f.c != 0) then illegal t s
    else if f.a.toNat % g.1 != 0 || f.d.toNat % g.2 != 0 then trnDo t (fun _ _ _ => .exc xTRN_GROUP) s
    else trnDo t (fun s x k =>
      let f16 := fn % 2 == 1
      if fn < 8 then
        let src := if f16 then (x.group f.a g.1 16).map (· * 65536) else x.group f.a g.1 32
        let q := quantise fn (rmOf s k) (if f.b = 0 then none else some (x.s f.b).toNat) (drawn s) src
        let s := (advance s).modTrn t fun y => (y.setGroup f.d g.2 8 q.out).setS f.c (BitVec.ofNat 64 q.res)
        .ok (countSat s t k q.sat q.nan)
      else
        let free := (List.range 64).map fun i => Config.free (s.fresh + i)
        let vs := dequantise x f free
        .ok (({ s with fresh := s.fresh + 64 }).modTrn t fun y =>
          if f16 then y.setGroup f.d g.2 16 (vs.map to16) else y.setGroup f.d g.2 32 (vs.map to32))) s)

/-! ## Special functions (R183) -/

/-- R183: an FP32 pattern with a subnormal read as a zero. -/
def flushIn (w : Nat) : BitVec 32 := BitVec.ofNat 32 (if bits w 30 23 = 0 then w / 2 ^ 31 * 2 ^ 31 else w)

/-- A finite FP32 value with 200 fraction bits. -/
def fixOf (neg : Bool) (m : Nat) (e : Int) : Int := sgn neg (m * 2 ^ (e + 200).toNat)

/-- The square root of `n`, rounded down, by `k + 1` bits from the highest. -/
def sqrtBits (n : Nat) : Nat → Nat → Nat
  | 0, r => if (r + 1) * (r + 1) ≤ n then r + 1 else r
  | k + 1, r => sqrtBits n k (if (r + 2 ^ (k + 1)) * (r + 2 ^ (k + 1)) ≤ n then r + 2 ^ (k + 1) else r)

/-- 2 to the power of a fraction, with 200 fraction bits: the product of 2^(2^-i) over its first bits; `c` is the last
root taken. -/
def powFrac (frac : Nat) : Nat → Nat → Nat → Nat
  | 0, _, y => y
  | k + 1, c, y =>
    let c := sqrtBits (c * 2 ^ 200) 201 0
    powFrac (2 * frac % 2 ^ 200) k c (if 2 ^ 200 ≤ 2 * frac then y * c / 2 ^ 200 else y)

/-- The base-2 logarithm of `z` in [1, 2), with 200 fraction bits, by squaring. -/
def logFrac : Nat → Nat → Nat → Nat
  | 0, _, _ => 0
  | k + 1, w, z =>
    let q := z * z / 2 ^ 200
    if 2 ^ 201 ≤ q then w + logFrac k (w / 2) (q / 2) else logFrac k (w / 2) q

/-- R183: the exact result of a function, with 200 fraction bits, but for an error below 2⁻⁹⁰ of it. -/
def specExact (fn : Nat) (neg : Bool) (m : Nat) (e : Int) : Int :=
  let x := fixOf neg m e
  if fn = 0 then
    let y := powFrac (x % 2 ^ 200).toNat 100 (2 ^ 201) (2 ^ 200)
    let i := x / 2 ^ 200
    if 0 ≤ i then (y * 2 ^ i.toNat : Nat) else (y / 2 ^ (-i).toNat : Nat)
  else if fn = 1 then sgn neg (2 ^ 400 / x.natAbs)
  else if fn = 2 then (sqrtBits (2 ^ 600 / x.natAbs) 300 0 : Nat)
  else
    let n := m.log2
    (e + (n : Int)) * 2 ^ 200 + (logFrac 100 (2 ^ 199) (m * 2 ^ 200 / 2 ^ n) : Nat)

/-- R183: the error allowed, with 200 fraction bits: 2 ULP, 1 of RCP, and 2⁻²² of LOG2 within [0.5, 2]. The 2⁻²⁰ part of it
that is added covers the error of `specExact`. -/
def specTol (fn r : Nat) (x : Int) : Nat :=
  let ulp := 2 ^ (bits r 30 23 + 50)
  let t := if fn = 1 then ulp else if fn = 3 ∧ 2 ^ 199 ≤ x ∧ x ≤ 2 ^ 201 then 2 ^ 178 else 2 * ulp
  t + t / 2 ^ 20

/-- R183: the fixed mapping's value where it keeps the bound, else the exact result rounded (notes/assumptions/11.md). -/
def bounded (fn v : Nat) (neg : Bool) (m : Nat) (e : Int) : Nat :=
  let y := specExact fn neg m e
  let r := b2n (y < 0) * 2 ^ 31 + roundMag 24 y.natAbs 1 (-200)
  match flOf32 v with
  | .fin a n f => if (fixOf a n f - y).natAbs ≤ specTol fn r (fixOf neg m e) then v else r
  | _ => r

/-- R183: the FP32 result of a function; the special values are the manual's, the rest is the fixed mapping of Config,
within the bounds (notes/assumptions/11.md). -/
def specFn (fn w : Nat) : Nat :=
  let x := flOf32 w
  let lt (a b : Fl) : Bool := Fl.cmp a b == some .lt
  let inf : Nat := 0x7F800000
  match x with
  | .nan => nan32
  | x =>
    if fn = 0 then
      if lt x (.fin true 126 0) then 0
      else if !lt x (.fin false 128 0) then inf
      else
        match x with
        | .fin neg m e => bounded 0 (Config.exp2 (flushIn w)).toNat neg m e
        | _ => nan32
    else if fn = 1 then
      match x with
      | .inf neg => b2n neg * 2 ^ 31
      | .fin neg 0 _ => b2n neg * 2 ^ 31 + inf
      | .fin neg m e => if lt (.fin false 1 126) x.abs then b2n neg * 2 ^ 31 else bounded 1 (Config.rcp (flushIn w)).toNat neg m e
      | .nan => nan32
    else
      match x with
      | .inf neg => if neg then nan32 else if fn = 2 then 0 else inf
      | .fin _ 0 _ => if fn = 2 then inf else 0xFF800000
      | .fin neg m e =>
        if neg then nan32
        else if fn = 2 then bounded 2 (Config.rsqrt (flushIn w)).toNat neg m e
        else if w = 0x3F800000 then 0
        else bounded 3 (Config.log2 (flushIn w)).toNat neg m e
      | .nan => nan32

/-- R183: VSPEC. -/
def execVspec (t : Nat) (f : FmtV) (s : State) : Out :=
  let et := f.et.toNat
  .next (if !(et == 3 || et == 4) || 3 < f.fn.toNat || f.vb != 0 then illegal t s
    else trnReg t (fun x =>
      .ok (x.putV f ((elems (etBits et) (x.v f.va.toNat)).map fun e =>
        if et = 3 then bf16Of32 (specFn f.fn.toNat (65536 * e)) else specFn f.fn.toNat e))) s)

/-! ## Selection (R184, R185) -/

/-- R185: whether an offered value sorts before an entry: larger value, or an equal one of a lower index. -/
def sortsBefore (a b : Nat × Nat) : Bool :=
  match Fl.cmp (flOf32 a.1) (flOf32 b.1) with
  | some .gt => true
  | some .eq => a.2 < b.2
  | _ => false

/-- R185: one value offered to the buffer. -/
def TopK.offer (b : TopK) (v i : Nat) : TopK :=
  if flOf32 v = .nan then b
  else
    let ents := b.ents.takeWhile (fun e => !sortsBefore (v, i) e) ++ (v, i) ::
      b.ents.dropWhile fun e => !sortsBefore (v, i) e
    { b with ents := ents.take b.k }

/-- R184: the running sums of PSUM. -/
def prefixSums : Nat → List Nat → List Nat
  | _, [] => []
  | a, x :: xs => f32Add a x :: prefixSums (f32Add a x) xs

/-- R184: the fields that an operation of VSEL does not name are 0. -/
def vselOK (f : FmtX) : Bool :=
  match f.fn.toNat with
  | 0 => f.b == 0 && f.c == 0 && f.d == 0
  | 1 => f.c == 0 && f.d == 0
  | 2 => f.a == 0 && f.c == 0
  | 3 => f.a == 0 && f.b == 0 && f.c == 0
  | 4 => true
  | _ => false

/-- R184: VSEL. TKOUT with s[B] above 3 names positions beyond any entry held and writes what R185 has there (DESIGN
CHOICE, notes/assumptions/48.md); an odd D is TRN_GROUP. -/
def execVsel (t : Nat) (f : FmtX) (s : State) : Out :=
  .next (if !vselOK f then illegal t s
    else trnReg t (fun x =>
      match f.fn.toNat with
      | 0 =>
        let k := (x.s f.a).toNat
        if k = 0 ∨ 64 < k then .error xTRN_TOPK else .ok { x with topk := some { k := k, ents := [] } }
      | 1 =>
        match x.topk with
        | none => .error xTRN_TOPK
        | some b => .ok { x with topk := some ((elems 32 (x.v f.a.toNat)).zipIdx.foldl
            (fun b e => b.offer e.1 (((x.s f.b).toNat + e.2) % 2 ^ 32)) b) }
      | 2 =>
        if f.d.toNat % 2 ≠ 0 then .error xTRN_GROUP
        else
          match x.topk with
          | none => .error xTRN_TOPK
          | some b =>
            let e (i : Nat) : Nat × Nat := (b.ents[16 * (x.s f.b).toNat + i]?).getD (0xFF800000, max32)
            .ok ((x.setV f.d.toNat (pack 32 ((List.range 16).map fun i => (e i).1))).setV (f.d.toNat + 1)
              (pack 32 ((List.range 16).map fun i => (e i).2)))
      | 3 =>
        match x.topk with
        | none => .error xTRN_TOPK
        | some b => .ok (x.setS f.d (BitVec.ofNat 64 b.ents.length))
      | _ =>
        let ps := prefixSums ((x.s f.b).toNat % 2 ^ 32) (elems 32 (x.v f.a.toNat))
        .ok ((x.setV f.d.toNat (pack 32 ps)).setS f.c (BitVec.ofNat 64 (ps.getLast?.getD 0)))) s)

/-! ## Random numbers (R186) -/

/-- R186: one round of mix. -/
def mixRound (key : DWord) (x : DWord) (i : Nat) : DWord :=
  let x := x + key.rotateLeft (11 * i + 5)
  let x := x ^^^ (x >>> 29)
  let x := x * 0xA3C59AC2E74B6D27
  x ^^^ (x >>> 32)

/-- R186: mix(key, ctr), a 32-bit word. -/
def mix (key ctr : DWord) : Nat := (([0, 1, 2, 3].foldl (mixRound key) (ctr ^^^ key)) >>> 32).toNat

/-- R186: the FP32 value (word ÷ 2⁸) × 2⁻²⁴. -/
def unitF32 (w : Nat) : Nat := to32 (.fin false (w / 256) (-24))

/-- R186: VRAND. -/
def execVrand (t : Nat) (f : FmtX) (s : State) : Out :=
  .next (if f.c != 0 || 1 < f.fn.toNat then illegal t s
    else trnReg t (fun x =>
      .ok (x.setV f.d.toNat (pack 32 ((List.range 16).map fun i =>
        let w := mix (x.s f.b) (x.s f.a + BitVec.ofNat 64 i)
        if f.fn = 0 then w else unitF32 w)))) s)

/-! ## Issuing vat commands and moves (R187-R189) -/

/-- R111, R187: a command put into the queue of a vat, with the RM field replaced. -/
def vatPush (s : State) (v : Nat) (k : TaskRef) (w : BitVec 128) : State :=
  askGrant (s.modVat v fun x => { x with queue := x.queue ++ [withRM (rmOf s k) w] }) v

/-- R187: VISSUE. -/
def execVissue (t : Nat) (f : FmtN) (s : State) : Out :=
  .next (if f.d != 0 || f.fn != 0 || f.z != 0 then illegal t s
    else trnDo t (fun s x k =>
      match x.vat with
      | none => .exc xTRN_NOVAT
      | some v =>
        let w : BitVec 128 := x.s f.b ++ x.s f.a
        if 32 ≤ (s.vat v).queue.length then .wait (s.modTrn t fun y => { y with wait := .vissue w, state := 4 })
        else .ok (vatPush s v k w)) s)

/-- R111: VISSUE_RESUME. -/
def execVissueResume (t : Nat) (s : State) : Out :=
  let x := s.trn t
  .next (match x.wait, x.vat, x.bound with
    | .vissue w, some v, some k =>
      if trnWaiting s t && decide ((s.vat v).queue.length < 32) then
        retire (vatPush (s.modTrn t fun y => { y with wait := .none, state := 3 }) v k w) t (x.pc + 4)
      else s
    | _, _, _ => s)

/-- R189: the moves of a turner not yet completed. -/
def turnerMoves (s : State) (t : Nat) : Nat :=
  (s.obj.moves.filter fun m => match m.by_ with
    | .turner u _ => u == t
    | .task _ => false).length

/-- R188, R189: a move request read, checked and issued, or the exception. -/
def dissueAt (s : State) (t : Nat) (k : TaskRef) (w : Win) (pc : Nat) : Except Nat State :=
  let q := moveReqOf (winRead s t w 32)
  match checkMove s k true q with
  | some c => .error c
  | none => .ok (issueMove s k (.turner t k) (some (clusterOfTrn t)) pc q)

/-- R188: DISSUE. -/
def execDissue (t : Nat) (f : FmtN) (s : State) : Out :=
  .next (if f.d != 0 || f.b != 0 || f.fn != 0 || f.z != 0 then illegal t s
    else trnDo t (fun s x k =>
      match access s (x.s f.a).toNat 32 with
      | .error c => .exc c
      | .ok w =>
        if 16 ≤ turnerMoves s t then
          .wait (s.modTrn t fun y => { y with wait := .dissue (x.s f.a).toNat, state := 4 })
        else
          match dissueAt s t k w x.pc.toNat with
          | .ok u => .ok u
          | .error c => .exc c) s)

/-- R189: DISSUE_RESUME. -/
def execDissueResume (t : Nat) (s : State) : Out :=
  let x := s.trn t
  .next (match x.wait, x.bound with
    | .dissue a, some k =>
      if trnWaiting s t && decide (turnerMoves s t < 16) then
        let u := s.modTrn t fun y => { y with wait := .none, state := 3 }
        match access u a 32 with
        | .error c => trnExc u t k c
        | .ok w =>
          match dissueAt u t k w x.pc.toNat with
          | .ok u => retire u t (x.pc + 4)
          | .error c => trnExc u t k c
      else s
    | _, _ => s)

/-! ## Sync and task control (R190-R193) -/

/-- R190: the counter that a sync instruction names. -/
def syncName (x : Turner) (f : FmtS) : Nat := (f.num.toNat + (x.s f.a).toNat) % 4096

/-- R190: SWAIT. -/
def execSwait (t : Nat) (f : FmtS) (s : State) : Out :=
  .next (if f.fn ≠ 0 then s
    else trnDo t (fun s x k =>
      let c := syncName x f
      if !allocated s k.g c then .exc xTRN_SYNC
      else if (x.s f.d).toNat ≤ counter s c then .ok s
      else .wait (s.modTrn t fun y => { y with wait := .swait c (x.s f.d).toNat, state := 4 })) s)

/-- R190: SWAIT_RESUME. -/
def execSwaitResume (t : Nat) (s : State) : Out :=
  let x := s.trn t
  .next (match x.wait with
    | .swait c thr =>
      if trnWaiting s t && decide (thr ≤ counter s c) then
        retire (s.modTrn t fun y => { y with wait := .none, state := 3 }) t (x.pc + 4)
      else s
    | _ => s)

/-- R200: a turner in WAIT. -/
def trnWaits (s : State) (t : Nat) (w : TrnWait) : State := s.modTrn t fun y => { y with wait := w, state := 4 }

/-- R190, R191: SSIG; until the conditions of R191 hold it waits, and `trnProceed` sends the signal when they do. -/
def execSsig (t : Nat) (f : FmtS) (s : State) : Out :=
  .next (if f.fn ≠ 1 then s
    else if f.d ≠ 0 then illegal t s
    else trnDo t (fun s x k =>
      let c := syncName x f
      if !allocated s k.g c || !maySignal s k c then .exc xTRN_SYNC
      else if issuedDone s x k then .ok (settle (taskSignal s k c) k.g)
      else .wait (trnWaits s t (.ssig c))) s)

/-- R190: SPOLL. -/
def execSpoll (t : Nat) (f : FmtS) (s : State) : Out :=
  .next (if f.fn ≠ 2 then s
    else trnDo t (fun s x k =>
      let c := syncName x f
      if !allocated s k.g c then .exc xTRN_SYNC
      else .ok (s.modTrn t fun y => y.setS f.d (BitVec.ofNat 64 (counter s c)))) s)

/-- R192, R218: TEND; until the conditions of R191 hold it waits (`trnProceed`). The task ends by TASK_COMPLETE. -/
def execTend (t : Nat) (f : FmtS) (s : State) : Out :=
  .next (if f.fn ≠ 0 then s
    else if f.d ≠ 0 ∨ f.a ≠ 0 ∨ f.num ≠ 0 then illegal t s
    else trnDo t (fun s x k =>
      if issuedDone s x k then .ok (modRun s k fun r => { r with atEnd := true }) else .wait (trnWaits s t .tend)) s)

/-- R192, R193: TYIELD; until the conditions of R191 hold it waits (`trnProceed`). -/
def execTyield (t : Nat) (f : FmtS) (s : State) : Out :=
  .next (if f.fn ≠ 1 then s
    else trnDo t (fun s x k =>
      let c := syncName x f
      if !allocated s k.g c then .exc xTRN_SYNC
      else if issuedDone s x k then .ok (yieldTask s t k c (x.s f.d).toNat)
      else .wait (trnWaits s t (.tyield c (x.s f.d).toNat))) s)

/-- R193: TYIELD_RESUME: a suspended task whose counter has reached its threshold resumes on a free turner of its
cluster; its vat is bound anew. -/
def execTyieldResume (t g i : Nat) (s : State) : Out :=
  let k : TaskRef := ⟨g, i⟩
  .next (match runOf s k, descOf s k with
    | some r, some d =>
      match r.saved with
      | some sv =>
        if computeOn s && r.st == .suspended && trnFree s t && clusterOfTrn t == r.cluster &&
            decide (sv.thr ≤ counter s sv.cnt) && !isBad s k siteTURNER t then
          let ch := if d.vatBit then chooseVat s k r.cluster else (none, s)
          if d.vatBit && ch.1.isNone then s
          else
            let s := modRun ch.2 k fun r => { r with st := .running, unit := t, saved := none }
            let s := s.modTrn t fun x =>
              { x.begin k (collOf s k) sv.pc ch.1 with sreg := sv.sreg, vreg := sv.vreg, preg := sv.preg }
            match ch.1 with
            | some v => bindVat s v k (some t) []
            | none => s
        else s
      | none => s
    | _, _ => s)

/-- R192: TRAP; NUM is reported as the user code, in the task's standing: the completion entry has no field for it
(notes/assumptions/48.md). -/
def execTrap (t : Nat) (f : FmtS) (s : State) : Out :=
  .next (if f.fn ≠ 2 then s
    else if f.d ≠ 0 ∨ f.a ≠ 0 then illegal t s
    else trnDo t (fun s _ k =>
      .wait (trnExc (modRun s k fun r => { r with userCode := f.num.toNat }) t k xTRN_TRAP)) s)

/-- R158: the value of a system register; none where NUM is unassigned. -/
def sysReg (s : State) (t : Nat) (x : Turner) (k : TaskRef) (num : Nat) : Option Nat :=
  let c := clusterOfTrn t
  if num = 0 then some t
  else if num = 1 then some c
  else if num = 2 then some (x.vat.getD 0xFF)
  else if num = 3 then some k.i
  else if num = 4 then some (collOf s k)
  else if num = 5 then some (rmOf s k)
  else if num = 0x10 then some (drawn s % 2 ^ 64)
  else if num = 0x11 then some x.sat
  else if num = 0x12 then some (b2n x.nan)
  else if 0x20 ≤ num ∧ num < 0x28 then
    some (match operandObj s k (num - 0x20) with
      | some (_, o) => if o.inNear c then o.nearOff c else 2 ^ 64 - 1
      | none => 2 ^ 64 - 1)
  else if 0x28 ≤ num ∧ num < 0x30 then
    some (((operandObj s k (num - 0x28)).map fun p => p.2.size).getD 0)
  else none

/-- R158, R192: SYSR; SR_CYCLE is measured, a free value (notes/assumptions/12.md). -/
def execSysr (t : Nat) (f : FmtS) (s : State) : Out :=
  .next (if f.fn ≠ 3 then s
    else if f.a ≠ 0 then illegal t s
    else trnDo t (fun s x k =>
      match sysReg s t x k f.num.toNat with
      | some v => .ok ((if f.num = 0x10 then advance s else s).modTrn t fun y => y.setS f.d (BitVec.ofNat 64 v))
      | none => .exc xTRN_ILLEGAL) s)

/-- R163, R164: the assigned major opcodes. -/
def opAssigned (op : Nat) : Bool :=
  op == 0x01 || (2 ≤ op && op ≤ 0x0A) || (0x10 ≤ op && op ≤ 0x17) || (0x20 ≤ op && op ≤ 0x26) ||
    (0x30 ≤ op && op ≤ 0x35) || op == 0x38 || op == 0x3C || op == 0x3E || op == 0x40 || op == 0x44 || op == 0x48 ||
    op == 0x49 || op == 0x50 || op == 0x54


end Sys2Proof.Machine
end

