-- ==== Sys2Proof/Machine/TrnDecode.lean ====
section
/-! DEFINITION. The turner's instruction words: which command a word is (R162, R164) and whether a word is legal
(R163). The trace step and the loader of kernels read words through it. -/

namespace Sys2Proof.Machine

open Sys2Proof

/-- R162: format N. -/
def fieldsN (w : BitVec 32) : FmtN :=
  { d := w.extractLsb' 27 5, a := w.extractLsb' 22 5, b := w.extractLsb' 17 5, fn := w.extractLsb' 10 7,
    z := w.extractLsb' 7 3 }

/-- R162: format I. -/
def fieldsI (w : BitVec 32) : FmtI := { d := w.extractLsb' 27 5, a := w.extractLsb' 22 5, imm := w.extractLsb' 7 15 }

/-- R162: format M. -/
def fieldsM (w : BitVec 32) : FmtM :=
  { t := w.extractLsb' 27 5, a := w.extractLsb' 22 5, w := w.extractLsb' 19 3, off := w.extractLsb' 7 12 }

/-- R162: format V. -/
def fieldsV (w : BitVec 32) : FmtV :=
  { vd := w.extractLsb' 27 5, va := w.extractLsb' 22 5, vb := w.extractLsb' 17 5, p := w.extractLsb' 14 3,
    et := w.extractLsb' 11 3, fn := w.extractLsb' 7 4 }

/-- R162: format X. -/
def fieldsX (w : BitVec 32) : FmtX :=
  { d := w.extractLsb' 27 5, a := w.extractLsb' 22 5, b := w.extractLsb' 17 5, c := w.extractLsb' 12 5,
    fn := w.extractLsb' 7 5 }

/-- R162: format S. -/
def fieldsS (w : BitVec 32) : FmtS :=
  { d := w.extractLsb' 27 5, a := w.extractLsb' 22 5, num := w.extractLsb' 10 12, fn := w.extractLsb' 7 3 }

/-- R164: the command that turner `t` meets in a word; a word with no meaning is TRN_ILLEGAL. -/
def decodeTrn (t : Nat) (w : BitVec 32) : Instr :=
  match w.toNat % 128 with
  | 0x01 => .int t (fieldsN w)
  | 0x02 => .addi t (fieldsI w)
  | 0x03 => .andi t (fieldsI w)
  | 0x04 => .ori t (fieldsI w)
  | 0x05 => .xori t (fieldsI w)
  | 0x06 => .shli t (fieldsI w)
  | 0x07 => .shri t (fieldsI w)
  | 0x08 => .srai t (fieldsI w)
  | 0x09 => .slti t (fieldsI w)
  | 0x0A => .lsh15 t (fieldsI w)
  | 0x10 => .beq t (fieldsI w)
  | 0x11 => .bne t (fieldsI w)
  | 0x12 => .blt t (fieldsI w)
  | 0x13 => .bge t (fieldsI w)
  | 0x14 => .bltu t (fieldsI w)
  | 0x15 => .bgeu t (fieldsI w)
  | 0x16 => .jmp t (fieldsI w)
  | 0x17 => .jmpr t (fieldsI w)
  | 0x20 => .ld t (fieldsM w)
  | 0x21 => .ldu t (fieldsM w)
  | 0x22 => .st t (fieldsM w)
  | 0x23 => .vld t (fieldsM w)
  | 0x24 => .vst t (fieldsM w)
  | 0x25 => .vstm t (fieldsV w)
  | 0x26 => .vldb t (fieldsM w)
  | 0x30 => .varith t (fieldsV w)
  | 0x31 => .vsarith t (fieldsV w)
  | 0x32 => .vcmp t (fieldsV w)
  | 0x33 => .vfma t (fieldsX w)
  | 0x34 => .vcvt t (fieldsV w)
  | 0x35 => .vmove t (fieldsV w)
  | 0x38 => .vred t (fieldsV w)
  | 0x3C => .vquant t (fieldsX w)
  | 0x3E => .vspec t (fieldsV w)
  | 0x40 => .vsel t (fieldsX w)
  | 0x44 => .vrand t (fieldsX w)
  | 0x48 => .vissue t (fieldsN w)
  | 0x49 => .dissue t (fieldsN w)
  | 0x50 =>
    match (fieldsS w).fn.toNat with
    | 0 => .swait t (fieldsS w)
    | 1 => .ssig t (fieldsS w)
    | 2 => .spoll t (fieldsS w)
    | _ => .trnIllegal t w
  | 0x54 =>
    match (fieldsS w).fn.toNat with
    | 0 => .tend t (fieldsS w)
    | 1 => .tyield t (fieldsS w)
    | 2 => .trap t (fieldsS w)
    | 3 => .sysr t (fieldsS w)
    | _ => .trnIllegal t w
  | _ => .trnIllegal t w

/-- R162: format N with a major opcode. -/
def wordN (op : BitVec 7) (f : FmtN) : BitVec 32 := f.d ++ f.a ++ f.b ++ f.fn ++ f.z ++ op

/-- R162: format I with a major opcode. -/
def wordI (op : BitVec 7) (f : FmtI) : BitVec 32 := f.d ++ f.a ++ f.imm ++ op

/-- R162: format M with a major opcode. -/
def wordM (op : BitVec 7) (f : FmtM) : BitVec 32 := f.t ++ f.a ++ f.w ++ f.off ++ op

/-- R162: format V with a major opcode. -/
def wordV (op : BitVec 7) (f : FmtV) : BitVec 32 := f.vd ++ f.va ++ f.vb ++ f.p ++ f.et ++ f.fn ++ op

/-- R162: format X with a major opcode. -/
def wordX (op : BitVec 7) (f : FmtX) : BitVec 32 := f.d ++ f.a ++ f.b ++ f.c ++ f.fn ++ op

/-- R162: format S with a major opcode. -/
def wordS (op : BitVec 7) (f : FmtS) : BitVec 32 := f.d ++ f.a ++ f.num ++ f.fn ++ op

/-- R163: a word whose opcode, or whose function of a sync or task-control opcode, is unassigned. -/
def wordUnassigned (w : BitVec 32) : Bool :=
  let op := w.toNat % 128
  !opAssigned op || (op == 0x50 && 3 ≤ bits w.toNat 9 7) || (op == 0x54 && 4 ≤ bits w.toNat 9 7)

/-- R162, R164: the turner and the word of a command that is the execution of an instruction word; a command whose fields
no word spells, and any other command, has none. -/
def trnWord : Instr → Option (Nat × BitVec 32)
  | .int t f => some (t, wordN 0x01 f)
  | .addi t f => some (t, wordI 0x02 f)
  | .andi t f => some (t, wordI 0x03 f)
  | .ori t f => some (t, wordI 0x04 f)
  | .xori t f => some (t, wordI 0x05 f)
  | .shli t f => some (t, wordI 0x06 f)
  | .shri t f => some (t, wordI 0x07 f)
  | .srai t f => some (t, wordI 0x08 f)
  | .slti t f => some (t, wordI 0x09 f)
  | .lsh15 t f => some (t, wordI 0x0A f)
  | .beq t f => some (t, wordI 0x10 f)
  | .bne t f => some (t, wordI 0x11 f)
  | .blt t f => some (t, wordI 0x12 f)
  | .bge t f => some (t, wordI 0x13 f)
  | .bltu t f => some (t, wordI 0x14 f)
  | .bgeu t f => some (t, wordI 0x15 f)
  | .jmp t f => some (t, wordI 0x16 f)
  | .jmpr t f => some (t, wordI 0x17 f)
  | .ld t f => some (t, wordM 0x20 f)
  | .ldu t f => some (t, wordM 0x21 f)
  | .st t f => some (t, wordM 0x22 f)
  | .vld t f => some (t, wordM 0x23 f)
  | .vst t f => some (t, wordM 0x24 f)
  | .vstm t f => some (t, wordV 0x25 f)
  | .vldb t f => some (t, wordM 0x26 f)
  | .varith t f => some (t, wordV 0x30 f)
  | .vsarith t f => some (t, wordV 0x31 f)
  | .vcmp t f => some (t, wordV 0x32 f)
  | .vfma t f => some (t, wordX 0x33 f)
  | .vcvt t f => some (t, wordV 0x34 f)
  | .vmove t f => some (t, wordV 0x35 f)
  | .vred t f => some (t, wordV 0x38 f)
  | .vquant t f => some (t, wordX 0x3C f)
  | .vspec t f => some (t, wordV 0x3E f)
  | .vsel t f => some (t, wordX 0x40 f)
  | .vrand t f => some (t, wordX 0x44 f)
  | .vissue t f => some (t, wordN 0x48 f)
  | .dissue t f => some (t, wordN 0x49 f)
  | .swait t f => if f.fn = 0 then some (t, wordS 0x50 f) else none
  | .ssig t f => if f.fn = 1 then some (t, wordS 0x50 f) else none
  | .spoll t f => if f.fn = 2 then some (t, wordS 0x50 f) else none
  | .tend t f => if f.fn = 0 then some (t, wordS 0x54 f) else none
  | .tyield t f => if f.fn = 1 then some (t, wordS 0x54 f) else none
  | .trap t f => if f.fn = 2 then some (t, wordS 0x54 f) else none
  | .sysr t f => if f.fn = 3 then some (t, wordS 0x54 f) else none
  | .trnIllegal t w => if wordUnassigned w then some (t, w) else none
  | _ => none

/-- R158: the assigned system registers. -/
def sysAssigned (n : Nat) : Bool := n ≤ 5 || (0x10 ≤ n && n ≤ 0x12) || (0x20 ≤ n && n < 0x30)

/-- R163: every field of the instruction is assigned and its reserved bits are 0. -/
def trnLegal : Instr → Bool
  | .int _ f => f.z == 0 && f.fn.toNat ≤ 0x11 && (f.fn.toNat < 0x10 || f.b == 0)
  | .shli _ f => f.imm.toNat < 64
  | .shri _ f => f.imm.toNat < 64
  | .srai _ f => f.imm.toNat < 64
  | .lsh15 _ f => f.a == 0
  | .ld _ f => f.w.toNat ≤ 3
  | .ldu _ f => f.w.toNat ≤ 2
  | .st _ f => f.w.toNat ≤ 3
  | .vld _ f => f.w == 0
  | .vst _ f => f.w == 0
  | .vstm _ f => etOK f.et.toNat && f.vb == 0 && f.fn == 0
  | .vldb _ f => f.w.toNat ≤ 3
  | .varith _ f => arithOK f
  | .vsarith _ f => arithOK f
  | .vcmp _ f => etOK f.et.toNat && f.fn.toNat ≤ 7 && (!etFloat f.et.toNat || f.fn.toNat ≤ 5) && f.vd.toNat ≤ 7
  | .vfma _ f => f.fn.toNat ≤ 7 && f.fn.toNat % 4 != 3
  | .vcvt _ f => etOK f.et.toNat && etOK f.fn.toNat && convOK f.et.toNat f.fn.toNat f.vb.toNat
  | .vmove _ f => vmoveOK f
  | .vred _ f => etOK f.et.toNat && f.fn.toNat ≤ 4 && f.vb == 0
  | .vquant _ f => f.fn.toNat ≤ 13 && (f.fn.toNat < 8 || f.c == 0)
  | .vspec _ f => (f.et.toNat == 3 || f.et.toNat == 4) && f.fn.toNat ≤ 3 && f.vb == 0
  | .vsel _ f => vselOK f
  | .vrand _ f => f.c == 0 && f.fn.toNat ≤ 1
  | .vissue _ f => f.d == 0 && f.fn == 0 && f.z == 0
  | .dissue _ f => f.d == 0 && f.b == 0 && f.fn == 0 && f.z == 0
  | .ssig _ f => f.d == 0
  | .tend _ f => f.d == 0 && f.a == 0 && f.num == 0
  | .trap _ f => f.d == 0 && f.a == 0
  | .sysr _ f => f.a == 0 && sysAssigned f.num.toNat
  | .trnIllegal .. => false
  | _ => true

/-- R163: a word is legal. -/
def wordLegal (w : BitVec 32) : Bool := trnLegal (decodeTrn 0 w)

/-- R163: TRN_ILLEGAL: an OP that is unassigned, an FN, W, ET or NUM unassigned for its OP, or reserved bits that are
not 0. -/
def execTrnIllegal (t : Nat) (w : BitVec 32) (s : State) : Out := .next (if wordLegal w then s else illegal t s)

/-- R198: the target of a branch or JMP. -/
def branchTarget (pc : Nat) (w : BitVec 32) : Option Int :=
  let rel (f : FmtI) : Option Int := some ((pc : Int) + 4 * f.imm.toInt)
  match decodeTrn 0 w with
  | .beq _ f => rel f
  | .bne _ f => rel f
  | .blt _ f => rel f
  | .bge _ f => rel f
  | .bltu _ f => rel f
  | .bgeu _ f => rel f
  | .jmp _ f => rel f
  | _ => none

/-- R163, R198: the offsets that can follow the word at `pc` by static control flow: the target of a branch, and the next
word but after a jump that saves no return, a register jump, TEND and TRAP. -/
def staticNext (pc : Nat) (w : BitVec 32) : List Int :=
  (branchTarget pc w).toList ++
    (match decodeTrn 0 w with
    | .jmp _ f => if f.d = 0 then [] else [(pc : Int) + 4]
    | .jmpr .. => []
    | .tend .. => []
    | .trap .. => []
    | _ => [(pc : Int) + 4])

/-- R198: the operand that a word names: of an instruction, SYSR names one by SR_OPNDi and SR_OPSZi. -/
def namedOperand (w : BitVec 32) : Option Nat :=
  match decodeTrn 0 w with
  | .sysr _ f => if 0x20 ≤ f.num.toNat ∧ f.num.toNat < 0x30 then some (f.num.toNat % 8) else none
  | _ => none

/-- R198: the words reachable by static control flow from the entry that are at fault, by `fault`, which also ends their
path. `todo` are the offsets still to be looked at. -/
def bodyScan (len : Nat) (word : Nat → BitVec 32) (fault : Nat → BitVec 32 → Bool) :
    Nat → List Nat → List Nat → List Nat → List Nat
  | 0, _, _, bad => bad
  | _ + 1, [], _, bad => bad
  | fuel + 1, pc :: todo, seen, bad =>
    if seen.contains pc then bodyScan len word fault fuel todo seen bad
    else
      let w := word pc
      if fault pc w then bodyScan len word fault fuel todo (pc :: seen) (pc :: bad)
      else bodyScan len word fault fuel
        (((staticNext pc w).filter fun n => 0 ≤ n && n < (len : Int)).map Int.toNat ++ todo) (pc :: seen) bad

/-- R163, R198: FORMAT: an illegal word, or a static branch target outside the body. -/
def wordFault (len pc : Nat) (w : BitVec 32) : Bool :=
  !wordLegal w || (branchTarget pc w).any fun n => n < 0 || (len : Int) ≤ n

end Sys2Proof.Machine
end

