-- ==== Sys2Proof/Machine/Portable.lean ====
section
/-! DEFINITION. The portable contract 1 (R196, R198): the operations that a portable body may hold, their constraints, and
the checks of the loader. The bytes of a body are read by an opaque function, since the manual does not give their encoding
(notes/assumptions/14.md). -/

namespace Sys2Proof.Machine

open Sys2Proof

/-- R196: element types. -/
inductive PElem where
  | q4
  | q8w
  | q8a
  | q8kv
  | bf16
  | fp32
  | int8
  | int16
  | int32
deriving DecidableEq, Repr, Inhabited

/-- R196: a logical tensor; `operand` is the object operand in which it lies, if one does. -/
structure PTensor where
  /-- element type -/
  elem : PElem
  /-- dimensions, the last one last -/
  dims : List Nat
  /-- object operand -/
  operand : Option Nat
deriving DecidableEq, Repr, Inhabited

/-- R196: a trip count. -/
inductive PTrip where
  /-- a constant -/
  | const (n : Nat)
  /-- read from an operand -/
  | from_ (x : PTensor)
deriving DecidableEq, Repr, Inhabited

/-- R196: an operation, in the order of the body; LOOP and WHERE run to their ends. -/
inductive PItem where
  /-- MATMUL: A, W, bias, row scale, output, grid if given -/
  | matmul (a w : PTensor) (bias scale : Option PTensor) (out : PTensor) (grid : Option Int)
  /-- MATMUL_T: A, W, output -/
  | matmulT (a w out : PTensor)
  /-- SCAN: inputs, coefficients, masks, carry stream, output -/
  | scan (x a : PTensor) (masks : Option PTensor) (carry out : PTensor)
  /-- ELTWISE: the rule (174, 175, 177 or 183) and the function number in it, inputs, output -/
  | eltwise (rule fn : Nat) (xs : List PTensor) (out : PTensor)
  /-- REDUCE: function of R179, input, output -/
  | reduce (fn : Nat) (x out : PTensor)
  /-- RMSNORM: x, weight, ε as FP32, output -/
  | rmsnorm (x weight : PTensor) (eps : Nat) (out : PTensor)
  /-- SOFTMAX: x, mask, output, row statistics -/
  | softmax (x : PTensor) (mask : Option PTensor) (out : PTensor) (stats : Option PTensor)
  /-- ROTARY: x, positions, frequency table, output -/
  | rotary (x pos freq out : PTensor)
  /-- QUANT -/
  | quant (x out : PTensor)
  /-- DEQUANT -/
  | dequant (x out : PTensor)
  /-- TOPK: values, k, output -/
  | topk (x : PTensor) (k : Nat) (out : PTensor)
  /-- SAMPLE: logits, temperature, top-k, top-p, key, counter, output -/
  | sample (x : PTensor) (temp k topp key ctr : Nat) (out : PTensor)
  /-- RAND: key, counter, count, output -/
  | rand (key ctr count : Nat) (out : PTensor)
  /-- MOVE: source and destination regions, XF -/
  | move (src dst : PTensor) (xf : Nat)
  /-- SIGNAL -/
  | signal (counter : Nat)
  /-- WAIT -/
  | wait (counter thr : Nat)
  /-- LOOP -/
  | loop (trip : PTrip)
  /-- the end of a LOOP -/
  | endLoop
  /-- WHERE: its predicate region -/
  | where_ (pred : PTensor)
  /-- the end of a WHERE -/
  | endWhere
deriving DecidableEq, Repr, Inhabited

end Sys2Proof.Machine

namespace Sys2Proof.Config

open Sys2Proof

/-- R196, R198: the operations of a portable body with the offset of each, or the offset of the first item that cannot be
decoded. The manual does not give the encoding (notes/assumptions/14.md). -/
opaque readPortable : Bytes → Except Nat (List (Nat × Machine.PItem))

/-- R198, R199: the native code that the firmware's loader makes of the operations (notes/assumptions/14.md). -/
opaque lower : List (Nat × Machine.PItem) → Bytes

end Sys2Proof.Config

namespace Sys2Proof.Machine

open Sys2Proof

/-- R196: a tensor's dimensions are in their range. -/
def PTensor.ok (x : PTensor) : Bool := !x.dims.isEmpty && x.dims.all fun d => 1 ≤ d && d ≤ 16777216

/-- The tensors of an operation. -/
def PItem.tensors : PItem → List PTensor
  | .matmul a w bias scale out _ => [a, w, out] ++ bias.toList ++ scale.toList
  | .matmulT a w out => [a, w, out]
  | .scan x a masks carry out => [x, a, carry, out] ++ masks.toList
  | .eltwise _ _ xs out => out :: xs
  | .reduce _ x out => [x, out]
  | .rmsnorm x weight _ out => [x, weight, out]
  | .softmax x mask out stats => [x, out] ++ mask.toList ++ stats.toList
  | .rotary x pos freq out => [x, pos, freq, out]
  | .quant x out => [x, out]
  | .dequant x out => [x, out]
  | .topk x _ out => [x, out]
  | .sample x _ _ _ _ _ out => [x, out]
  | .rand _ _ _ out => [out]
  | .move src dst _ => [src, dst]
  | .loop (.from_ x) => [x]
  | .where_ p => [p]
  | _ => []

/-- R196: A of M × K, W of K × N (of N × K where it is transposed) and an output of M × N. -/
def matShape (a w out : PTensor) (turned : Bool) : Bool :=
  match a.dims, w.dims, out.dims with
  | [m, k], [x, y], [p, q] => p == m && (if turned then y == k && q == x else x == k && q == y)
  | _, _, _ => false

/-- R82, R196: a MATMUL pairs its formats as the vat modes do. -/
def matPair (a w : PElem) : Bool :=
  (w == .q4 && a == .q8a) || (w == .q8w && a == .q8a) || (w == .bf16 && a == .bf16)

/-- R196: inputs of one shape, or with one broadcast along a dimension. -/
def eltShape (xs : List PTensor) (out : PTensor) : Bool :=
  let fits (x : PTensor) : Bool := x.dims.length == out.dims.length && (x.dims.zip out.dims).all fun d => d.1 == d.2 || d.1 == 1
  xs.all fits && (xs.filter fun x => x.dims != out.dims).length ≤ 1 &&
    xs.all fun x => ((x.dims.zip out.dims).filter fun d => d.1 != d.2).length ≤ 1

/-- R174, R175, R177, R183, R196: an assigned function of ELTWISE, with as many inputs as it takes. -/
def eltFn (rule fn n : Nat) : Bool :=
  (rule == 174 && fn ≤ 15 && n == (if fn = 13 ∨ fn = 14 then 1 else 2)) || (rule == 175 && fn ≤ 7 && fn % 4 != 3 && n == 3) ||
    (rule == 177 && fn ≤ 4 && n == 1) || (rule == 183 && fn ≤ 3 && n == 1)

/-- R37, R196: whole blocks along the last dimension: 64 elements of Q4, 128 of the 8-bit formats. -/
def blockAligned (x : PTensor) : Bool :=
  let n := (x.dims.getLast?).getD 1
  match x.elem with
  | .q4 => n % 64 == 0
  | .q8w => n % 128 == 0
  | .q8a => n % 128 == 0
  | _ => true

/-- R196: the constraints of an operation. -/
def PItem.ok (i : PItem) : Bool :=
  i.tensors.all PTensor.ok &&
    match i with
    | .matmul a w _ _ out _ => matPair a.elem w.elem && matShape a w out false && [PElem.fp32, .bf16, .q8a].contains out.elem
    | .matmulT a w out =>
      a.elem == .bf16 && [PElem.q4, .q8w, .bf16].contains w.elem && matShape a w out true && [PElem.fp32, .bf16].contains out.elem
    | .eltwise rule fn xs out => eltFn rule fn xs.length && eltShape xs out
    | .reduce fn x out => fn ≤ 4 && out.dims == x.dims.dropLast ++ [1]
    | .rmsnorm x _ _ _ => (x.dims.getLast?).getD 1 % 16 == 0
    | .rotary x _ _ _ => (x.dims.getLast?).getD 1 % 2 == 0
    | .quant _ out => [PElem.q4, .q8w, .q8a].contains out.elem && blockAligned out
    | .dequant x _ => [PElem.q4, .q8w, .q8a].contains x.elem && blockAligned x
    | .topk _ k _ => 1 ≤ k && k ≤ 64
    | .sample _ _ k _ _ _ _ => 1 ≤ k && k ≤ 64
    | .move src dst xf => xf ≤ 2 && src.operand.isSome && dst.operand.isSome
    | .signal c => c < 4096
    | .wait c _ => c < 4096
    | _ => true

/-- R196: a body nested properly. `open_` are the LOOPs (true) and WHEREs (false) not yet ended; the offset of the first
item that breaks a constraint, or an end without its beginning. -/
def itemFault : List Bool → List (Nat × PItem) → Option Nat
  | [], [] => none
  | _ :: _, [] => some 0
  | open_, (o, i) :: is =>
    if !i.ok then some o
    else
      match i with
      | .loop _ => itemFault (true :: open_) is
      | .where_ _ => itemFault (false :: open_) is
      | .endLoop => if open_.head? = some true then itemFault (open_.drop 1) is else some o
      | .endWhere => if open_.head? = some false then itemFault (open_.drop 1) is else some o
      | _ => itemFault open_ is

/-- R196, R198: the first item that nests LOOP more than 4 or WHERE more than 7 deep, or names an operand of NOPND or
above. -/
def itemLimit (nopnd : Nat) : List Bool → List (Nat × PItem) → Option Nat
  | _, [] => none
  | open_, (o, i) :: is =>
    let now := match i with
      | .loop _ => true :: open_
      | .where_ _ => false :: open_
      | .endLoop => open_.drop 1
      | .endWhere => open_.drop 1
      | _ => open_
    if 4 < (now.filter id).length || 7 < (now.filter (!·)).length ||
        i.tensors.any (fun x => x.operand.any (nopnd ≤ ·)) then some o
    else itemLimit nopnd now is

end Sys2Proof.Machine
end

