-- ==== Sys2Proof/Machine/WheelOps.lean ====
section
/-! DEFINITION. Wheels (R329-R331, R406-R412): the rind, the arrival pipeline, the arrival quantiser, the re-layout into
tile records, and the loader of kernels (R195, R198). -/

namespace Sys2Proof.Machine

open Sys2Proof

/-! ## Load statuses (R416) -/

def lsOK : Nat := 0
def lsFORMAT : Nat := 1
def lsTABLE : Nat := 2
def lsCRC : Nat := 3
def lsAUTH : Nat := 4
def lsRANGE : Nat := 5
def lsTIMEOUT : Nat := 6
def lsDAMAGED : Nat := 7
def lsNO_KEY : Nat := 8
def lsCLOSED : Nat := 9
def lsFREED : Nat := 10
def lsPEER_LOST : Nat := 11
def lsSTATE : Nat := 12
def lsCONTRACT : Nat := 13
def lsPART : Nat := 14
def lsLIMIT : Nat := 15

/-! ## The rANS decoder (R330, R331) -/

/-- R331: FREQ of a decode table. -/
def tableFreq (b : Bytes) : List Nat := (List.range 256).map fun i => bnum b (16 + 2 * i) 2

/-- R331: a table is well formed. -/
def tableOK (b : Bytes) : Bool :=
  b.length == 528 && bnum b 0 4 == 0x5A525446 && 1 ≤ bnum b 4 2 &&
    (tableFreq b).all (· ≤ 4096) && total (tableFreq b) == 4096

/-- R330: the symbol whose range holds `r`, its frequency and the start of its range. -/
def ransSymbol : List Nat → Nat → Nat → Nat → Nat × Nat × Nat
  | [], sym, cum, _ => (sym, 0, cum)
  | f :: fs, sym, cum, r => if r < cum + f then (sym, f, cum) else ransSymbol fs (sym + 1) (cum + f) r

/-- R330: the decoder: lane states, the words still to come, the bytes decoded, newest first. -/
structure Rans where
  /-- states of the 64 lanes -/
  lanes : List Nat
  /-- words of the stream -/
  words : List Nat
  /-- bytes, newest first -/
  out : Bytes
deriving DecidableEq, Repr, Inhabited

/-- R330: one symbol decoded by lane `k mod 64`. -/
def ransStep (freq : List Nat) (r : Rans) (k : Nat) : Rans :=
  let x := r.lanes.getD (k % 64) 0
  let q := ransSymbol freq 0 0 (x % 4096)
  let y := q.2.1 * (x / 4096) + x % 4096 - q.2.2
  if y < 65536 then
    { lanes := r.lanes.set (k % 64) (y * 65536 + r.words.headD 0), words := r.words.drop 1,
      out := BitVec.ofNat 8 q.1 :: r.out }
  else { r with lanes := r.lanes.set (k % 64) y, out := BitVec.ofNat 8 q.1 :: r.out }

/-- R330: P plaintext bytes from a payload; bytes that a short payload lacks are 0. -/
def ransDecode (freq : List Nat) (payload : Bytes) (p : Nat) : Bytes :=
  let start : Rans :=
    { lanes := (List.range 64).map fun i => bnum payload (4 * i) 4
      words := (List.range ((payload.length - 256) / 2)).map fun i => bnum payload (256 + 2 * i) 2
      out := [] }
  (((List.range p).foldl (ransStep freq) start).out).reverse

/-! ## The rind (R406-R409) -/

/-- R407: the wheel header, and the plaintext once opened. -/
structure Wheel where
  /-- CODEC -/
  codec : Nat
  /-- SLOT -/
  slot : Nat
  /-- SRCFMT -/
  src : Nat
  /-- VERSION -/
  version : Nat
  /-- TGTFMT -/
  tgt : Nat
  /-- RM -/
  rm : Nat
  /-- RHO -/
  rho : Nat
  /-- NCOL -/
  ncol : Nat
  /-- OBJ_ID -/
  objId : Nat
  /-- WHEEL -/
  num : Nat
  /-- OFFSET -/
  off : Nat
  /-- plaintext -/
  plain : Bytes
deriving DecidableEq, Repr, Inhabited

/-- R407: the tile index of a quantised wheel. -/
def Wheel.tile (w : Wheel) : Nat := w.off % 2 ^ 32

/-- R407: the first column of a quantised wheel. -/
def Wheel.c0 (w : Wheel) : Nat := bits w.off 40 32

/-- R406: CLEN. -/
def wheelClen (b : Bytes) : Nat := bnum b 36 4

/-- R406: the bytes of the wheel that starts a run of bytes. -/
def wheelLen (b : Bytes) : Nat := 84 + wheelClen b

/-- R407: WHEEL, as the header gives it. -/
def wheelNum (b : Bytes) : Nat := bnum b 20 4

/-- R407, R409, R410: MAGIC, HVER, reserved fields and the combination of formats are as they must be. -/
def headerGood (b : Bytes) : Bool :=
  let codec := bnum b 5 1
  let src := bnum b 7 1
  let tgt := bnum b 10 1
  let ncol := bnum b 14 2
  let off := bnum b 24 8
  let plen := bnum b 32 4
  bnum b 0 4 == 0x5A525748 && bnum b 4 1 == 1 && codec ≤ 1 && bnum b 11 1 ≤ 1 && bnum b 52 12 == 0 &&
    1 ≤ wheelClen b && wheelClen b ≤ 65536 &&
    (if codec = 0 then bnum b 6 1 == 0 && bnum b 8 2 == 0 else bnum b 6 1 < 8 && 1 ≤ bnum b 8 2) &&
    (if src = 0 then tgt == 0 && ncol == 0 && 1 ≤ plen && plen ≤ 262144
     else
      1 ≤ ncol && bits off 63 41 == 0 && bits off 40 32 + ncol ≤ 512 &&
        ((src == 1 && 1 ≤ tgt && tgt ≤ 3 && plen == 256 * ncol) ||
          (src == 2 && 1 ≤ tgt && tgt ≤ 2 && plen == 132 * ncol)))

/-- R410: the key of a collection's slot, while it holds one. -/
def wheelKey (s : State) (coll : Nat) : Option Bytes :=
  (tget s.sec.keys coll).bind fun k => if k.state == 2 || k.state == 3 then some k.key else none

/-- R333: the FREQ of the slot that a RANS wheel names, where the slot serves its version. -/
def slotFreq (s : State) (slot version : Nat) : Option (List Nat) :=
  (s.cmp.slots[slot]?).bind fun x =>
    if (x.state == 2 || x.state == 3) && x.version == version then some x.freq else none

/-- R406, R410: the CRC of a wheel holds. -/
def wheelCrcOK (b : Bytes) : Bool :=
  b.length == wheelLen b && 84 ≤ b.length && bnum b (80 + wheelClen b) 4 == crc32c (b.take (80 + wheelClen b))

/-- R410: a wheel through CRC, decryption and tag, header checks and expansion, under the key of a collection. -/
def openWheel (s : State) (coll : Nat) (b : Bytes) : Except Nat Wheel :=
  if !wheelCrcOK b then .error lsCRC
  else
    match wheelKey s coll with
    | none => .error lsNO_KEY
    | some key =>
      let n := wheelClen b
      match Config.gcmOpen key ((b.drop 40).take 12) (b.take 64) ((b.drop 64).take n) ((b.drop (64 + n)).take 16) with
      | none => .error lsAUTH
      | some coded =>
        if !headerGood b then .error lsFORMAT
        else
          let w : Wheel :=
            { codec := bnum b 5 1, slot := bnum b 6 1, src := bnum b 7 1, version := bnum b 8 2, tgt := bnum b 10 1,
              rm := bnum b 11 1, rho := bnum b 12 2, ncol := bnum b 14 2, objId := bnum b 16 4, num := bnum b 20 4,
              off := bnum b 24 8, plain := coded }
          if w.codec = 0 then if coded.length = bnum b 32 4 then .ok w else .error lsFORMAT
          else
            match slotFreq s w.slot w.version with
            | some f => .ok { w with plain := ransDecode f coded (bnum b 32 4) }
            | none => .error lsTABLE

/-! ## The arrival quantiser (R411) -/

/-- R409: the 128 exact values of source column `i` of a quantised wheel. -/
def Wheel.column (w : Wheel) (i : Nat) : List Fl :=
  if w.src = 1 then (List.range 128).map fun k => flOf16 (bnum w.plain (256 * i + 2 * k) 2)
  else
    let h := bnum w.plain (132 * i + 128) 4
    (List.range 128).map fun k => dequant (h % 65536) (bnum w.plain (132 * i + k) 1) (bits h 23 16)

/-- What the quantiser makes of a wheel. -/
structure QWheel where
  /-- code bytes of its blocks, in block order -/
  codes : List Bytes
  /-- headers, in block order -/
  headers : List Nat
  /-- whey entries, in order -/
  whey : List Nat
  /-- saturations -/
  sat : Nat
  /-- a NaN was met -/
  nan : Bool
deriving DecidableEq, Repr, Inhabited

/-- R55-R65: one Q4 block added. With a clip ratio outside R56 the manual names no scale: the free value `free`. -/
def addQ4 (w : Wheel) (free : Nat → Nat) (q : QWheel) (xs : List Fl) : QWheel :=
  let esc := w.tgt == 2
  let scale := if !esc then deriveFl 0x3F80 (maxFl xs) 7
    else if rhoOK w.rho then deriveFl w.rho (maxFl xs) 7 else free q.codes.length % 65536
  let b := quantQ4Fl scale w.rm esc (8 * w.ncol - q.whey.length) xs
  { codes := q.codes ++ [packQ4 b.codes]
    headers := q.headers ++ [q4Header scale (if esc then 7 else 8) esc b.whey.length]
    whey := q.whey ++ b.whey, sat := q.sat + b.sat, nan := q.nan || b.nan }

/-- R56, R65: one Q8W block added. -/
def addQ8 (w : Wheel) (q : QWheel) (xs : List Fl) : QWheel :=
  let scale := deriveFl 0x3F80 (maxFl xs) 127
  let b := quantQ8Fl scale w.rm xs
  { q with
    codes := q.codes ++ [b.codes.map fun c => BitVec.ofNat 8 c], headers := q.headers ++ [scale + 128 * 2 ^ 16],
    sat := q.sat + b.sat, nan := q.nan || b.nan }

/-- R411: the quantiser over a wheel, column by column. -/
def Wheel.quantise (w : Wheel) (free : Nat → Nat) : QWheel :=
  (List.range w.ncol).foldl (fun q i =>
    let xs := w.column i
    if w.tgt = 3 then addQ8 w q xs else addQ4 w free (addQ4 w free q (xs.take 64)) (xs.drop 64))
    { codes := [], headers := [], whey := [], sat := 0, nan := false }

/-! ## Re-layout (R409, R412) -/

/-- The end of a wheel's output within its object. -/
def Wheel.outEnd (w : Wheel) : Nat :=
  if w.tgt = 0 then w.off + w.plain.length
  else if w.tgt = 3 then 33792 * (2 * w.tile + (w.c0 + w.ncol - 1) / 256 + 1)
  else 36352 * (w.tile + 1)

/-- R409: what a verified wheel writes at once: offsets in the object and bytes. -/
def Wheel.pieces (w : Wheel) (q : QWheel) : List (Nat × Bytes) :=
  if w.tgt = 0 then [(w.off, w.plain)]
  else if w.tgt = 3 then
    q.codes.zipIdx.map fun e =>
      let n := w.c0 + e.2
      (33792 * (2 * w.tile + n / 256) + 128 * (n % 256), e.1)
  else [(36352 * w.tile + 64 * w.c0, q.codes.flatten)]

/-- R412: what a quantised wheel holds back until its tile is complete. -/
def Wheel.part (w : Wheel) (q : QWheel) : Option TilePart :=
  if w.tgt = 0 then none
  else some { tile := w.tile, c0 := w.c0, ncol := w.ncol, headers := q.headers, whey := q.whey }

/-- The header of block `j` of a tile among its parts; a block of no wheel is padding (R49). -/
def partHeader (ps : List TilePart) (per j : Nat) : Nat :=
  ((ps.find? fun p => per * p.c0 ≤ j && j < per * (p.c0 + p.ncol)).map fun p => p.headers.getD (j - per * p.c0) 0).getD 0

/-- The parts of one tile, in rising order of first column. -/
def tileParts (ps : List TilePart) (t : Nat) : List TilePart := sortBy (·.c0) (ps.filter (·.tile == t))

/-- R49: the columns of a tile that no wheel covers. -/
def padColumns (ps : List TilePart) : List Nat :=
  (List.range 512).filter fun n => !ps.any fun p => p.c0 ≤ n && n < p.c0 + p.ncol

/-- R48, R49, R51: what a complete tile of an object of `size` bytes is given beside the codes of its wheels: the headers, and
codes 0 in the blocks that are wholly padding. Q8W parts hold one header a column, Q4 parts two. -/
def tilePieces (t size : Nat) (ps : List TilePart) : List (Nat × Bytes) :=
  let all :=
    if ps.all fun p => p.headers.length == p.ncol then
      ([0, 1].map fun r =>
        (33792 * (2 * t + r) + 32768, (List.range 256).flatMap fun n => le4 (partHeader ps 1 (256 * r + n)))) ++
      (padColumns ps).map fun n => (33792 * (2 * t + n / 256) + 128 * (n % 256), zeros 128)
    else
      (36352 * t + 32768, (List.range 128).flatMap fun g =>
        leBytes 28 (total ((List.range 8).map fun i => partHeader ps 2 (8 * g + i) * 2 ^ (28 * i)))) ::
      (padColumns ps).map fun n => (36352 * t + 64 * n, zeros 64)
  all.filter fun p => p.1 + p.2.length ≤ size

/-- R412: the bytes of a complete tile's whey entries. -/
def tileWhey (ps : List TilePart) : Bytes := ps.flatMap fun p => p.whey.flatMap (leBytes 2)

/-- R412: every column of a tile is covered. -/
def tileFull (ps : List TilePart) : Bool := total (ps.map (·.ncol)) == 512

/-! ## Tile checks (R43, R51) -/

/-- R43: a BF16 value that is neither NaN nor infinite. -/
def finite16 (h : Nat) : Bool := bits h 14 7 != 255

/-- R43: a Q4 tile record is well formed. Whey values lie in an object of their own, and the quantiser makes only finite
ones. -/
def q4TileOK (t : Memory) : Bool :=
  (q4Blocks t).all fun b => q4BlockOK b && finite16 (hSCALE b.1) && (!hESC b.1 || hZP b.1 ≤ 14)

/-- R51: a Q8W tile record is well formed. -/
def q8TileOK (t : Memory) : Bool := (List.range 256).all fun n => finite16 (mnum t (32768 + 4 * n) 2)

/-- Ranges (first byte, bytes) cover the bytes from `lo` to `hi`. -/
def covers (rs : List (Nat × Nat)) (lo hi : Nat) : Bool :=
  hi ≤ (sortBy (·.1) rs).foldl (fun a r => if r.1 ≤ a then max a (r.1 + r.2) else a) lo

/-- R43, R51: the tile records of a format that overlap the `n` bytes from object offset `off`, and of which every byte has
arrived, are well formed. -/
def tilesOK (fmt : Nat) (m : Memory) (base : Nat) (spans : List (Nat × Nat)) (off n : Nat) : Bool :=
  let size := if fmt = 1 then 36352 else 33792
  if fmt = 1 ∨ fmt = 2 then
    (List.range (n / size + 2)).all fun i =>
      let t := off / size + i
      if !covers spans (size * t) (size * (t + 1)) then true
      else if fmt = 1 then q4TileOK (mslice m (base + size * t) size) else q8TileOK (mslice m (base + size * t) size)
  else true

/-! ## Whole objects from wheels -/

/-- What a run of wheels made of an object, or the status and number of the first that failed. -/
structure Assembled where
  /-- object bytes -/
  mem : Memory
  /-- the ranges of the object that have been written: first byte, bytes -/
  cover : List (Nat × Nat)
  /-- parts held back -/
  parts : List TilePart
  /-- OBJ_ID -/
  objId : Option Nat
  /-- saturations -/
  sat : Nat
  /-- a NaN was met -/
  nan : Bool
  /-- status and wheel -/
  bad : Option (Nat × Nat)
deriving DecidableEq, Repr, Inhabited

/-- One more wheel of an object of `size` bytes. -/
def addWheel (s : State) (coll size : Nat) (a : Assembled) (b : Bytes) : Assembled :=
  if a.bad.isSome then a
  else
    match openWheel s coll b with
    | .error st => { a with bad := some (st, wheelNum b) }
    | .ok w =>
      if a.objId.any (· != w.objId) then { a with bad := some (lsFORMAT, w.num) }
      else if size < w.outEnd then { a with bad := some (lsRANGE, w.num) }
      else
        let q := w.quantise fun i => Config.free (s.fresh + i)
        { a with
          mem := (w.pieces q).foldl (fun m p => mwrite m p.1 p.2) a.mem
          cover := a.cover ++ (w.pieces q).map fun p => (p.1, p.2.length)
          parts := a.parts ++ (w.part q).toList, objId := some w.objId, sat := a.sat + q.sat, nan := a.nan || q.nan }

/-- R258, R277, R412: an object made of its wheels, in any order; the headers of its tiles come last. -/
def assemble (s : State) (coll size : Nat) (ws : List Bytes) : Assembled :=
  let a := ws.foldl (addWheel s coll size) { mem := [], cover := [], parts := [], objId := none, sat := 0, nan := false, bad := none }
  let tiles := (a.parts.map (·.tile)).eraseDups
  let last := tiles.flatMap fun t => tilePieces t size (tileParts a.parts t)
  { a with mem := last.foldl (fun m p => mwrite m p.1 p.2) a.mem, cover := a.cover ++ last.map fun p => (p.1, p.2.length) }

/-- A run of bytes cut into wheels; none where it does not end with a wheel. -/
def cutWheels : Nat → Bytes → Option (List Bytes)
  | 0, b => if b.isEmpty then some [] else none
  | n + 1, b => if b.length < 84 ∨ b.length < wheelLen b then none else (cutWheels n (b.drop (wheelLen b))).map (b.take (wheelLen b) :: ·)

/-! ## Table slots in use (R320, R332, R333) -/

/-- R320, R333: a port's check of a received wheel: CRC, and a slot that serves the version it names. -/
def wheelUsable (s : State) (b : Bytes) : Bool :=
  wheelCrcOK b && (bnum b 5 1 == 0 || (slotFreq s (bnum b 6 1) (bnum b 8 2)).isSome)

/-- R332: a block names a slot and its version. -/
def namesSlot (n v : Nat) (b : Bytes) : Bool :=
  bnum b 0 4 == 0x5A525748 && bnum b 5 1 == 1 && bnum b 6 1 == n && bnum b 8 2 == v

/-- R332: the reference count of slot `n`: the blocks that name it among the wheels that wait for a promotion, a fetch or a
replacement, and in the queues of the fabric ports. -/
def slotRefs (s : State) (n : Nat) : Nat :=
  match s.cmp.slots[n]? with
  | none => 0
  | some x =>
    if x.state < 2 then 0
    else
      let fetched := s.obj.fetches.flatMap fun f => if f.form = 0 then [] else (cutWheels f.start f.got).getD []
      let planned := (s.wgt.repl.map fun r => r.plan.flatMap (·.wheels)).getD []
      let queued := s.fab.ports.flatMap fun p =>
        ((p.txQ ++ p.heldRx).filter fun f => f.vc == 1 && f.first).map (·.data) ++ (p.frames.filter (·.1 == 1)).map (·.2)
      ((fetched ++ planned ++ s.cave.peerGot.map (·.2.2) ++ queued).filter (namesSlot n x.version)).length

/-- R340 CMP_TABLE_FAIL: a wheel failed with status TABLE is counted. -/
def countTable (st : Nat) (s : State) : State :=
  if st = lsTABLE then { s with cmp := { s.cmp with tableFail := satAdd32 s.cmp.tableFail 1 } } else s

/-- R340: the same for the first failed wheel of an object. -/
def Assembled.countBad (a : Assembled) (s : State) : State := countTable ((a.bad.map (·.1)).getD lsOK) s

/-! ## The loader (R195, R198) -/

/-- R198: the native body of a kernel object, or the status of R198 with the body offset of the first offending item. -/
def nativeBody (b : Bytes) : Except (Nat × Nat) Bytes :=
  let form := bnum b 4 2
  let len := bnum b 8 4
  if bnum b 0 4 != 0x5A524B4E || 1 < form || bnum b 24 40 != 0 || b.length < 64 + len || 1 < bnum b 20 1 ||
      8 < bnum b 21 1 then .error (lsFORMAT, 0)
  else if form = 0 then
    if bnum b 6 2 != 1 then .error (lsCONTRACT, 0)
    else if bnum b 12 4 != 0 || bnum b 22 2 != 0 then .error (lsFORMAT, 0)
    else if 65536 < bnum b 16 4 then .error (lsLIMIT, 0)
    else
      match Config.readPortable ((b.drop 64).take len) with
      | .error o => .error (lsFORMAT, o)
      | .ok is =>
        match itemFault [] is, itemLimit (bnum b 21 1) [] is with
        | some o, _ => .error (lsFORMAT, o)
        | none, some o => .error (lsLIMIT, o)
        | none, none =>
          let n := Config.lower is
          if 2 ^ 20 < n.length then .error (lsLIMIT, 0) else .ok n
  else if bnum b 6 2 != 0 then .error (lsFORMAT, 0)
  else if bnum b 22 2 != 0x2400 then .error (lsPART, 0)
  else if 65536 < bnum b 16 4 || 2 ^ 20 < len then .error (lsLIMIT, 0)
  else
    let body := (b.drop 64).take len
    let entry := bnum b 12 4
    if entry % 4 != 0 || len ≤ entry then .error (lsFORMAT, 0)
    else
      let scan (fault : Nat → BitVec 32 → Bool) : Option Nat :=
        argMin id (bodyScan len (fun pc => BitVec.ofNat 32 (bnum body pc 4)) fault (3 * len + 16) [entry] [] [])
      match scan (wordFault len), scan fun _ w => (namedOperand w).any (bnum b 21 1 ≤ ·) with
      | some pc, _ => .error (lsFORMAT, pc)
      | none, some pc => .error (lsLIMIT, pc)
      | none, none => .ok body

/-- R244: the ranges of the code area that kernels hold. -/
def codeUsed (s : State) : List (Nat × Nat) := s.obj.kernels.map fun k => (k.base, k.len)

/-- R198: a native body placed in the code area of every cluster; where it lies the manual leaves open: a free choice among
the places that hold it. Without one the load ends LIMIT (notes/assumptions/21.md). -/
def placeKernel (s : State) (handle : Nat) (b : Bytes) : Except (Nat × Nat) State :=
  match nativeBody b with
  | .error e => .error e
  | .ok body =>
    let fits (u : Nat) : Bool := 4 * u + body.length ≤ areaBase s && rangeFree (codeUsed s) (4 * u) body.length &&
      (List.range 8).all fun c => rangeFree (nearUsed s c) (4 * u) body.length
    match pickBelow (areaBase s / 4) fits s with
    | (none, _) => .error (lsLIMIT, 0)
    | (some u, s) =>
      let k : Kernel := { handle := handle, base := 4 * u, len := body.length, entry := if bnum b 4 2 = 0 then 0 else bnum b 12 4,
                          vat := bnum b 20 1, nopnd := bnum b 21 1, scratch := bnum b 16 4 }
      let s := (List.range 8).foldl (fun t c => t.nearWrite c (4 * u) body) s
      .ok { s with obj := { s.obj with kernels := s.obj.kernels ++ [k] } }

end Sys2Proof.Machine
end

