-- ==== Sys2Proof/Machine/Objects.lean ====
section
/-! DEFINITION. Objects, migration, moves and fetches: every command and event of chapter 07, with the end of a load
(R415, R416) that the freeing of an object shares with chapter 12. -/

namespace Sys2Proof.Machine

open Sys2Proof

/-! ## The end of a load (R415, R416) -/

/-- R416: a load status record. -/
def loadRecord (id : Nat) (x : Load) (status firstBad bodyOff : Nat) : Bytes :=
  leBytes 2 id ++ leBytes 1 status ++ leBytes 1 (b2n x.nan + 2 * b2n x.bcast) ++ le4 x.handle ++ le4 x.done.length ++
    le4 firstBad ++ le4 x.escapes ++ le4 x.sat ++ le4 x.retries ++ leBytes 2 (if x.bcast then x.rereq else 0) ++
    leBytes 2 (if x.bcast then x.direct else 0) ++ le4 bodyOff ++ zeros 28

/-- R415: the objects of a load take a load state. -/
def setLoadState (s : State) (x : Load) (st : Nat) : State :=
  [x.handle, x.whey, x.widx].foldl (fun t h =>
    match objOf t h with
    | some (i, _) => modObj t i fun o =>
        { o with lstate := st, fmt := if st != lsREADY then o.fmt else if h = x.handle then x.fmt else 0 }
    | none => t) s

/-- R415, R416, R420: a load ends with a status. -/
def endLoad (s : State) (id : Nat) (x : Load) (status firstBad bodyOff : Nat) : State :=
  let s := setLoadState s x (if status = lsOK then lsREADY else 4)
  let s := { s with wgt := { s.wgt with loads := terase s.wgt.loads id } }
  pushRec x.port (mkRec tyLOAD x.tag 0 (loadRecord id x status firstBad bodyOff)) s

/-- R415: the loads that name an object end with a status. -/
def endLoadsOf (s : State) (i status : Nat) : State :=
  s.wgt.loads.foldl (fun t e =>
    if [e.2.handle, e.2.whey, e.2.widx].any fun h => (objOf s h).any (·.1 == i) then endLoad t e.1 e.2 status max32 max32
    else t) s

/-! ## Entries -/

/-- R246: the 32 bytes of a table entry. -/
def objEntry (i : Nat) (o : Obj) : Bytes :=
  le4 (mkHandle i o) ++ leBytes 1 o.kind ++ leBytes 1 o.coll ++ leBytes 1 o.lstate ++
    leBytes 1 (b2n o.damaged + 2 * b2n o.closing + 4 * b2n o.freeing) ++ leBytes 8 o.size ++ le4 o.dbase ++
    leBytes 1 o.home ++ leBytes 1 (b2n o.res) ++ leBytes 1 o.nsmask ++ leBytes 1 o.place ++ leBytes 1 o.mstate ++
    leBytes 1 o.nsprom ++ leBytes 1 o.nsevict ++ leBytes 1 o.last ++ leBytes 2 o.pins ++ leBytes 2 o.homeref

/-- The number of set bits of a byte. -/
def popcount8 (x : Nat) : Nat := (maskBits 8 x).length

/-- R247, R642: the parameters of OBJ_CREATE are legal; the two failures of the table of R274 that come first are not
among them. -/
def createParamOK (kind size coll home place region entry aux : Nat) : Bool :=
  let rw := bit kind 0
  let role := bits kind 3 2
  kind < 16 && role != 3 && home ≤ 2 && place < 64 && coll < 64 &&
    (!rw || home == 0) && ((home != 0 && !rw) || !bit kind 1) &&
    (home == 1 || (region == 0 && entry == 0)) &&
    (if role = 1 then !rw && 1 ≤ aux
     else if role = 2 then rw && aux < 256 && aux != 0 && size == 256 * popcount8 aux
     else aux == 0)

/-- R296: a region and entry that an object of home CAVE may name. -/
def caveEntryOK (s : State) (coll size region entry : Nat) : Bool :=
  (tget s.cave.regions region).any fun r =>
    r.state == 2 && r.coll == coll && (r.dir[entry]?).any fun d => d.2.2 == size

/-- R271, R274: cached main-store bytes that may not be dropped. -/
def mainPinned (s : State) : Nat := mainCachedAll s - mainCached s

/-- R242: the ranges of device addresses that live objects hold, in units of 64 KiB. -/
def devUsed (s : State) : List (Nat × Nat) := s.obj.tab.map fun e => (e.2.dbase, e.2.mainBytes / 65536)

/-- R242: a free base for `n` units; which one the manual leaves open (notes/assumptions/3.md). -/
def devPlace (s : State) (n : Nat) : Option Nat × State :=
  let used := devUsed s
  let r := drawn s % 2 ^ 32
  if r + n ≤ 2 ^ 32 && rangeFree used r n then (some r, advance s)
  else (argMin id ((0 :: used.map fun u => u.1 + u.2).filter fun b => b + n ≤ 2 ^ 32 && rangeFree used b n), advance s)

/-- R245: the generation that a reused entry takes. -/
def nextGen (g : Nat) : Nat := if g = 65535 then 1 else g + 1

/-- R274: OBJ_CREATE fails with a reason and the event is sent. -/
def allocFail (coll size reason : Nat) (s : State) : Option Ans × State :=
  (some (Ans.err stALLOC reason),
    sendEvent evALLOC_FAIL (le4 coll ++ le4 size ++ le4 reason)
      { s with obj := { s.obj with allocFail := satAdd32 s.obj.allocFail 1, lastFail := reason + 0x80 } })

/-- R245-R250, R642: an entry as it is created. -/
def newObj (kind size coll home place region entry aux gen dbase : Nat) : Obj :=
  let rw := bit kind 0
  { gen := gen, kind := if home = 1 then (if bit kind 1 then kind else kind + 2) else kind, coll := coll,
    lstate := if !rw && home == 0 then 0 else lsREADY, damaged := false, closing := false, freeing := false, size := size,
    dbase := dbase, home := home, res := rw || home == 0, ns := List.replicate 8 none, nsmask := 0, place := place,
    mstate := 0, nsprom := 0, nsevict := 0, last := 0, pins := 0,
    homeref := if home = 1 then region else if bits kind 3 2 = 2 then aux else 0, dirEntry := entry, used := 0,
    fmt := 4 }

/-- R247-R249, R274, R600, R642: the effect of OBJ_CREATE. -/
def objCreate (kind size coll home place region entry aux : Nat) : Effect := fun _ s =>
  if !createParamOK kind size coll home place region entry aux then (some (Ans.err stPARAM), s)
  else if bit kind 0 && 1 < place % 4 then (some (Ans.err stREFUSED mrREFUSED_KIND), s)
  else if !s.keyed coll then (some (Ans.err stACCESS), s)
  else if home = 1 && s.testMode then (some (Ans.err stMODE), s)
  else if home = 1 && !caveEntryOK s coll size region entry then (some (Ans.err stREGION), s)
  else if size = 0 || 2 ^ 32 < size then allocFail coll size 3 s
  else if bits kind 3 2 = 1 && 8192 * aux < size then allocFail coll size 4 s
  else if 32768 ≤ s.obj.tab.length then allocFail coll size 1 s
  else
    let need := roundUp size 65536
    let reserves := bit kind 0 || home == 0
    if reserves && objectRegion s < mainReserved s + mainPinned s + stagingBytes s + need then allocFail coll size 2 s
    else
      match devPlace s (need / 65536) with
      | (none, t) => allocFail coll size 5 t
      | (some b, t) =>
        match pickBelow 32768 (fun i => (objAt t i).isNone) t with
        | (none, t) => allocFail coll size 1 t
        | (some i, t) =>
          let t := if reserves then (mainRoom t need).getD t else t
          let o := newObj kind size coll home place region entry aux (nextGen (nget t.obj.gens i)) b
          (some (Ans.ok (mkHandle i o)),
            { t with obj := { t.obj with tab := tset t.obj.tab i o, gens := nset t.obj.gens i o.gen } })

/-- R642: OBJ_CREATE. -/
def execObjCreate (h : Hdr) (kind size coll home place region entry aux : Nat) (s : State) : Out :=
  .next (hostCmd h {} (objCreate kind size coll home place region entry aux)
    (.objCreate h kind size coll home place region entry aux) s)

/-! ## The end of promotions and fetches -/

/-- R275: the fetches of a promotion are given up. -/
def dropFetches (s : State) (i pos : Nat) : State :=
  { s with obj := { s.obj with fetches := s.obj.fetches.filter fun f => !(hIdx f.handle == i && f.pos == some pos) } }

/-- The active promotion of a position. -/
def activePromo (s : State) (i pos : Nat) : Option MigReq :=
  s.obj.mig.find? fun r => r.idx == i && r.pos == pos && r.active && !r.evict

/-- A main-store position that is filled beside a near-store promotion, not by a request of its own (R258). -/
def companion (s : State) (i pos : Nat) (o : Obj) : Bool :=
  0 < pos && o.mstate == 1 && (activePromo s i 0).isNone

/-- R258: the positions that a promotion marked go back to STABLE; `done` where the copy is there now. -/
def settlePos (s : State) (i pos : Nat) (done : Bool) : State :=
  match objAt s i with
  | none => s
  | some o =>
    let comp := companion s i pos o
    let from_ := if o.rw then (List.range 8).find? fun c => c + 1 != pos && bit o.nsevict c else none
    modObj s i fun o =>
      let o := o.setPos pos 0
      let o := if comp then { o.setPos 0 0 with res := o.res || done } else o
      let o := match from_ with
        | some c => if done then { o.setPos (c + 1) 0 with ns := o.ns.set c none, nsmask := setBit o.nsmask c false }
            else o.setPos (c + 1) 0
        | none => o
      if pos = 0 then { o with res := o.res || done }
      else if done then { o with nsmask := setBit o.nsmask (pos - 1) true }
      else { o with ns := o.ns.set (pos - 1) none }

/-- The active promotions of an object that take it from the cave. -/
def cavePromos (s : State) (i : Nat) : List MigReq :=
  s.obj.mig.filter fun r => r.idx == i && r.active && !r.evict && r.src == 2

/-- R312: with no promotion left that waits for a peer's copy, no member's answer is waited for. -/
def endAsking (s : State) (i : Nat) : State :=
  if (cavePromos s i).isEmpty then { s with cave := { s.cave with peerWait := s.cave.peerWait.filter (·.1 != i) } } else s

/-- R262-R267: an active promotion ends with a result other than DONE; what waits goes on. -/
def failPromo (s : State) (r : MigReq) (res : Nat) : State :=
  let s := settlePos (dropFetches (dropMig s r) r.idx r.pos) r.idx r.pos false
  retryLoads (kickMig (finishMig (endAsking s r.idx) r res) r.idx)

/-- R265, R266: every request on an object ends with a result. -/
def cancelMigs (s : State) (i res : Nat) (all : Bool) : State :=
  (s.obj.mig.filter fun r => r.idx == i && (!r.active || all)).foldl (fun t r =>
    if r.active && !r.evict then failPromo t r res
    else if r.active then finishMig (modObj (dropMig t r) i fun o => o.setPos r.pos 0) r res
    else finishMig (dropMig t r) r res) s

/-- R273: the moves that name an object and have not started fail. -/
def failMovesOf (s : State) (i res : Nat) : State :=
  (s.obj.moves.filter fun m => m.engine.isNone && (moveObjs s m.req).contains i).foldl
    (fun t m => moveFailed t m (.mig res)) s

/-- R265: the effect of OBJ_FREE. -/
def objFree (handle : Nat) : Effect := fun _ s =>
    match objOf s handle with
    | none => (some (Ans.err stPARAM), s)
    | some (i, o) =>
      if o.closing then (some (Ans.err stSTATE), s)
      else if o.freeing then (some (Ans.err stALREADY), s)
      else
        let s := modObj s i fun o => { o with freeing := true }
        let s := endLoadsOf s i lsFREED
        let s := endRequestsOf (cancelMigs s i mrCANCELLED_FREED false) i mrCANCELLED_FREED
        (some (Ans.ok 0), failMovesOf s i mrCANCELLED_FREED)

/-- R265: OBJ_FREE. -/
def execObjFree (h : Hdr) (handle : Nat) (s : State) : Out :=
  .next (hostCmd h {} (objFree handle)
    (.objFree h handle) s)

/-- R248, R265, R266: an object's copies dropped, its writable data zeroed, its entry released. -/
def releaseObject (s : State) (i : Nat) : State :=
  match objAt s i with
  | none => s
  | some o =>
    let s := (List.range 8).foldl (fun t c =>
      match o.ns.getD c none with
      | some off => t.modNear c fun m => mzero m off o.nearBytes
      | none => t) s
    let s := { s with main := mzero s.main o.devBase o.mainBytes }
    let s := { s with obj := { s.obj with
      tab := terase s.obj.tab i, grants := s.obj.grants.filter (·.1 != i),
      kernels := s.obj.kernels.filter fun k => k.handle != mkHandle i o } }
    { setStream s i 0 0 with
      vats := s.vats.map fun x => unhold x i
      cave := { s.cave with
        peerWait := s.cave.peerWait.filter (·.1 != i), peerGot := s.cave.peerGot.filter (·.1 != i) } }

/-- R265: OBJECT_RELEASE; a closing object is released by the closure of its collection (R266). -/
def execObjectRelease (idx : Nat) (s : State) : Out :=
  .next (match objAt s idx with
    | some o =>
      if o.freeing && o.pins == 0 then retryLoads (releaseObject (cancelMigs s idx mrCANCELLED_FREED true) idx) else s
    | none => s)

/-! ## Migration commands (R279) -/

/-- R279: a migration command is accepted with a REPLY, then its request is made. -/
def migrate (h : Hdr) (handle pos : Nat) (evict : Bool) : Effect := fun _ s =>
  match objOf s handle with
  | none => (some (Ans.err stPARAM), s)
  | some (i, _) =>
    if 8 < pos then (some (Ans.err stPARAM), s)
    else (none, evalMig (answer h.port h.tag (Ans.ok 0) s) (newMig i pos evict (some (h.port, h.tag))))

/-- R279: OBJ_PROMOTE. -/
def execObjPromote (h : Hdr) (handle pos : Nat) (s : State) : Out :=
  .next (hostCmd h {} (migrate h handle pos false) (.objPromote h handle pos) s)

/-- R279: OBJ_EVICT. -/
def execObjEvict (h : Hdr) (handle pos : Nat) (s : State) : Out :=
  .next (hostCmd h {} (migrate h handle pos true) (.objEvict h handle pos) s)

/-- R250, R251: the effect of OBJ_PLACE. -/
def objPlace (handle : Nat) (place : Nat) : Effect := fun _ s =>
    match objOf s handle with
    | none => (some (Ans.err stPARAM), s)
    | some (i, o) =>
      if 64 ≤ place then (some (Ans.err stPARAM), s)
      else if o.freeing || o.closing then (some (Ans.err stSTATE), s)
      else if o.rw && 1 < place % 4 then (some (Ans.err stREFUSED mrREFUSED_KIND), s)
      else (some (Ans.ok 0), dropSurplus (modObj s i fun o => { o with place := place }) i)

/-- R250, R279: OBJ_PLACE. -/
def execObjPlace (h : Hdr) (handle place : Nat) (s : State) : Out :=
  .next (hostCmd h {} (objPlace handle place) (.objPlace h handle place) s)

/-- R279: the effect of OBJ_QUERY. -/
def objQuery (handle : Nat) : Effect := fun _ s =>
    match objOf s handle with
    | none => (some (Ans.err stPARAM), s)
    | some (i, o) => (some { small := objEntry i o }, s)

/-- R279, R572, R584: OBJ_QUERY. -/
def execObjQuery (h : Hdr) (handle : Nat) (s : State) : Out :=
  .next (hostCmd h { anyone := true } (objQuery handle) (.objQuery h handle) s)

/-! ## Promotions and evictions complete -/

/-- R290, R312: the wheels of an object of home CAVE, a peer's copy in place of a damaged one. -/
def entryWheels (s : State) (i : Nat) (o : Obj) (r : Region) : List Bytes :=
  (entryIndex r o.dirEntry).map fun w =>
    match s.cave.peerGot.find? fun g => g.1 == i && g.2.1 == w.1 with
    | some g => g.2.2
    | none => mread r.data w.2.1 w.2.2

/-- R258, R312, R410: the object in the cave through the arrival pipeline; none where its region cannot be read. -/
def caveObject (s : State) (i : Nat) (o : Obj) : Option Assembled :=
  (tget s.cave.regions o.homeref).bind fun r =>
    if r.state = 2 && (missingWheels s i o).isEmpty then some (assemble s o.coll o.size (entryWheels s i o r)) else none

/-- R290, R339: the bytes of an object's wheels in the cave. -/
def caveBytes (s : State) (o : Obj) : Nat :=
  ((tget s.cave.regions o.homeref).map fun r => total ((entryIndex r o.dirEntry).map fun w => w.2.2)).getD 0

/-! ## Damaged pages (R312, R414) -/

/-- R312: the next member is asked for an object's damaged wheels; where none is left its promotions end. -/
def askOrFail (s : State) (i : Nat) : State :=
  match objAt s i with
  | none => s
  | some o =>
    match askPeer s i o with
    | some t => t
    | none =>
      let ps := cavePromos s i
      let s := { s with cave := { s.cave with peerWait := s.cave.peerWait.filter (·.1 != i) } }
      ps.foldl (fun t r => failPromo t r mrFAILED_DAMAGED) s

/-- R312: a page declared damaged. -/
def declareDamage (s : State) (p : CPage) : State :=
  let s := modCave s fun c => { c with
    bad := if c.bad.contains p then c.bad else c.bad ++ [p], damaged := satAdd32 c.damaged 1 }
  match regionOfSet s p.1 with
  | none => s
  | some (n, r) =>
    let s := modRegion s n fun r => { r with damaged := true }
    let hit := (s.obj.tab.filter fun e => e.2.home == 1 && e.2.homeref == n &&
      (entryIndex r e.2.dirEntry).any fun w => touches r w p).map (·.1)
    let s := hit.foldl (fun t i => modObj t i fun o => { o with damaged := true }) s
    let s := sendEvent evCAVE_DAMAGE (le4 n ++ le4 p.1 ++ le4 p.2.1 ++ le4 p.2.2) s
    hit.foldl (fun t i =>
      if (cavePromos t i).isEmpty || t.cave.peerWait.any (·.1 == i) then t else askOrFail t i) s

/-- R414: wheel `k` of an object in the cave failed twice with CRC, AUTH or TABLE: a page of it is declared damaged, which
one the manual leaves open; where one is damaged already, or the failure is another, the promotion ends
(notes/assumptions/22.md). -/
def wheelDamaged (s : State) (m : MigReq) (o : Obj) (st k : Nat) : State :=
  let hit := (tget s.cave.regions o.homeref).bind fun r =>
    ((entryIndex r o.dirEntry).find? fun w => wheelNum (mread r.data w.2.1 w.2.2) == k).map fun w =>
      wheelPages r w.2.1 w.2.2
  let ps := hit.getD []
  if (st == lsCRC || st == lsAUTH || st == lsTABLE) && !ps.any s.cave.bad.contains then
    match pickOf ps s with
    | (some p, t) => declareDamage t p
    | (none, _) => failPromo s m mrFAILED_DAMAGED
  else failPromo s m mrFAILED_DAMAGED

/-- R258: bytes written to a position: `src` holds the object from `a`. -/
def fillPos (s : State) (o : Obj) (pos : Nat) (src : Memory) (a : Nat) : State :=
  if pos = 0 then { s with main := mcopy src a s.main o.devBase o.size }
  else s.modNear (pos - 1) fun m => mcopy src a (mzero m (o.nearOff (pos - 1)) o.nearBytes) (o.nearOff (pos - 1)) o.size

/-- R256, R258: an active promotion whose data are there completes DONE. -/
def donePromo (s : State) (r : MigReq) (o : Obj) (src : Memory) (a : Nat) : State :=
  let s := fillPos s o r.pos src a
  let s := if companion s r.idx r.pos o then fillPos s o 0 src a else s
  let s := settlePos (dropMig s r) r.idx r.pos true
  retryLoads (kickMig (finishMig s r mrDONE) r.idx)

/-- R258, R261: the copy that a promotion reads: the one chosen at its start, where it is gone since another that is not
being evicted; none where its source is the home copy. -/
def sourceCopy (s : State) (r : MigReq) (o : Obj) : Option Place :=
  let at_ (pos : Nat) : Option Place :=
    if pos = 0 then (if o.res then some (s.main, o.devBase) else none)
    else if o.inNear (pos - 1) then some (s.nearOf (pos - 1), o.nearOff (pos - 1)) else none
  r.from_.bind fun p =>
    match at_ p with
    | some x => some x
    | none => (promoFrom o r.pos).bind at_

/-- R258, R312, R414: what the source of a promotion gives when it completes; the arrival pipeline runs on every wheel of a
home in the cave. -/
def runPromo (s : State) (r : MigReq) (o : Obj) : State :=
  match sourceCopy s r o with
  | some (m, a) => donePromo (countMig s r o.size o.size) r o m a
  | none =>
    if o.home = 1 then
      match caveObject s r.idx o with
      | some x =>
        match x.bad with
        | none => donePromo (countMig s r (caveBytes s o) o.size) r o x.mem 0
        | some (st, k) =>
          let r2 := { r with src := 2 }
          let s := { s with obj := { s.obj with mig := s.obj.mig.map fun y => if y == r then r2 else y } }
          wheelDamaged (countTable st s) r2 o st k
      | none => failPromo s r mrFAILED_DAMAGED
    else if !canFetch s then failPromo s r mrFAILED_FETCH
    else
      fetchObject { s with obj := { s.obj with mig := s.obj.mig.map fun x => if x == r then { r with src := 3 } else x } }
        o r.idx r.pos

/-- R33, R258, R299, R310, R313: PROMOTION_COMPLETE; not while a coolant stop holds the DMA engines (R526), nor from the cave
while the object is being broadcast or a page that it waits for stands in the ladder. The pages that no read has served yet are
read, one read for every promotion that waits on them. -/
def execPromotionComplete (idx pos : Nat) (s : State) : Out :=
  .next (match activePromo s idx pos, objAt s idx with
    | some r, some o =>
      if !computeOn s then s
      else
        match o.gone with
        | some res => failPromo s r res
        | none =>
          if r.src = 3 then
            if s.obj.fetches.any fun f => hIdx f.handle == idx && f.pos == some pos then s
            else
              let s := countMig s r 0 o.size
              if pos = 0 then donePromo s r o s.main o.devBase
              else donePromo s r o (s.nearOf (pos - 1)) (o.nearOff (pos - 1))
          else if r.src = 2 && (s.cave.peerWait.any (·.1 == idx) || !caveReadable s o) then s
          else if r.pages.isEmpty then runPromo s r o
          else
            let s := fencedPages s r.pages
            if r.pages.any fun p => ladderStep s p != 0 then s
            else
              let s := r.pages.foldl readPage s
              match activePromo s idx pos with
              | some r => runPromo s r o
              | none => s
    | _, _ => s)

/-- R255, R280, R526: EVICTION_COMPLETE: a copy dropped, or spilled to main store. -/
def execEvictionComplete (idx pos : Nat) (s : State) : Out :=
  .next (match s.obj.mig.find? (fun r => r.idx == idx && r.pos == pos && r.active && r.evict), objAt s idx with
    | some r, some o =>
      if !computeOn s then s
      else
        let s :=
          if pos = 0 then modObj s idx fun o => { o.setPos 0 0 with res := false }
          else if !o.inNear (pos - 1) then s
          else if o.rw then
            let t := fillPos (countMig s r o.size o.size) o 0 (s.nearOf (pos - 1)) (o.nearOff (pos - 1))
            dropNear { t with obj := { t.obj with spills := satAdd32 t.obj.spills 1 } } idx (pos - 1)
          else dropNear s idx (pos - 1)
        kickMig (finishMig (dropMig s r) r mrDONE) idx
    | _, _ => s)

/-! ## Pins -/

/-- What waits for a pin on an object: a task's residency request, or the start of a move. -/
inductive PinWaiter where
  /-- R259: a task -/
  | task (k : TaskRef)
  /-- R259: a move -/
  | move (id : Nat)
deriving DecidableEq, Repr, Inhabited

/-- R259: the operations that wait for a pin on an object and can have all theirs now. -/
def pinWaiters (s : State) (i : Nat) : List PinWaiter :=
  ((liveTasks s).filter fun k => (runOf s k).any (fun r => r.st == .pinWait) && (pinnedIdxs s k).contains i &&
      canPin s (pinnedIdxs s k)).map PinWaiter.task ++
    (s.obj.moves.filter fun m => m.pinWait && (moveObjs s m.req).contains i && canPin s (moveObjs s m.req)).map
      fun m => PinWaiter.move m.id

/-- R259: PIN_GRANT; which of several waiting operations obtains it, the manual leaves open. -/
def execPinGrant (idx : Nat) (s : State) : Out :=
  .next (match pickOf (pinWaiters s idx) s with
    | (some (.task k), t) => placeRequest (pin t (pinnedIdxs t k)) k (((runOf t k).map (·.cluster)).getD 0)
    | (some (.move id), t) =>
      match t.obj.moves.find? (fun m => m.id == id) with
      | some m =>
        let t := pin t (moveObjs t m.req)
        { t with obj := { t.obj with moves := t.obj.moves.map fun (x : Move) =>
          if x.id = id then { x with pinWait := false } else x } }
      | none => t
    | (none, _) => s)

/-! ## Moves (R272, R273, R456) -/

/-- A move changed. -/
def modMove (s : State) (id : Nat) (f : Move → Move) : State :=
  { s with obj := { s.obj with moves := s.obj.moves.map fun (x : Move) => if x.id = id then f x else x } }

/-- A move by its number. -/
def moveAt (s : State) (id : Nat) : Option Move := s.obj.moves.find? fun (m : Move) => m.id == id

/-- The moves outstanding at the engines of a stack. -/
def stackMoves (s : State) (st : Nat) : Nat :=
  (s.obj.moves.filter fun m => m.engine.any fun e => e / 4 == st).length

/-- R189, R216, R338: a move may go to engine `e`: the one it has been given to while that can take it. -/
def engineOK (s : State) (m : Move) (e : Nat) : Bool :=
  dxFree s e && if m.given.any (dxFree s) then m.given == some e && !m.bad.contains e
  else
    match m.cluster with
    | some c => !m.bad.contains e && (e / 4 == c / 2 ||
        (List.range 4).all fun i => s.isFenced siteDMA (4 * (c / 2) + i) || m.bad.contains (4 * (c / 2) + i))
    | none =>
      !isBad s m.ref siteDMA e &&
        match (objOf s m.req.dstH).bind fun p => firstNear p.2 with
        | some c => e / 4 == c / 2
        | none => (List.range 4).all fun st => stackMoves s (e / 4) ≤ stackMoves s st

/-- R265, R266, R273: the result with which a move that names an object that is going fails before it starts. -/
def moveGone (s : State) (m : Move) : Option Nat :=
  let hs := [m.req.srcH, m.req.dstH].filter fun h => h != 0 && !isView h && !isRemote h
  if hs.any fun h => (objOf s h).isNone then some mrCANCELLED_FREED
  else (hs.filterMap fun h => (objOf s h).bind fun p => if p.2.lost then some mrFAILED_DAMAGED else p.2.gone).head?

/-- R272: a move starts on an engine; a MOVE task's attempt begins. -/
def startMove (s : State) (m : Move) (e : Nat) : State :=
  let s := modMove (ungive s m) m.id fun x => { x with engine := some e, given := none, waiting := false }
  let s := joinDx s e (moveSpan m.req).1
  match m.by_ with
  | .task k =>
    let r := runOf s k
    let s := beginAttempt s k e
    modRun s k fun x => { x with moves := (r.map (·.moves)).getD 1 }
  | .turner .. => s

/-- R456: the frame of a remote move: move tag, destination slot, group, offset, data; the manual gives a frame no
layout (notes/assumptions/30.md). -/
def remoteFrame (s : State) (m : Move) (bs : Bytes) : Bytes :=
  le4 (m.id % 65536) ++ le4 m.req.dstH ++ le4 (((graphOf s m.ref.g).map (·.gid)).getD 0) ++ leBytes 8 m.req.dstOff ++ bs

/-- R456: the destination package of a remote handle. -/
def remotePkg (s : State) (m : Move) : Nat :=
  match graphOf s m.ref.g with
  | some x => (groupMembers s x.gnum).getD ((m.req.dstH - 0xC0000000) / 256) 31
  | none => 31

/-- R456: the data of a remote move sent: a coded region whole on VC 2, plain bytes on VC 3. -/
def sendRemote (s : State) (m : Move) : State :=
  match moveSource s m with
  | .error f => moveFailed s m f
  | .ok (bs, s) =>
    let ps := movePieces m.req bs
    let n := (moveSpan m.req).2
    let data := if m.req.xf = 1 then mread (ps.foldl (fun mm p => mwrite mm p.1 p.2) []) 0 n else bs
    let dst := remotePkg s m
    if s.fab.lost.contains dst then moveFailed s m (.mig mrFAILED_FETCH)
    else
      let s := countDx s m bs ps
      let vc := if m.req.xf = 1 then 2 else 3
      let b := remoteFrame s m data
      let s := launchParts vc dst m.coll (m.id % 65536) b { s with fab := { s.fab with sent := (vc, dst, m.id % 65536, b) :: s.fab.sent } }
      modMove s m.id fun x => { x with remote := true }

/-- R272: a move waits for the promotion of its source into a position. -/
def movePromo (s : State) (id i pos : Nat) : State :=
  evalMig (modMove s id fun x => { x with waiting := true }) { newMig i pos false none with move := some id }

/-- R272, R526: MOVE_START. -/
def execMoveStart (id e : Nat) (s : State) : Out :=
  .next (match moveAt s id with
    | none => s
    | some m =>
      if !computeOn s || m.engine.isSome || m.pinWait || !engineOK s m e ||
          s.obj.fetches.any fun f => f.move == some id then s
      else
        match moveGone s m with
        | some res => settle (moveFailed s m (.mig res)) m.ref.g
        | none =>
          match (if m.req.srcH = 0 ∨ isView m.req.srcH then none else objOf s m.req.srcH) with
          | some (i, o) =>
            if (copyOf s o).isSome then
              let s := startMove s m e
              if isRemote m.req.dstH then (moveAt s id).elim s fun m => sendRemote s m else s
            else if m.waiting && (s.obj.mig.any fun r => r.move == some id) then s
            else if o.tier ≤ 1 then movePromo s id i 0
            else
              match m.cluster with
              | some c => movePromo s id i (c + 1)
              | none =>
                if o.home = 1 then startMove s m e
                else if canFetch s then
                  let t := startMove s m e
                  if o.isSealed then
                    addFetch (advance (advance t)) o i 1 (drawn t % 2 ^ 32) (drawn (advance t) % 256 + 1) none (some id) 0
                  else addFetch t o i 0 m.req.srcOff (moveSpan m.req).1 none (some id) 0
                else moveFailed s m (.mig mrFAILED_FETCH)
          | none =>
            let s := startMove s m e
            if isRemote m.req.dstH then (moveAt s id).elim s fun m => sendRemote s m else s)

/-- R272: MOVE_COMPLETE: the last byte written, or a failure after the issue. A MOVE task whose source has no copy above
its home in the cave reads it straight from there. -/
def execMoveComplete (id : Nat) (s : State) : Out :=
  .next (match moveAt s id with
    | none => s
    | some m =>
      if !computeOn s || m.engine.isNone || m.remote || s.obj.fetches.any (fun f => f.move == some id) then s
      else
        let is := moveObjs s m.req
        let t := match objOf s m.req.srcH with
          | some (i, o) =>
            if m.req.srcH = 0 || isView m.req.srcH || (copyOf s o).isSome then transfer s m
            else if !caveReadable s o || (promoPages s o).any (fun p => ladderStep s p != 0) then s
            else
              let s := (promoPages s o).foldl readPage s
              match caveObject s i o with
              | some x =>
                if x.bad.isNone then deliverMove s m (mread x.mem m.req.srcOff (moveSpan m.req).1)
                else moveFailed (x.countBad s) m (.mig mrFAILED_DAMAGED)
              | none => moveFailed s m (.mig mrFAILED_DAMAGED)
          | none => transfer s m
        is.foldl kickMig t)

/-! ## Fetches (R275-R278) -/

/-- R276: a stream on which a fetch may be posted. -/
def streamFree (s : State) (st : Nat) : Bool :=
  bit (hostFetchStreams s) (st - 1) && !s.obj.holds.contains st &&
    !s.obj.fetches.any fun f => f.fid.isSome && f.stream == st

/-- R275: the next FETCH_ID in rotation that no outstanding fetch has. -/
def nextFetchId (s : State) : Nat :=
  (((List.range 1024).map fun i => (s.obj.nextFid + i) % 1024).find? fun n =>
    !s.obj.fetches.any fun f => f.fid == some n).getD 0

/-- R275: the payload of a fetch record. -/
def fetchPayload (f : Fetch) (fid stream : Nat) : Bytes :=
  leBytes 2 fid ++ leBytes 1 stream ++ leBytes 1 f.form ++ le4 f.handle ++ leBytes 8 f.start ++ le4 f.count ++
    leBytes 1 f.attempt ++ zeros 11

/-- R273, R278: a fetch fails for good: its promotion or its move ends FAILED_FETCH. -/
def failFetch (s : State) (f : Fetch) : State :=
  let s := { s with obj := { s.obj with fetches := s.obj.fetches.filter fun x => x.id != f.id } }
  match f.pos, f.move with
  | some pos, _ =>
    match activePromo s (hIdx f.handle) pos with
    | some r => failPromo s r mrFAILED_FETCH
    | none => s
  | none, some id =>
    match moveAt s id with
    | some m => settle (moveFailed s m (.mig mrFAILED_FETCH)) m.ref.g
    | none => s
  | none, none => s

/-- R275: FETCH_POST: the lowest-numbered stream that qualifies; without an enabled stream the request ends
FAILED_FETCH at once. -/
def execFetchPost (id : Nat) (s : State) : Out :=
  .next (match s.obj.fetches.find? (fun f => f.id == id) with
    | none => s
    | some f =>
      if !serviceOn s || f.fid.isSome then s
      else if !canFetch s then failFetch s f
      else
        match ((List.range 32).map (· + 1)).find? (streamFree s) with
        | none => s
        | some st =>
          let n := nextFetchId s
          let s := { s with obj := { s.obj with
            nextFid := (n + 1) % 1024
            fetches := s.obj.fetches.map fun (x : Fetch) => if x.id = id then { x with fid := some n, stream := st } else x } }
          pushRec .usb (mkRec tyFETCH 0 0 (fetchPayload f n st)) s)

/-- R276: an attempt fails: after the first, FETCH_CANCEL is posted, the stream is held apart and the fetch is needed
again with ATTEMPT 2; after the second the request ends FAILED_FETCH. -/
def failAttempt (s : State) (f : Fetch) : State :=
  if f.attempt = 1 then
    let s := pushRec .usb (mkRec tyFETCH_CANCEL 0 0 (leBytes 2 (f.fid.getD 0))) s
    { s with obj := { s.obj with
      holds := s.obj.holds ++ [f.stream]
      fetches := s.obj.fetches.map fun (x : Fetch) =>
        if x.id = f.id then { x with fid := none, stream := 0, attempt := 2 } else x } }
  else failFetch s f

/-- The object bytes that a quantised or copied wheel gives. -/
def wheelCover (s : State) (coll : Nat) (b : Bytes) : Nat :=
  match openWheel s coll b with
  | .ok w => if w.tgt = 0 then w.plain.length else if w.tgt = 3 then 132 * w.ncol else 71 * w.ncol
  | .error _ => 0

/-- R272, R275: the bytes of the range that a move reads are among those that the wheels of its fetch give. -/
def rangeCovered (s : State) (f : Fetch) (a : Assembled) : Bool :=
  f.move.all fun id => (s.obj.moves.find? fun m => m.id == id).all fun m =>
    covers a.cover m.req.srcOff (m.req.srcOff + (moveSpan m.req).1)

/-- R276, R277: the wheels of a SEALED answer, where it is whole, in order and verifies, and gives the range that a move
reads: the device asks for the wheels that hold it, which ones is a free choice (notes/assumptions/50.md). -/
def answerWheels (s : State) (f : Fetch) (o : Obj) (bs : Bytes) : Option (List Bytes) :=
  match cutWheels f.count bs with
  | none => none
  | some ws =>
    let a := assemble s o.coll o.size ws
    if (ws.zipIdx.all fun e => wheelNum e.1 == f.start + e.2) && a.bad.isNone && rangeCovered s f a then some ws else none

/-- R276, R333: an answer that does not verify fails its attempt; one that fails with TABLE is not retried. -/
def badAnswer (s : State) (f : Fetch) (o : Obj) (bs : Bytes) : State :=
  let a := if f.form = 0 then none else (cutWheels f.count bs).map (assemble s o.coll o.size)
  if a.any fun x => x.bad.any (·.1 == lsTABLE) then failFetch (countTable lsTABLE s) f else failAttempt s f

/-- R277: a verified answer to a promotion's fetch written into its position; in SEALED form the object is written when
its wheels cover it, until then the next fetch is needed. -/
def fillFetch (s : State) (f : Fetch) (i : Nat) (o : Obj) (pos : Nat) (bs : Bytes) : State :=
  let s := match activePromo s i pos with
    | some r => countMig s r bs.length 0
    | none => s
  let s := { s with obj := { s.obj with fetches := s.obj.fetches.filter fun x => x.id != f.id } }
  if f.form = 0 then
    if pos = 0 then { s with main := mwrite s.main (o.devBase + f.start) bs }
    else s.nearWrite (pos - 1) (o.nearOff (pos - 1) + f.start) bs
  else
    let raw := f.got ++ bs
    let ws := (cutWheels (f.start + f.count) raw).getD []
    let cover := total (ws.map (wheelCover s o.coll))
    if o.size ≤ cover then fillPos s o pos (assemble s o.coll o.size ws).mem 0
    else
      let n := s.obj.nextFetch
      let s := addFetch (advance s) o i 1 (f.start + f.count) (drawn s % 256 + 1) (some pos) none cover
      { s with obj := { s.obj with fetches := s.obj.fetches.map fun (x : Fetch) => if x.id = n then { x with got := raw } else x } }

/-- R272, R277: a verified answer to a move's fetch written to its destination. -/
def moveFetch (s : State) (f : Fetch) (o : Obj) (id : Nat) (bs : Bytes) : State :=
  let s := { s with obj := { s.obj with fetches := s.obj.fetches.filter fun x => x.id != f.id } }
  match moveAt s id with
  | none => s
  | some m =>
    let data := if f.form = 0 then bs
      else mread (assemble s o.coll o.size ((cutWheels f.count bs).getD [])).mem m.req.srcOff (moveSpan m.req).1
    let t := deliverMove s m data
    settle ((moveObjs s m.req).foldl kickMig t) m.ref.g

/-- R276, R277: FETCH_ANSWER: bytes of a stream without an outstanding fetch, or inside the 100 ms after a FETCH_CANCEL,
are discarded. -/
def execFetchAnswer (stream : Nat) (bytes : Bytes) (s : State) : Out :=
  .next (if s.obj.holds.contains stream then s
    else
      match s.obj.fetches.find? (fun f => f.fid.isSome && f.stream == stream) with
      | none => s
      | some f =>
        match objAt s (hIdx f.handle) with
        | none => s
        | some o =>
          let good := if f.form = 0 then bytes.length == f.count else (answerWheels s f o bytes).isSome
          if !good then badAnswer s f o bytes
          else
            match f.pos, f.move with
            | some pos, _ => fillFetch s f (hIdx f.handle) o pos bytes
            | none, some id => moveFetch s f o id bytes
            | none, none => s)

/-- R276: OBJ_FETCH_TMO_EXPIRY. -/
def execObjFetchTmoExpiry (fid : Nat) (s : State) : Out :=
  .next (match s.obj.fetches.find? (fun f => f.fid == some fid) with
    | some f => failAttempt s f
    | none => s)

/-- R276: FETCH_CANCEL_HOLD_END. -/
def execFetchCancelHoldEnd (stream : Nat) (s : State) : Out :=
  .next { s with obj := { s.obj with holds := s.obj.holds.filter (· != stream) } }

/-- R276: the effect of FETCH_NACK. -/
def fetchNack (h : Hdr) (fid : Nat) : Effect := fun _ s =>
    if h.port != .usb then (some (Ans.err stPORT), s)
    else if 1023 < fid then (some (Ans.err stPARAM), s)
    else
      match s.obj.fetches.find? (fun f => f.fid == some fid) with
      | some f => (some (Ans.ok 0), failAttempt s f)
      | none => (some (Ans.ok 0), s)

/-- R276, R581: FETCH_NACK. -/
def execFetchNack (h : Hdr) (fid : Nat) (s : State) : Out :=
  .next (hostCmd h { anyone := true } (fetchNack h fid) (.fetchNack h fid) s)

end Sys2Proof.Machine
end

