-- ==== Sys2Proof/Machine/OwnOps.lean ====
section
/-! DEFINITION. Ownership and change sets (R582-R592), with what an applied set does to the page region (R344), the near
stores (R360) and the fabric (R448-R450). -/

namespace Sys2Proof.Machine

open Sys2Proof

/-! ## The RS registers (R12, R589) -/

/-- A field of an RS register: high bit, low bit, least and greatest value. -/
structure RsField where
  /-- high bit -/
  hi : Nat
  /-- low bit -/
  lo : Nat
  /-- least value -/
  least : Nat
  /-- greatest value -/
  most : Nat
deriving DecidableEq, Repr, Inhabited

/-- An RS register: address, reset value, fields. -/
structure RsReg where
  /-- control-space address -/
  addr : Nat
  /-- reset value -/
  rst : Nat
  /-- fields -/
  fields : List RsField
deriving DecidableEq, Repr, Inhabited

/-- A register of one field that fills the word. -/
def rsWord (addr rst least most : Nat) : RsReg := ⟨addr, rst, [⟨31, 0, least, most⟩]⟩

/-- R368: the reset values of the moulds. -/
def mouldReset (i : Nat) : Nat := [256, 1024, 4096, 16384, 65536, 131072, 0, 0].getD i 0

/-- R404, R380, R280, R317, R435: the RS registers of the blocks ACC to CAVE. -/
def rsStores : List RsReg :=
  [rsWord 0x50020 4 1 16, rsWord 0x50024 256 16 65536] ++
    (List.range 64).map (fun c => rsWord (0x50100 + 4 * c) 1 1 255) ++
    (List.range 4).map (fun c => ⟨0x60000 + 4 * c, 0, [⟨7, 0, 0, 128⟩, ⟨12, 8, 0, 16⟩]⟩) ++
    (List.range 4).map (fun c => rsWord (0x60010 + 4 * c) 0 0 131072) ++
    (List.range 4).map (fun c => rsWord (0x60040 + 4 * c) 0 0 max32) ++
    (List.range 4).map (fun c => rsWord (0x60050 + 4 * c) 0 0 max32) ++
    [rsWord 0x60060 64 16 128, rsWord 0x60064 50 1 1000] ++
    (List.range 8).map (fun i => ⟨0x60080 + 4 * i, mouldReset i, [⟨17, 0, 0, 131072⟩]⟩) ++
    (List.range 64).map (fun c => rsWord (0x60100 + 4 * c) 131072 0 max32) ++
    [rsWord 0x70020 4 1 16, rsWord 0x70024 10 1 1000, rsWord 0x70028 500 50 5000, rsWord 0x7054C 20 5 1000,
     rsWord 0x70550 1000 100 10000, rsWord 0x80010 200 50 1000]

/-- R532, R468, R594, R608: the RS registers of the blocks PWR, FAB, HOST, MGT and ID; FAB_ID's reset value is in OTP. -/
def rsOthers (s : State) : List RsReg :=
  [rsWord 0x120 115200 0 max32, rsWord 0x10708 300 25 900,
   ⟨0x1070C, 0x677, [⟨2, 0, 0, 7⟩, ⟨6, 4, 0, 7⟩, ⟨10, 8, 0, 6⟩]⟩, rsWord 0x10710 100 60 105,
   rsWord 0x10714 150 10 150, ⟨0x10718, 0, [⟨0, 0, 0, 1⟩]⟩] ++
    [⟨0x90000, s.part.fabId, [⟨4, 0, 0, 31⟩]⟩, rsWord 0x90004 0 0 max32, ⟨0x90008, 0, [⟨1, 0, 0, 3⟩, ⟨12, 8, 1, 24⟩]⟩,
     ⟨0x9000C, 0, [⟨5, 0, 0, 63⟩]⟩, ⟨0x90010, 31, [⟨4, 0, 0, 31⟩]⟩, ⟨0x90014, 3, [⟨1, 0, 0, 3⟩]⟩] ++
    (List.range 8).flatMap (fun g =>
      [⟨0x90040 + 8 * g, 0, [⟨23, 0, 0, 2 ^ 24 - 1⟩]⟩, ⟨0x90044 + 8 * g, 0, [⟨5, 0, 0, 63⟩]⟩]) ++
    [rsWord 0xA0004 0 0 max32, rsWord 0xA0008 1000 10 60000, ⟨0xB0004, 0x4C, [⟨6, 0, 0, 127⟩]⟩]

/-- The RS register at an address. -/
def rsAt (s : State) (addr : Nat) : Option RsReg := (rsStores ++ rsOthers s).find? fun r => r.addr == addr

/-- R13: a value with the reserved fields of a register dropped. -/
def RsReg.mask (r : RsReg) (v : Nat) : Nat := total (r.fields.map fun f => bits v f.hi f.lo * 2 ^ f.lo)

/-- The applied value of an RS register. -/
def RsReg.value (r : RsReg) (s : State) : Nat := rsv s r.addr r.rst

/-- R589: values laid over the applied ones; a register at its reset value is not listed. -/
def overlay (s : State) (vs : Tab Nat) : State :=
  { s with rs := vs.foldl (fun t e =>
      if (rsAt s e.1).any fun r => r.rst == e.2 then terase t e.1 else tset t e.1 e.2) s.rs }

/-! ## The page region (R344, R345) -/

/-- R344: KVE_CLASS_c and KVE_FRAMES_c, the settings of the classes. -/
def isClassReg (a : Nat) : Bool := 0x60000 ≤ a && a < 0x60020

/-- The class holds pages. -/
def classBusy (s : State) (c : Nat) : Bool := s.kve.pages.any fun e => e.2.cls == c

/-- R345: La or H changes, or F falls. -/
def classRemade (s t : State) (c : Nat) : Bool :=
  classLayers s c != classLayers t c || classHeads s c != classHeads t c || classFrames t c < classFrames s c

/-- R344: the bytes of an extent. -/
def extentBytes (s : State) (e : Nat × Nat × Nat) : Nat := e.2.2 * classFb s e.1

/-- R344: a further extent, in the lowest free range of the page region that holds it, else at its end. -/
def placeExtent (s : State) (es : List (Nat × Nat × Nat)) (c n : Nat) : List (Nat × Nat × Nat) :=
  if n = 0 ∨ classLayers s c = 0 then es
  else
    let used := es.map fun e => (e.2.1, extentBytes s e)
    let size := n * classFb s c
    let end_ := roundUp ((used.map fun u => u.1 + u.2).foldl max 0) 65536
    let starts := (0 :: used.map fun u => roundUp (u.1 + u.2) 65536).filter fun a =>
      a + size ≤ end_ && rangeFree used a size
    es ++ [(c, (argMin id starts).getD end_, n)]

/-- R344: the extents under the settings of `t`, where those of `s` were applied. -/
def newExtents (s t : State) : List (Nat × Nat × Nat) :=
  if s.kve.pages.isEmpty then
    if !s.host.staged.any fun e => isClassReg e.1 then s.kve.extents
    else (List.range 4).foldl (fun es c => placeExtent t es c (classFrames t c)) []
  else
    let kept := s.kve.extents.filter fun e => !classRemade s t e.1
    (List.range 4).foldl (fun es c =>
      placeExtent t es c (if classRemade s t c then classFrames t c else classFrames t c - classFrames s c)) kept

/-- `t`, the settings laid over `s`, with the page region that they give. -/
def rebuildPages (s t : State) : State := { t with kve := { t.kve with extents := newExtents s t } }

/-! ## CHG_CHECK (R590) -/

/-- A conflict: address, low bit, high bit, reason. -/
abbrev Conflict := Nat × Nat × Nat × Nat

/-- R590 RANGE: a staged field outside its range. HEADS of a class in use is 1 to 16 (R341). -/
def rangeConflicts (s t : State) : List Conflict :=
  s.host.staged.flatMap fun e =>
    match rsAt s e.1 with
    | none => []
    | some r =>
      (r.fields.filter fun f => bits e.2 f.hi f.lo < f.least || f.most < bits e.2 f.hi f.lo).map (fun f => (r.addr, f.lo, f.hi, 1)) ++
        (if r.addr = 0x120 ∧ ¬[115200, 230400, 460800, 921600, 1500000, 3000000].contains e.2 then [(r.addr, 0, 31, 1)] else []) ++
        (if 0x60000 ≤ r.addr ∧ r.addr < 0x60010 ∧ e.2 % 256 ≠ 0 ∧ bits e.2 12 8 = 0 then [(r.addr, 8, 12, 1)] else []) ++
        (if r.addr = 0x60060 ∧ hoopPool t % 8 ≠ 0 then [(r.addr, 0, 31, 1)] else [])

/-- R368: the mould bounds. -/
def moulds (s : State) : List Nat := (List.range 8).map fun i => rsv s (0x60080 + 4 * i) (mouldReset i)

/-- R368: bounds from index `i` on: multiples of 16 that ascend strictly to 131,072, then zeros. -/
def mouldBad (last : Nat) : Nat → List Nat → Option Nat
  | i, [] => if last = 131072 then none else some i
  | i, b :: bs =>
    if last = 131072 then if b = 0 then mouldBad last (i + 1) bs else some i
    else if b % 16 = 0 ∧ last < b ∧ b ≤ 131072 then mouldBad b (i + 1) bs
    else some i

/-- R590 ORDER: mould bounds, watermarks. -/
def orderConflicts (t : State) : List Conflict :=
  (match mouldBad 0 0 (moulds t) with
    | some i => [(0x60080 + 4 * min i 7, 0, 17, 2)]
    | none => []) ++
    ((List.range 4).filter fun c => rsv t (0x60040 + 4 * c) 0 < rsv t (0x60050 + 4 * c) 0).map fun c => (0x60040 + 4 * c, 0, 31, 2)

/-- The lowest address of some registers that is staged, or the lowest of them. -/
def stagedAmong (s : State) (as : List Nat) : Nat :=
  ((as.find? fun a => (tget s.host.staged a).isSome) <|> as.head?).getD 0

/-- R590 CAPACITY: frames, extents, near store, envelope. -/
def capacityConflicts (s t : State) : List Conflict :=
  let fs := (List.range 4).map fun c => 0x60010 + 4 * c
  let u := rebuildPages s t
  (if 131072 < total ((List.range 4).map (framesSet t)) then [(stagedAmong s fs, 0, 31, 3)] else []) ++
    (if (List.range 4).any fun c => 16 < (u.kve.extents.filter (·.1 == c)).length then [(stagedAmong s fs, 0, 31, 3)] else []) ++
    (if pageRegion s < pageRegion u ∧
        mainSize s < 512 * 2 ^ 20 + pageRegion u + mainReserved s + mainPinned s + stagingBytes s then
      [(stagedAmong s (((List.range 4).map fun c => 0x60000 + 4 * c) ++ fs), 0, 31, 3)] else []) ++
    (if nearSize < objCodeArea t * 2 ^ 20 + hoopShare t + 16 * 2 ^ 20 then [(stagedAmong s [0x60060, 0x70020], 0, 31, 3)] else []) ++
    (if rsv t 0x10708 300 * 100 < s.part.minActive then [(0x10708, 0, 31, 3)] else [])

/-- R281: the first of some places in the code area that is free, for each native body in order. -/
def codePlaces (area : Nat) : List (Nat × Nat) → List Kernel → Option (List Kernel)
  | _, [] => some []
  | used, k :: ks =>
    match argMin id ((0 :: used.map fun r => r.1 + r.2).filter fun a => a + k.len ≤ area && rangeFree used a k.len) with
    | some a => (codePlaces area ((a, k.len) :: used) ks).map ({ k with base := a } :: ·)
    | none => none

/-- R244, R281: the native bodies where a code area of the settings `t` leaves them: as they are where it holds each, else
one after another from its start, past what copies still hold of it; none where it is too small for them
(notes/assumptions/24.md). -/
def packBodies (t : State) : Option (List Kernel) :=
  let ks := t.obj.kernels
  if ks.all fun k => k.base + k.len ≤ areaBase t then some ks
  else codePlaces (areaBase t) ((List.range 8).flatMap fun c => (nearUsed t c).filter fun r => r.1 < areaBase t) ks

/-- R281: the native bodies moved to the places that `packBodies` gives them, in every cluster. -/
def moveBodies (t : State) : State :=
  match packBodies t with
  | none => t
  | some ks =>
    if ks = t.obj.kernels then t
    else
      let bodies (c : Nat) : List Bytes := t.obj.kernels.map fun k => mread (t.nearOf c) k.base k.len
      let u := (List.range 8).foldl (fun u c =>
        (ks.zip (bodies c)).foldl (fun u e => u.nearWrite c e.1.base e.2) u) t
      { u with obj := { u.obj with kernels := ks } }

/-- R345, R360, R281: IN_USE. -/
def useConflicts (s t : State) : List Conflict :=
  ((List.range 4).filter fun c => classRemade s t c && classBusy s c).map (fun c =>
    if classLayers s c != classLayers t c then (0x60000 + 4 * c, 0, 7, 5)
    else if classHeads s c != classHeads t c then (0x60000 + 4 * c, 8, 12, 5) else (0x60010 + 4 * c, 0, 31, 5)) ++
    (if s.kve.hoops.any fun e => hoopShare t < e.2.base * 4096 + hoopBytes s e.2.cls then [(0x60060, 0, 31, 5)] else []) ++
    (if (packBodies t).isNone then [(0x70020, 0, 31, 5)] else [])

/-- R448: the registers of the fabric map. -/
def isMapReg (a : Nat) : Bool := (0x90000 ≤ a && a ≤ 0x90010) || (0x90040 ≤ a && a < 0x90080)

/-- R449, R450 TOPOLOGY, where the set names a register of the fabric map. -/
def topoConflicts (s t : State) : List Conflict :=
  if !s.host.staged.any fun e => isMapReg e.1 then []
  else
    let n := nPkgs t
    let topo := topoOf t
    let nOK := if topo = 0 then n == 1 else if topo = 1 then 2 ≤ n else if topo = 2 then n == 24 else 4 ≤ n && n % 2 == 0
    let partner := rsv t 0x90010 31
    (if fabId t < n then [] else [(0x90000, 0, 4, 4)]) ++
      (if nOK then [] else [(0x90008, 8, 12, 4)]) ++
      (if rsv t 0x9000C 0 = topoPorts topo then [] else [(0x9000C, 0, 5, 4)]) ++
      (if partner = 31 ∨ (partner ≠ fabId t ∧ partner < n) then [] else [(0x90010, 0, 4, 4)]) ++
      ((List.range 8).filter (groupValid t)).flatMap fun g =>
        (if groupMask t g < 2 ^ n then [] else [(0x90040 + 8 * g, 0, 23, 4)]) ++
          (if groupCoord t g < n && bit (groupMask t g) (groupCoord t g) then [] else [(0x90044 + 8 * g, 0, 4, 4)])

/-- R590: the conflict of a set that is named: the one of the lowest address. -/
def checkSet (s : State) : Option Conflict :=
  let t := overlay s s.host.staged
  argMin (fun c => c.1) (rangeConflicts s t ++ orderConflicts t ++ capacityConflicts s t ++ topoConflicts s t ++ useConflicts s t)

/-- R594: the conflict found, kept for CHG_CONFLICT. -/
def noteConflict (c : Conflict) (s : State) : State := { s with host := { s.host with conflict := c } }

/-! ## Discard, stage, apply (R589, R591, R592) -/

/-- R592: a set discarded, with the event. -/
def discardSet (s : State) : State :=
  if s.host.staged.isEmpty ∨ s.host.applying.isSome then s
  else sendEvent evCHG_DISCARDED [] { s with host := { s.host with staged := [] } }

/-- R589: an owner's write to an RS register. -/
def stageWrite (r : RsReg) (v : Nat) (s : State) : State :=
  if s.host.applying.isSome then { s with host := { s.host with refused := satAdd32 s.host.refused 1 } }
  else
    { s with host := { s.host with
      chgTick := if s.host.staged.isEmpty then s.tick else s.host.chgTick
      staged := tset s.host.staged r.addr (r.mask v) } }

/-- R360, R281: copies in near store outside the object area are evicted where nothing holds them there. -/
def emptyArea (s : State) : State :=
  (List.range 8).foldl (fun t c =>
    (t.obj.tab.filter fun e => e.2.inNear c && e.2.posState (c + 1) == 0 && e.2.pins == 0 && !e.2.pinBit &&
        (e.2.nearOff c < areaBase t || areaBase t + areaSize t < e.2.nearOff c + e.2.nearBytes)).foldl (fun t e =>
      if e.2.rw then startEvict t (newMig e.1 (c + 1) true none) else countEvictions (dropNear t e.1 c) 1) t) s

/-- R439, R450, R466: what a new fabric map does to the ports: those not enabled are DISABLED, those enabled or with another
neighbour train. -/
def remapPorts (s t : State) : State :=
  let map (u : State) (k : Nat) : Option (Nat × Nat) := if bit (rsv u 0x9000C 0) k then neighbourOf u (fabId u) k else none
  let changed (a : Nat) : Bool := rsv s a 0 != rsv t a 0
  let whole := changed 0x90004
  let named (q : Nat) : Bool := s.host.staged.any fun e =>
    0x90040 ≤ e.1 && e.1 < 0x90080 && e.1 % 8 == 0 && bit e.2 q
  let back := t.fab.barred.filter named
  { t with fab := { t.fab with
    down := if changed 0x90008 || fabId s != fabId t then []
      else t.fab.down.filter fun e => !(back.contains e.1 || (neighbourOf t e.1 e.2).any fun n => back.contains n.1)
    barred := t.fab.barred.filter fun q => !named q
    lost := t.fab.lost.filter fun q => !named q
    ports := t.fab.ports.zipIdx.map fun e =>
      if e.1.state = 5 then e.1
      else if !bit (rsv t 0x9000C 0) e.2 then { FPort.reset with downs := e.1.downs }
      else if map s e.2 != map t e.2 || fabId s != fabId t || whole || e.1.state == 0 then
        { FPort.reset with state := 2, downs := e.1.downs }
      else e.1 } }

/-- R591: every staged value takes effect in one instant and the set empties. -/
def takeEffect (s : State) : State :=
  let t := rebuildPages s (overlay s s.host.staged)
  let t := remapPorts s t
  let t := { t with host := { t.host with staged := [], applied := satAdd32 t.host.applied 1 } }
  matchLevels ((List.range 4).foldl (fun u c => checkMarks c u) (emptyArea (moveBodies t)))

/-- R572, R590: the answer CONFLICT: the address, and the address, low bit, high bit and reason as small results. -/
def conflictAns (c : Conflict) : Ans :=
  { status := stCONFLICT, detail := c.1, small := le4 c.1 ++ le4 c.2.1 ++ le4 c.2.2.1 ++ le4 c.2.2.2 }

/-- R591: the reply of a pending apply: to its CHG_APPLY, or to nobody for CHG_CTRL. -/
def answerApply (who : Option (Port × Nat)) (a : Ans) (s : State) : State :=
  match who with
  | some (p, tag) => answer p tag a s
  | none => s

/-- R591: a pending apply made where no step is in flight: the check is repeated at that instant. -/
def tryApply (s : State) : State :=
  match s.host.applying with
  | none => s
  | some who =>
    if !s.acc.steps.isEmpty then s
    else
      match checkSet s with
      | some c => answerApply who (conflictAns c) (noteConflict c { s with host := { s.host with applying := none } })
      | none => answerApply who (Ans.ok 0) { (takeEffect s) with host := { (takeEffect s).host with applying := none } }

/-- R450: a set that changes FAB_TOPO, FAB_ID or FAB_SYSID finds a group instance, broadcast or replacement running. -/
def mapBusy (s : State) : Bool :=
  let t := overlay s s.host.staged
  (rsv s 0x90008 0 != rsv t 0x90008 0 || fabId s != fabId t || rsv s 0x90004 0 != rsv t 0x90004 0) &&
    (s.gra.graphs.any (fun e => e.2.group && e.2.run.isSome) || s.wgt.loads.any (fun e => e.2.bcast) ||
      !s.wgt.bcasts.isEmpty || s.wgt.repl.isSome)

/-- R591: an apply asked for: the answer with which it ends at once, or pending. -/
def askApply (who : Option (Port × Nat)) (s : State) : Option Ans × State :=
  match checkSet s with
  | some c => (some (conflictAns c), noteConflict c s)
  | none =>
    if mapBusy s || s.host.applying.isSome then (some (Ans.err stBUSY), s)
    else if s.host.staged.isEmpty then (some (Ans.ok 0), s)
    else (none, { s with host := { s.host with applying := some who } })

/-! ## Ownership (R582-R587) -/

/-- R582: the rank of a port; equal fields fall back on the default order. -/
def portRank (s : State) (p : Port) : Nat :=
  let i := match p with
    | .usb => 0
    | .mgt => 1
    | .fabric => 2
    | .monitor => 3
  bits s.part.ownPrio (2 * i + 1) (2 * i) * 4 + i

/-- R583: the owner changes: OWNER_CHANGED with the old and the new port; a set not pending is discarded (R592). -/
def setOwner (p : Option Port) (s : State) : State :=
  if s.host.owner = p then s
  else
    let old := s.host.owner
    let s := { s with host := { s.host with owner := p, changes := satAdd32 s.host.changes 1 } }
    discardSet (sendEvent evOWNER_CHANGED (le4 (portCode old) ++ le4 (portCode p)) s)

/-- R583: an election opens. -/
def openElection (s : State) : State := { s with host := { s.host with ownState := 1, claims := [] } }

/-- R586: a handover in progress ends STATE. -/
def endHandover (s : State) : State :=
  if s.host.ownState = 3 then
    let t := { s with host := { s.host with ownState := 2, target := none } }
    match s.host.owner, s.host.target with
    | some p, some (_, tag) => answer p tag (Ans.err stSTATE) t
    | _, _ => t
  else s

/-- R586, R587: ownership given up or lapsed: an election opens. -/
def loseOwner (s : State) : State := openElection (setOwner none (endHandover s))

/-- R587: the ownership of a port lapses, and a claim of it in an open election is withdrawn. -/
def lapse (p : Port) (s : State) : State :=
  if s.host.owner = some p then loseOwner s
  else { s with host := { s.host with claims := s.host.claims.filter (·.1 != p) } }

/-- R583: a port becomes the owner. -/
def becomeOwner (p : Port) (s : State) : State :=
  setOwner (some p) { s with host := { s.host with ownState := 2, target := none, claims := [] } }

end Sys2Proof.Machine
end

