-- ==== Sys2Proof/Machine/AccOps.lean ====
section
/-! DEFINITION. Accessions (chapter 11): the table entry, result records, endings, the rows of a commit point, pressings
and page waits (chapter 10), and the twin messages of a commit (R461-R463). -/

namespace Sys2Proof.Machine

open Sys2Proof

/-! ## States (R386) -/

def asFREE : Nat := 0
def asQUEUED : Nat := 1
def asPREFILL : Nat := 2
def asDECODE : Nat := 3
def asPAGE_WAIT : Nat := 4
def asHELD : Nat := 5
def asSUSPENDED : Nat := 6
def asDONE : Nat := 7

/-! ## Outcomes and reasons (R401) -/

def ocNONE : Nat := 0
def ocCOMPLETED : Nat := 1
def ocCANCELLED : Nat := 2
def ocEXPIRED : Nat := 3
def ocEVICTED : Nat := 4
def ocLOST : Nat := 5
def ocGENERATION : Nat := 6
def ocFAULTED : Nat := 7

def rsNONE : Nat := 0
def rsEND_TOKEN : Nat := 1
def rsSTOP_SEQ : Nat := 2
def rsMAX_TOKENS : Nat := 3
def rsMAX_CONTEXT : Nat := 4
def rsCANCEL : Nat := 5
def rsDEADLINE : Nat := 6
def rsPAGES : Nat := 7
def rsSTEP_FAULT : Nat := 8
def rsSTEP_EXC : Nat := 9
def rsCLOSED : Nat := 10
def rsPEER_LOST : Nat := 11
def rsGENERATION : Nat := 12

/-- R400: no deadline. -/
def noDeadline : Nat := max32

/-- An accession outside FREE and DONE. -/
def Acc.live (x : Acc) : Bool := x.state != asFREE && x.state != asDONE

/-- R386, R403: a new state; a HELD or SUSPENDED entry keeps its state and remembers the new one. -/
def Acc.goto (x : Acc) (st : Nat) : Acc :=
  if x.state = asHELD then if x.prev = asSUSPENDED then { x with prevSusp := st } else { x with prev := st }
  else if x.state = asSUSPENDED then { x with prev := st }
  else { x with state := st }

/-- R387: a suspension takes effect. -/
def Acc.suspend (x : Acc) : Acc :=
  if x.state = asHELD then { x with prevSusp := x.prev, prev := asSUSPENDED, susp := false }
  else { x with prev := x.state, state := asSUSPENDED, susp := false }

/-- The state that a hold and a suspension hide. -/
def Acc.under (x : Acc) : Nat :=
  if x.state = asHELD then if x.prev = asSUSPENDED then x.prevSusp else x.prev
  else if x.state = asSUSPENDED then x.prev else x.state

/-- The committed length: 0 before the prefill commit point; n for an accession re-created from twin pages (R464). -/
def Acc.committed (x : Acc) : Nat := if x.past || x.resume.isSome then x.length else 0

/-- R396: the emitted tokens kept, newest last, at most 15. -/
def Acc.recent (x : Acc) : List Nat := x.hist.drop (x.hist.length - min 15 x.newtok)

/-- R384: the 64 bytes of an entry. -/
def accEntry (x : Acc) : Bytes :=
  let page (p : Option Nat) : Bytes := le4 (p.getD (2 ^ 31))
  leBytes 1 x.state ++
    leBytes 1 (b2n x.instep + 2 * b2n (!x.cancel.isEmpty) + 4 * b2n x.susp + 8 * b2n x.late + 16 * b2n x.twin + 32 * b2n x.greedy) ++
    leBytes 1 (x.band + 4 * b2n x.dlSoft + 8 * x.genpol) ++ leBytes 1 x.coll ++ leBytes 1 x.service ++ leBytes 1 x.adapter ++
    leBytes 1 x.stopset ++ leBytes 1 x.prev ++ le4 (x.resume.getD x.length) ++ page x.phead ++ page x.ptail ++
    leBytes 2 (x.hoop.getD 0xFFFF) ++ leBytes 1 x.topk ++ leBytes 1 (x.drafts + 16 * x.draftMax) ++ leBytes 2 x.temp ++
    leBytes 2 x.topp ++ le4 x.deadline ++ leBytes 8 x.seed ++ le4 x.tag ++ le4 x.newtok ++ le4 x.maxnew ++ le4 x.gen ++
    le4 x.prompt ++ le4 x.accepted

/-! ## Result records (R401, R402) -/

/-- R401: the payload of a result record. -/
def resultBytes (a : Nat) (x : Acc) (toks : List Nat) (late final : Bool) (acceptedN oc rs gen pos res serial : Nat) : Bytes :=
  leBytes 2 a ++ leBytes 1 toks.length ++
    leBytes 1 (b2n late + 2 * b2n final + 4 * acceptedN + 64 * b2n x.restarted) ++ leBytes 1 oc ++ leBytes 1 rs ++
    leBytes 1 x.coll ++ [0] ++ le4 x.tag ++ le4 gen ++ le4 pos ++ le4 res ++
    toks.flatMap le4 ++ zeros (36 - 4 * toks.length) ++ le4 serial

/-- R399, R402: the cancels of an ended accession acknowledged. -/
def ackCancels (s : State) (a : Nat) (ok : Bool) : State :=
  match accAt s a with
  | none => s
  | some x =>
    x.cancel.foldl (fun t c =>
      let t := { t with acc := if ok then { t.acc with cancels := satAdd32 t.acc.cancels 1 }
        else { t.acc with tooLate := satAdd32 t.acc.tooLate 1 } }
      answer c.1 c.2 (Ans.err (if ok then stOK else stTOO_LATE)) t)
      (modAcc s a fun x => { x with cancel := [] })

/-- R401, R463: a record of an accession queued, or held behind its TWIN_STATE. A FINAL record is followed by the
acknowledgement of its cancels (R402). -/
def queueResult (s : State) (a : Nat) (rec : Bytes) (hold : Bool) : State :=
  match accAt s a with
  | none => s
  | some x =>
    if hold || !x.heldRecs.isEmpty then modAcc s a fun x => { x with heldRecs := x.heldRecs ++ [rec] }
    else
      let s := pushRec x.port (mkRec tyRESULT x.tag 0 rec) s
      if bit (bnum rec 3 1) 1 then ackCancels s a (bnum rec 4 1 == ocCANCELLED) else s

/-- R463: the records held for a twin accession are queued. -/
def releaseHeld (s : State) (a : Nat) : State :=
  match accAt s a with
  | none => s
  | some x => x.heldRecs.foldl (fun t r => queueResult t a r false) (modAcc s a fun x => { x with heldRecs := [] })

/-! ## Twins (R460-R463) -/

/-- R460 FAB_TWIN_PARTNER, where one is named and not lost. -/
def twinPartner (s : State) : Option Nat :=
  let p := rsv s 0x90010 31
  if p = 31 ∨ s.fab.lost.contains p then none else some p

/-- R461: a twin is given up: TWIN cleared, TWIN_BROKEN sent, held records queued. -/
def breakTwin (s : State) (a : Nat) : State :=
  match accAt s a with
  | some x =>
    if x.twin then
      let s := modAcc s a fun x => { x with twin := false }
      let s := { s with
        kve := { s.kve with pages := s.kve.pages.map fun e => if e.2.acc = a then (e.1, { e.2 with twin := false }) else e }
        fab := { s.fab with twinCopies := s.fab.twinCopies.filter (·.1 != a) } }
      releaseHeld (sendEvent evTWIN_BROKEN (le4 a ++ le4 x.tag) s) a
    else s
  | none => s

/-- R463: T, the pages of an accession that are TWIN_DONE. -/
def twinPages (s : State) (a : Nat) : Nat := (s.kve.pages.filter fun e => e.2.acc == a && e.2.twinDone).length

/-- R447, R463: TWIN_STATE for an accession, with the tokens at positions min(16T, n − 14) to n. TYPE 0x0A serves two
messages; the body's first number, 0, marks TWIN_STATE. -/
def sendTwinState (s : State) (a : Nat) : State :=
  match accAt s a, twinPartner s with
  | some x, some p =>
    let t := twinPages s a
    let from_ := min (16 * t) (x.length - 14)
    let toks := x.hist.drop (x.hist.length - min 41 (x.length + 1 - from_))
    sendCtl p 0x0A 0xFF ([0, a] ++ (accEntry x).map BitVec.toNat ++ [t] ++ toks) s
  | _, _ => s

/-- R462: a VALID page of a TWIN accession copied to the partner on VC 3. -/
def sendTwinPage (s : State) (a pn : Nat) : State :=
  match twinPartner s, tget s.kve.pages pn, accAt s a with
  | some p, some e, some x =>
    let data := mread s.kve.frames (frameKey s e.cls e.frame) (pageBytes s e.cls)
    let head := le4 (65536 + pn) ++ le4 a ++ le4 x.coll ++ le4 (classLayers s e.cls) ++ le4 (classHeads s e.cls) ++ le4 e.index
    launchParts 3 p x.coll (65536 + pn) (head ++ data) { s with fab := { s.fab with
      twinCopies := s.fab.twinCopies ++ [(a, pn)], sent := (3, p, 65536 + pn, head ++ data) :: s.fab.sent } }
  | _, _, _ => s

/-! ## Endings (R386, R398, R401) -/

/-- R386: an accession enters DONE: its pages and hoop are freed, its waiting request is gone. -/
def doneAcc (s : State) (a : Nat) : State :=
  let s := freePages (freeHoop s a) a
  let s := { s with kve := { s.kve with waiters := s.kve.waiters.filter (·.acc != a) } }
  let s := { s with fab := { s.fab with twinCopies := s.fab.twinCopies.filter (·.1 != a) } }
  modAcc s a fun x => { x with state := asDONE, instep := false, susp := false }

/-- R401: the outcomes whose FINAL record carries a resume hint. -/
def hasResume (oc : Nat) : Bool := oc == ocEVICTED || oc == ocLOST || oc == ocFAULTED

/-- R401, R404: an accession ends: its FINAL record of some tokens is queued and it enters DONE. -/
def finishAcc (s : State) (a : Nat) (toks : List Nat) (acceptedN oc rs gen pos serial : Nat) (hold : Bool) : State :=
  match accAt s a with
  | none => s
  | some x =>
    let late := x.deadline == 0 && !toks.isEmpty
    let rc := resultBytes a x toks late true acceptedN oc rs gen pos (if hasResume oc then x.committed else 0) serial
    let s := { s with acc := { s.acc with
      expired := if oc = ocEXPIRED then satAdd32 s.acc.expired 1 else s.acc.expired
      lateTok := if late then satAdd32 s.acc.lateTok toks.length else s.acc.lateTok
      tokens := satAdd64 s.acc.tokens toks.length } }
    let s := modAcc (doneAcc s a) a fun x => { x with restarted := false, late := x.late || late }
    let s := if x.twin then sendTwinState s a else s
    queueResult s a rc (hold && x.twin && (twinPartner s).isSome)

/-- R401: an accession ends outside a commit point, with a FINAL record without tokens. -/
def endAcc (s : State) (a oc rs : Nat) : State :=
  match accAt s a with
  | some x => if x.live then finishAcc s a [] 0 oc rs x.gen x.length max32 false else s
  | none => s

/-- R433: RESTART: a new run from the prompt. -/
def restartAcc (s : State) (a : Nat) : State :=
  let s := freePages (freeHoop s a) a
  let s := { s with kve := { s.kve with waiters := s.kve.waiters.filter (·.acc != a) } }
  modAcc s a fun x =>
    { (x.goto asQUEUED) with newtok := 0, length := x.promptN, past := false, hist := [], nextX := [], drafts := 0,
                             restarted := true, resume := none, twin := x.twin }

/-- R433: an accession with committed positions of an older generation meets the new one outside a commit point. -/
def meetGeneration (s : State) (a : Nat) : State :=
  match accAt s a with
  | some x =>
    if x.past && x.gen != s.wgt.gens.getD x.service 1 then
      if x.genpol = 1 then restartAcc s a
      else if x.genpol = 2 then endAcc s a ocGENERATION rsGENERATION
      else s
    else s
  | none => s

/-! ## Pressing and page waits (R364, R374-R376) -/

/-- R375, R379: an accession enters PAGE_WAIT. -/
def enterPageWait (s : State) (a cls need : Nat) (quota prefill : Bool) : State :=
  let s := modAcc s a fun x => x.goto asPAGE_WAIT
  let s := { s with kve := { s.kve with
    waiters := s.kve.waiters ++ [{ acc := a, cls := cls, need := need, quota := quota, prefill := prefill }]
    pageWaits := satAdd32 s.kve.pageWaits 1 } }
  kvEvent 4 cls a (((accAt s a).map (·.coll)).getD 0) s

/-- R364 step 1: a hoop with COMMIT of 16 or more takes a page and presses, or its accession waits. -/
def startPressing (s : State) (a : Nat) : State :=
  match accAt s a with
  | some x =>
    match x.hoop, x.hoop.bind (hoopAt s) with
    | some e, some h =>
      if h.commit < 16 ∨ h.pressing.isSome ∨ h.pageWait then s
      else
        match pageDenied s h.cls x.coll 1 with
        | none =>
          let r := takePage s a x.coll h.cls 1 x.twin
          modHoop r.1 e fun h => { h with pressing := some r.2, waited := false }
        | some q => modHoop (enterPageWait s a h.cls 1 q false) e fun h => { h with pageWait := true }
    | _, _ => s
  | none => s

/-- R366: `n` pages reserved at once in order and linked. -/
def linkReserved (a coll cls : Nat) (twin : Bool) : Nat → State → State
  | 0, s => s
  | n + 1, s =>
    let r := drawPage s a coll cls 1 twin
    linkReserved a coll cls twin n (linkPage r.1 a r.2 1)

/-- R366, R379: the reservation of a prefill, after which the watermarks are looked at once. -/
def reservePages (a coll cls : Nat) (twin : Bool) (n : Nat) (s : State) : State :=
  if n = 0 then s else checkMarks cls (linkReserved a coll cls twin n s)

/-- R358: BASEPOS of an accession's hoop, 16 × its page count. -/
def setBase (s : State) (a : Nat) : State :=
  match (accAt s a).bind (·.hoop) with
  | some e => modHoop s e fun h => { h with basePos := 16 * pageCount s a }
  | none => s

/-- R364 step 2: one position of a hoop copied from its slot into the page. -/
def pressPosition (s : State) (h : Hoop) (key p : Nat) : State :=
  let la := classLayers s h.cls
  let hh := classHeads s h.cls
  let slot := mread (s.nearOf h.cluster) (slotAddr s h ((h.head + p) % 24)) (slotBytes s h.cls)
  let part (a n : Nat) : Bytes := (slot.drop a).take n
  (List.range (la * hh)).foldl (fun t i =>
    let so := slotOffs hh (i / hh) (i % hh)
    let po := pageOffs hh (i / hh) (i % hh) p
    let m := mwrite (mwrite t.kve.frames (key + po.1) (part so.1 128)) (key + po.2.1) (part so.2.1 128)
    let m := mwrite (mwrite m (key + po.2.2.1) (part so.2.2.1 2)) (key + po.2.2.2) (part so.2.2.2 2)
    { t with kve := { t.kve with frames := m } }) s

/-- R376: the earliest waiting request of a class within its quota. -/
def nextWaiter (s : State) (cls : Nat) : Option PageReq :=
  s.kve.waiters.find? fun r => r.cls == cls &&
    (accAt s r.acc).any fun x => collPages s x.coll + r.need ≤ pageQuota s x.coll

/-- R376: a waiting request given its pages. -/
def serveWaiter (s : State) (r : PageReq) : State :=
  let s := { s with kve := { s.kve with waiters := s.kve.waiters.filter (· != r) } }
  match accAt s r.acc with
  | none => s
  | some x =>
    if r.prefill then setBase (reservePages r.acc x.coll r.cls x.twin r.need s) r.acc
    else
      match x.hoop with
      | some e =>
        let t := takePage s r.acc x.coll r.cls 1 x.twin
        modHoop t.1 e fun h => { h with pressing := some t.2, pageWait := false, waited := true }
      | none => s

/-- R376: free frames of a class given to the requests that wait, in order. -/
def serveWaiters (cls : Nat) : Nat → State → State
  | 0, s => s
  | fuel + 1, s =>
    match nextWaiter s cls with
    | some r => if r.need ≤ freeFrames s cls then serveWaiters cls fuel (serveWaiter s r) else s
    | none => s

/-! ## Acceptance (R392-R396) -/

/-- R392: what the engine reads of a row's record. -/
structure RowResult where
  /-- NDRAFT -/
  nd : Nat
  /-- T -/
  t : List Nat
  /-- R -/
  r : List Nat
  /-- P -/
  p : List Nat
  /-- Q -/
  q : List Nat
  /-- X -/
  x : List (List Nat)
deriving DecidableEq, Repr, Inhabited

/-- R392: a row's record read from its 512 bytes. -/
def rowResult (b : Bytes) : RowResult :=
  let words (o n : Nat) : List Nat := (List.range n).map fun i => bnum b (o + 4 * i) 4
  { nd := bnum b 0 1, t := words 4 9, r := words 40 8, p := words 72 8, q := words 104 8,
    x := (List.range 9).map fun j => words (136 + 32 * j) 8 }

/-- R393: u, the draw that accepts or rejects a draft at position q. -/
def drawAt (seed q : Nat) : Fl := .fin false (mix (BitVec.ofNat 64 seed) (BitVec.ofNat 64 (64 * q + 16)) / 256) (-24)

/-- R394: draft `i` (from 1) of a row is accepted; `n` is the committed length. -/
def acceptsDraft (x : Acc) (n : Nat) (xs : List Nat) (r : RowResult) (i : Nat) : Bool :=
  if x.greedy then xs.getD (i - 1) 0 == r.t.getD (i - 1) 0
  else
    let p := flExact (r.p.getD (i - 1) 0)
    let q := flExact (r.q.getD (i - 1) 0)
    if p == .nan || q == .nan then false
    else if q.cmp (.fin false 0 0) == some .eq then true
    else ((drawAt x.seed (n + i)).mul q).cmp p == some .lt

/-- R394: the drafts accepted, up to the first rejection. -/
def countAccepted (x : Acc) (n : Nat) (xs : List Nat) (r : RowResult) (d : Nat) : Nat :=
  (((List.range d).map (· + 1)).takeWhile (acceptsDraft x n xs r)).length

/-- R394: the tokens that a decode row emits, before stop detection. -/
def emitted (x : Acc) (xs : List Nat) (r : RowResult) (d a : Nat) : List Nat :=
  xs.take a ++ [if a = d ∨ x.greedy then r.t.getD a 0 else r.r.getD a 0]

/-- R396: tokens examined one at a time from position `q` on: those emitted, and the stop reason. -/
def examine (s : State) : Acc → Nat → List Nat → List Nat × Nat
  | _, _, [] => ([], rsNONE)
  | x, q, t :: ts =>
    let last := x.recent ++ [t]
    let x := { x with newtok := x.newtok + 1, hist := x.hist ++ [t] }
    let set := if x.stopset = 0xFF then none else tget s.acc.stops x.stopset
    let why :=
      if set.any fun z => z.1.contains t then rsEND_TOKEN
      else if set.any fun z => z.2.any fun l => last.drop (last.length - l.length) == l then rsSTOP_SEQ
      else if x.maxnew ≤ x.newtok then rsMAX_TOKENS
      else if 131072 ≤ q then rsMAX_CONTEXT
      else rsNONE
    if why = rsNONE then
      let r := examine s x (q + 1) ts
      (t :: r.1, r.2)
    else ([t], why)

/-! ## The commit point of a row (R394, R397) -/

/-- R541: a page or the hoop of an accession is marked damaged. -/
def rowDamaged (s : State) (a : Nat) (x : Acc) : Bool :=
  s.kve.pages.any (fun e => e.2.acc == a && e.2.damaged) || (x.hoop.bind (hoopAt s)).any (·.damaged)

/-- R362, R367: what the KV engine does at a row's commit point, with `acc` drafts accepted. -/
def commitHoop (s : State) (a : Nat) (row : Row) (kind accN : Nat) : State :=
  if kind = 1 then
    let s := { s with kve := { s.kve with pages := s.kve.pages.map fun e =>
      if e.2.acc = a ∧ e.2.state = 1 then (e.1, { e.2 with state := 2 }) else e } }
    modHoop s row.hoop fun h => { h with commit := h.step, step := 0 }
  else
    let s := { s with kve := { s.kve with truncated := satAdd32 s.kve.truncated (row.d - accN) } }
    modHoop s row.hoop fun h => { h with commit := h.commit + accN + 1, step := 0 }

/-- R397: the outcome and reason of a row that has emitted its tokens. -/
def rowOutcome (s : State) (x : Acc) (why gen : Nat) : Nat × Nat :=
  if why != rsNONE then (ocCOMPLETED, why)
  else if !x.cancel.isEmpty || x.gone then (ocCANCELLED, rsCANCEL)
  else if x.deadline == 0 && !x.dlSoft then (ocEXPIRED, rsDEADLINE)
  else if x.genpol == 2 && gen != s.wgt.gens.getD x.service 1 then (ocGENERATION, rsGENERATION)
  else (ocNONE, rsNONE)

/-- R387, R397, R433: a row without an outcome continues: into SUSPENDED with SUSP_PEND, from its prompt again where its
generation is older and GENPOL is RESTART. -/
def carryOn (s : State) (a gen : Nat) (x : Acc) : State :=
  let s := modAcc s a fun x => if x.susp then x.suspend else x
  if x.genpol == 1 && gen != s.wgt.gens.getD x.service 1 then restartAcc s a else s

/-- R394, R397, R464: a row re-created from twin pages reaches its commit point: it emits nothing, and ends or continues as
any row. -/
def commitResumed (s : State) (a : Nat) (row : Row) (gen serial : Nat) (x : Acc) : State :=
  let s := modAcc (commitHoop s a row 1 0) a fun x =>
    { (x.goto asDECODE) with instep := false, gen := gen, length := row.pos0 + row.npos, past := true, resume := none,
                             drafts := 0, nextX := [] }
  let oc := rowOutcome s x rsNONE gen
  if oc.1 != ocNONE then finishAcc s a [] 0 oc.1 oc.2 gen x.length serial true else carryOn s a gen x

/-- R394-R397, R401: a row's acceptance, stop detection, outcome and record. -/
def commitRow (s : State) (st : Step) (row : Row) (b : Bytes) : State :=
  let a := row.acc
  match accAt s a with
  | none => s
  | some x =>
    if !x.live then s
    else if rowDamaged s a x then
      finishAcc s a [] 0 ocFAULTED rsSTEP_FAULT st.gen x.length st.serial true
    else if !s.keyed x.coll then finishAcc s a [] 0 ocCANCELLED rsCLOSED st.gen x.length st.serial true
    else if x.resume.isSome then commitResumed s a row st.gen st.serial x
    else
      let r := rowResult b
      let accN := if st.kind = 1 then 0 else countAccepted x x.length row.xs r row.d
      let toks := if st.kind = 1 then [r.t.getD 0 0] else emitted x row.xs r row.d accN
      let pos := if st.kind = 1 then x.promptN else x.length + 1
      let hist0 := if st.kind = 1 then row.xs else x.hist
      let e := examine s { x with hist := hist0 } pos toks
      let n := if st.kind = 1 then x.promptN else x.length + accN + 1
      let s := commitHoop s a row st.kind accN
      let s := { s with acc := { s.acc with
        draftsProp := satAdd64 s.acc.draftsProp row.d, draftsAcc := satAdd64 s.acc.draftsAcc accN } }
      let hist := hist0 ++ e.1
      let s := modAcc s a fun x =>
        { x with instep := false, gen := st.gen, length := n, past := true, newtok := x.newtok + e.1.length,
                 hist := hist.drop (hist.length - 41), accepted := satAdd32 x.accepted accN,
                 late := x.late || x.deadline == 0 }
      let oc := rowOutcome s x e.2 st.gen
      if oc.1 != ocNONE then finishAcc s a e.1 accN oc.1 oc.2 st.gen pos st.serial true
      else
        let nd := min (min r.nd x.draftMax) (131071 - n)
        let s := modAcc s a fun x => { x with drafts := nd, nextX := (r.x.getD accN []).take nd }
        let s := modAcc s a fun x => if st.kind = 1 then x.goto asDECODE else x
        let late := x.deadline == 0
        let rc := resultBytes a x e.1 late false accN 0 0 st.gen pos 0 st.serial
        let s := { s with acc := { s.acc with
          lateTok := if late then satAdd32 s.acc.lateTok e.1.length else s.acc.lateTok
          tokens := satAdd64 s.acc.tokens e.1.length } }
        let s := modAcc s a fun x => { x with restarted := false }
        let s := if x.twin then sendTwinState s a else s
        carryOn (queueResult s a rc (x.twin && (twinPartner s).isSome)) a st.gen x

/-- R399: cancels of accessions outside a step act at a commit point, or at once where no step is in flight. -/
def cancelPoint (s : State) : State :=
  (s.acc.tab.filter fun e => e.2.live && !e.2.instep && !e.2.cancel.isEmpty).foldl
    (fun t e => endAcc t e.1 ocCANCELLED rsCANCEL) s

/-- R363, R367, R398: a row of a step that ends without a commit point: its instance's status and how it ended early. -/
def abortRow (s : State) (row : Row) (kind status early : Nat) : State :=
  let a := row.acc
  match accAt s a with
  | none => s
  | some x =>
    if !x.live then s
    else
      let s := modHoop s row.hoop fun h => { h with step := 0 }
      let s := if kind = 1 then setBase (freeReserved s a) a else s
      let s := modAcc s a fun x => { x with instep := false }
      if status = 5 then endAcc s a ocLOST rsPEER_LOST
      else if status = 2 then endAcc s a ocFAULTED rsSTEP_FAULT
      else if status = 1 then endAcc s a ocFAULTED rsSTEP_EXC
      else if status = 3 ∧ early = 1 ∧ x.gone then endAcc s a ocCANCELLED rsCANCEL
      else if status = 3 ∧ early = 1 ∧ s.keyed x.coll then
        let s := modAcc s a fun x => if kind = 1 then x.goto asQUEUED else x.goto asDECODE
        modAcc s a fun x => if x.susp then x.suspend else x
      else if status = 3 ∧ (early = 1 ∨ early = 2) then endAcc s a ocCANCELLED rsCLOSED
      else endAcc s a ocFAULTED rsSTEP_EXC

/-! ## Pace notices (R458, R459) -/

/-- R458: the packages to which a PACE goes: the members of every VALID group that includes this package. -/
def paceTargets (s : State) : List Nat :=
  (List.range 24).filter fun q => q != fabId s && !s.fab.lost.contains q &&
    (List.range 8).any fun g => groupValid s g && bit (groupMask s g) (fabId s) && bit (groupMask s g) q

/-- R458: a PACE sent, where FAB_PACE_CTRL.SEND is set; it stands here until RATE 1,024 ends it. -/
def sendPace (n : PaceN) (s : State) : State :=
  if !bit (rsv s 0x90014 3) 0 then s
  else
    let qs := paceTargets s
    let s := qs.foldl (fun t q => sendCtl q 0x04 0xFF [n.reason, n.rate, n.extra, n.valid] t) s
    { s with fab := { s.fab with
      paceSent := satAdd32 s.fab.paceSent qs.length, paceOut := if n.rate = 1024 then none else some n } }

/-- R459: a START, EDGE or REPORT of a group instance is awaited that depends on package `src`. -/
def awaits (s : State) (src : Nat) : Bool :=
  s.gra.graphs.any fun e =>
    let x := e.2
    let pkg (m : Nat) : Nat := (groupMembers s x.gnum).getD m 31
    let edgeMissing (n : Inst) (d : EdgeE × Nat) : Bool :=
      d.1.dstM == x.member && pkg d.1.srcM == src &&
        (n.runs[d.1.dstT]?).any fun r => r.st.status.isNone && !(r.edges.any fun a => a.1 == d.2)
    x.group && (groupMembers s x.gnum).contains src && src != fabId s &&
      ((x.run.any fun n => x.edges.zipIdx.any (edgeMissing n) || (coordinates s x && !x.reports.any fun a => a.1 == src)) ||
        (x.run.isNone && !x.queue.isEmpty && groupCoord s x.gnum == src && x.starts.isEmpty))

/-- R459, R522: the throttle reason PACE: it enters while this package waits on a sender of a standing notice, and stays
while it waits so, or while MATCH holds a level lowered. -/
def paceReason (s : State) : State :=
  match s.fab.pace.find? fun n => awaits s n.src with
  | some n => thrEnter 7 n.src s
  | none => if s.pwr.unmatched.isEmpty then thrLeave 7 s else s

end Sys2Proof.Machine
end

