-- ==== Sys2Proof/Machine/Acc.lean ====
section
/-! DEFINITION. Accessions and the KV engine: every command and event of chapters 10 and 11. -/

namespace Sys2Proof.Machine

open Sys2Proof

/-! ## Services and stop sets (R382, R383, R396) -/

/-- R382: a service record read from its 64 bytes; reserved fields are dropped (R13). -/
def svcOf (b : Bytes) (coll : Nat) : Svc :=
  let hs (o n : Nat) : List Nat := (List.range n).map fun i => bnum b (o + 4 * i) 4
  { valid := bit (bnum b 0 1) 0, dgraph := bnum b 1 1, pgraph := bnum b 2 1, cls := bnum b 3 1 % 4, batchMax := bnum b 4 2,
    prefillMax := bnum b 8 4, vocab := bnum b 12 4, d := hs 16 4, p := hs 32 4, dComp := bnum b 48 4, pComp := bnum b 52 4,
    coll := coll }

/-- R383: an object that a service may name: writable, of its collection, not going. -/
def svcObj (s : State) (coll h : Nat) : Option Obj :=
  match objOf s h with
  | some (_, o) => if o.rw && o.coll == coll && !o.freeing && !o.closing then some o else none
  | none => none

/-- R383: the objects of one kind of step hold what they must. -/
def svcObjsOK (s : State) (coll : Nat) (hs : List Nat) (comp descNeed rows : Nat) : Bool :=
  (comp :: hs).all (fun h => (svcObj s coll h).isSome) &&
    ((svcObj s coll (hs.getD 3 0)).bind fun o => objRead s o 0 12).any (fun b =>
      (List.range 3).all fun i => bnum b (4 * i) 4 == hs.getD i 0) &&
    ((svcObj s coll (hs.getD 0 0)).any fun o => descNeed ≤ o.size) &&
    ((svcObj s coll (hs.getD 2 0)).any fun o => 512 * rows ≤ o.size)

/-- R383: a VALID record passes the checks. -/
def svcOK (s : State) (v : Svc) : Bool :=
  match graphOf s v.dgraph, graphOf s v.pgraph with
  | some g, some q =>
    g.coll == q.coll && s.keyed g.coll && 1 ≤ v.batchMax && v.batchMax ≤ 256 && 2048 ≤ v.prefillMax &&
      v.prefillMax ≤ 131072 && 1 ≤ v.vocab && v.vocab ≤ 2 ^ 24 &&
      svcObjsOK s g.coll v.d v.dComp (64 + 96 * v.batchMax) v.batchMax &&
      svcObjsOK s g.coll v.p v.pComp (64 + 96 * 256 + 4 * v.prefillMax) 256
  | _, _ => false

/-- R383: the effect of ACC_SERVICE. -/
def accService (svc : Nat) : Effect := fun b s =>
  if s.acc.tab.any fun e => e.2.service == svc && (e.2.live || e.2.arriving != 0) then (some (Ans.err stBUSY), s)
  else
    let v := svcOf b 0
    if v.valid && !svcOK s v then (some (Ans.err stPARAM), s)
    else
      let v := { v with coll := ((graphOf s v.dgraph).map (·.coll)).getD 0 }
      (some (Ans.ok 0), { s with
        acc := { s.acc with svcs := tset s.acc.svcs svc v }, wgt := { s.wgt with gens := s.wgt.gens.set svc 1 } })

/-- R382, R383: ACC_SERVICE. -/
def execAccService (h : Hdr) (svc : Nat) (s : State) : Out :=
  .next (hostCmdPre h { dlen := 64 } (fun _ => if 15 < svc then some (Ans.err stPARAM) else none) (accService svc)
    (.accService h svc) s)

/-- R396: a stop set is well formed: counts and lengths in range, unused fields 0. -/
def stopsetOK (b : Bytes) : Bool :=
  let nend := bnum b 0 1
  let nseq := bnum b 1 1
  nend ≤ 8 && nseq ≤ 4 && bnum b 6 2 == 0 && bnum b 296 24 == 0 &&
    (List.range 4).all (fun i =>
      let l := bnum b (2 + i) 1
      (if i < nseq then 1 ≤ l && l ≤ 16 else l == 0) && bnum b (40 + 64 * i + 4 * l) (4 * (16 - l)) == 0) &&
    bnum b (8 + 4 * nend) (4 * (8 - nend)) == 0

/-- R396: end ids and sequences of a stop set. -/
def stopsetOf (b : Bytes) : List Nat × List (List Nat) :=
  ((List.range (bnum b 0 1)).map fun i => bnum b (8 + 4 * i) 4,
   (List.range (bnum b 1 1)).map fun i => (List.range (bnum b (2 + i) 1)).map fun j => bnum b (40 + 64 * i + 4 * j) 4)

/-- R396: the effect of ACC_STOPSET. -/
def accStopset (set : Nat) : Effect := fun b s =>
  if s.acc.tab.any fun e => e.2.stopset == set && (e.2.live || e.2.arriving != 0) then (some (Ans.err stBUSY), s)
  else if !stopsetOK b then (some (Ans.err stPARAM), s)
  else (some (Ans.ok 0), { s with acc := { s.acc with stops := tset s.acc.stops set (stopsetOf b) } })

/-- R396: ACC_STOPSET. -/
def execAccStopset (h : Hdr) (set : Nat) (s : State) : Out :=
  .next (hostCmdPre h { dlen := 320 } (fun _ => if 254 < set then some (Ans.err stPARAM) else none) (accStopset set)
    (.accStopset h set) s)

/-! ## Submission (R385, R643) -/

/-- R385, R643: every field lies in its range and every reserved field is 0. -/
def submitFieldsOK (h : Hdr) (p : SubmitP) : Bool :=
  h.dlen == 8 + 4 * p.n && p.service < 16 && 1 ≤ p.n && p.n ≤ 131071 && p.policy < 64 && bits p.policy 4 3 != 3 &&
    (p.adapter < 64 || p.adapter == 0xFF) && p.stopset < 256 && 1 ≤ p.topk && p.topk ≤ 64 && p.draftMax ≤ 8 &&
    p.temp < 65536 && 1 ≤ p.topp && p.topp ≤ 0x3F80 && 1 ≤ p.deadline && p.deadline ≤ max32 && 1 ≤ p.maxnew &&
    p.maxnew ≤ 131072

/-- R382: the bytes of a resident graph's object, for Config.proposesDrafts. -/
def graphBytes (s : State) (g : Nat) : Bytes :=
  ((graphOf s g).bind fun x => (objOf s x.handle).bind fun p => objRead s p.2 0 p.2.size).getD []

/-- R385: the status with which ACC_SUBMIT ends when it is accepted, or none. -/
def submitStatus (h : Hdr) (p : SubmitP) (s : State) : Option Nat :=
  if !submitFieldsOK h p then some stPARAM
  else
    match tget s.acc.svcs p.service with
    | none => some stSERVICE
    | some v =>
      if !v.valid then some stSERVICE
      else if 0 < p.draftMax && !Config.proposesDrafts (graphBytes s v.dgraph) then some stPARAM
      else if bit p.policy 5 && ((rsv s 0x90010 31 == 31) ||
          [v.dgraph, v.pgraph].any fun g => (graphOf s g).any fun x => x.group) then some stPARAM
      else if !s.keyed v.coll || (svcObj s v.coll p.prompt).all (fun o => o.size < 4 * p.n) ||
          (p.adapter != 0xFF && (tget s.wgt.adapters p.adapter).all fun a => a.coll != v.coll) then some stACCESS
      else if 4096 ≤ s.acc.tab.length then some stFULL
      else none

/-- R385, R643: an entry as it is accepted. -/
def newAcc (h : Hdr) (p : SubmitP) (coll seq : Nat) : Acc :=
  { state := asFREE, instep := false, cancel := [], susp := false, late := false, twin := bit p.policy 5,
    greedy := p.temp % 32768 == 0, band := p.policy % 4, dlSoft := bit p.policy 2, genpol := bits p.policy 4 3, coll := coll,
    service := p.service, adapter := p.adapter, stopset := p.stopset, prev := 0, prevSusp := 0, length := p.n,
    phead := none, ptail := none, hoop := none, topk := p.topk, drafts := 0, draftMax := p.draftMax, temp := p.temp,
    topp := p.topp, deadline := p.deadline, seed := 0, tag := h.tag, newtok := 0, maxnew := p.maxnew, gen := 0,
    prompt := p.prompt, accepted := 0, promptN := p.n, past := false, port := h.port, seq := seq, firstAdm := 0, hist := [],
    resume := none, nextX := [], restarted := false, arriving := 1, heldRecs := [], gone := false }

/-- The entry that a command's data are awaited for. -/
def arrivingAt (h : Hdr) (s : State) : Option (Nat × Acc) :=
  s.acc.tab.find? fun e => e.2.arriving == 1 && e.2.port == h.port && e.2.tag == h.tag

/-- R385: a FREE entry taken for an accepted command; which one the manual leaves open. -/
def reserveAcc (h : Hdr) (p : SubmitP) (s : State) : State :=
  match pickBelow 4096 (fun i => (accAt s i).isNone) s with
  | (some i, t) =>
    let coll := ((tget t.acc.svcs p.service).map (·.coll)).getD 0
    { t with acc := { t.acc with tab := tset t.acc.tab i (newAcc h p coll t.acc.seq), seq := t.acc.seq + 1 } }
  | (none, t) => t

/-- An entry FREE again; the next accession that takes it is sent events of its own (R379). -/
def freeAcc (s : State) (i : Nat) : State :=
  { s with acc := { s.acc with tab := terase s.acc.tab i }, kve := { s.kve with hoopSent := s.kve.hoopSent.filter (· != i) } }

/-- R385: the effect of ACC_SUBMIT on its data: SEED and the prompt tokens. -/
def accSubmit (h : Hdr) (p : SubmitP) : Effect := fun d s =>
  let s := if (arrivingAt h s).isSome then s else reserveAcc h p s
  match arrivingAt h s with
  | none => (some (Ans.err stFULL), s)
  | some (i, x) =>
    let toks := (List.range p.n).map fun j => bnum d (8 + 4 * j) 4
    if (tget s.acc.svcs p.service).any fun v => toks.any fun t => v.vocab ≤ t then (some (Ans.err stTOKEN), freeAcc s i)
    else
      match svcObj s x.coll p.prompt with
      | none => (some (Ans.err stACCESS), freeAcc s i)
      | some o =>
        if o.size < 4 * p.n then (some (Ans.err stACCESS), freeAcc s i)
        else
          let s := objWrite s (hIdx p.prompt) 0 (toks.flatMap le4)
          let s := modAcc s i fun x => { x with arriving := 2, seed := bnum d 0 8 }
          (some (Ans.ok i), { s with acc := { s.acc with submitted := satAdd64 s.acc.submitted 1 } })

/-- R385: ACC_SUBMIT; while its data are awaited its entry is held and its countdown runs. -/
def execAccSubmit (h : Hdr) (p : SubmitP) (s : State) : Out :=
  let c : Instr := .accSubmit h p
  let t := hostCmdPre h { dlen := 8 } (fun s => (submitStatus h p s).map fun st => Ans.err st) (accSubmit h p) c s
  .next (if (findOut h.port h.tag t).any (fun o => o.waitData && o.cmd == c) && (arrivingAt h t).isNone then reserveAcc h p t
    else t)

/-- R385, R386: PROMPT_WRITTEN. -/
def execPromptWritten (a : Nat) (s : State) : Out :=
  .next (if (accAt s a).any fun x => x.arriving == 2 then modAcc s a fun x => { x with arriving := 0, state := asQUEUED }
    else s)

/-! ## Cancel, suspend, hold (R387, R399, R403) -/

/-- R399: the effect of ACC_CANCEL. -/
def accCancel (h : Hdr) (a tag : Nat) : Effect := fun _ s =>
  match accAt s a with
  | none => (some (Ans.err stNO_ACCESSION), s)
  | some x =>
    if x.state = asFREE ∨ x.tag ≠ tag then (some (Ans.err stNO_ACCESSION), s)
    else if x.state = asDONE then
      (some (Ans.err stTOO_LATE), { s with acc := { s.acc with tooLate := satAdd32 s.acc.tooLate 1 } })
    else
      let s := modAcc s a fun x => { x with cancel := x.cancel ++ [(h.port, h.tag)] }
      (none, if s.acc.steps.isEmpty then cancelPoint s else s)

/-- R399: ACC_CANCEL. -/
def execAccCancel (h : Hdr) (a tag : Nat) (s : State) : Out := .next (hostCmd h {} (accCancel h a tag) (.accCancel h a tag) s)

/-- R387: the effect of ACC_SUSPEND. -/
def accSuspend (a : Nat) : Effect := fun _ s =>
  match accAt s a with
  | none => (some (Ans.err stNO_ACCESSION), s)
  | some x =>
    if x.state = asFREE then (some (Ans.err stNO_ACCESSION), s)
    else if x.live && x.instep then (some (Ans.ok 0), modAcc s a fun x => { x with susp := true })
    else if x.state = asQUEUED ∨ x.state = asDECODE ∨ x.state = asPAGE_WAIT then (some (Ans.ok 0), modAcc s a Acc.suspend)
    else (some (Ans.err stSTATE), s)

/-- R387: ACC_SUSPEND. -/
def execAccSuspend (h : Hdr) (a : Nat) (s : State) : Out := .next (hostCmd h {} (accSuspend a) (.accSuspend h a) s)

/-- R387: the effect of ACC_RESUME. -/
def accResume (a : Nat) : Effect := fun _ s =>
  match accAt s a with
  | none => (some (Ans.err stNO_ACCESSION), s)
  | some x =>
    if x.state = asFREE then (some (Ans.err stNO_ACCESSION), s)
    else if x.state = asSUSPENDED then (some (Ans.ok 0), modAcc s a fun x => { x with state := x.prev })
    else (some (Ans.err stSTATE), s)

/-- R387: ACC_RESUME. -/
def execAccResume (h : Hdr) (a : Nat) (s : State) : Out := .next (hostCmd h {} (accResume a) (.accResume h a) s)

/-- R403: every accession outside FREE and DONE enters HELD. -/
def holdAccs (s : State) : State :=
  { s with acc := { s.acc with tab := s.acc.tab.map fun e =>
      if e.2.live ∧ e.2.state ≠ asHELD then
        (e.1, { e.2 with prevSusp := if e.2.state = asSUSPENDED then e.2.prev else e.2.prevSusp, prev := e.2.state, state := asHELD })
      else e } }

/-- R403: every HELD accession returns to its state before. -/
def resumeAccs (s : State) : State :=
  { s with acc := { s.acc with holdAll := false, holdCool := false, tab := s.acc.tab.map fun e =>
      if e.2.state = asHELD then
        (e.1, { e.2 with state := e.2.prev, prev := if e.2.prev = asSUSPENDED then e.2.prevSusp else e.2.prev })
      else e } }

/-- R403: the effect of ACC_HOLD_ALL. -/
def accHoldAll : Effect := fun _ s => (some (Ans.ok 0), { (holdAccs s) with acc := { (holdAccs s).acc with holdAll := true } })

/-- R403: ACC_HOLD_ALL. -/
def execAccHoldAll (h : Hdr) (s : State) : Out :=
  .next (hostCmd h {} accHoldAll
    (.accHoldAll h) s)

/-- R119, R526: the clocks restart: the domains of the vats return to ON, so that each vat is idle and asks for a grant. -/
def restartVats (s : State) : State :=
  goOnAll ((List.range 16).foldl (fun t v =>
    if t.pwr.dstate.getD v 3 = 0 ∧ (t.vat v).state ≠ 6 then askGrant (t.modVat v fun x => { x with state := 2 }) v else t) s)

/-- R403, R527: the effect of ACC_RESUME_ALL: a coolant stop ends once COOLANT_RESTORED has been sent. -/
def accResumeAll : Effect := fun _ s =>
  if s.pwr.coolStop && !s.pwr.coolBack then (some (Ans.err stSTATE), s)
  else
    let stopped := s.pwr.coolStop
    let s := resumeAccs s
    let s := { s with
      pwr := { s.pwr with coolStop := false, coolBack := false }
      pkg := { s.pkg with alert := s.pkg.alert.filter (· != 1) } }
    let s := if stopped then restartVats s else s
    (some (Ans.ok 0), thrLeave 6 (match s.fab.paceOut with
      | some n => if n.reason = 6 then sendPace { n with rate := 1024, extra := 0 } s else s
      | none => s))

/-- R403: ACC_RESUME_ALL. -/
def execAccResumeAll (h : Hdr) (s : State) : Out := .next (hostCmd h {} accResumeAll (.accResumeAll h) s)

/-- R400, R11: an always-on tick: the tick counter rises, every deadline countdown falls by 1 and stops at 0. -/
def deadlineTick (s : State) : State :=
  if !s.pkg.vstby then s
  else
    thrTick { paceReason s with
      tick := s.tick + 1
      acc := { s.acc with tab := s.acc.tab.map fun e =>
        (e.1, { e.2 with deadline := if e.2.deadline = noDeadline then noDeadline else e.2.deadline - 1 }) } }

/-- R386: FINAL_RECORD_SENT: an accession in DONE whose records have all left, or were discarded, is FREE again. -/
def execFinalRecordSent (a : Nat) (s : State) : Out :=
  .next (match accAt s a with
    | some x =>
      if x.state = asDONE && x.heldRecs.isEmpty &&
          !(s.portq x.port).recs.any fun r => r.ty == tyRESULT && bnum r.payload 0 2 == a then freeAcc s a
      else s
    | none => s)

/-! ## Admission (R388-R391) -/

/-- R389: accessions in the order of admission. -/
def accOrder (xs : List (Nat × Acc)) : List (Nat × Acc) :=
  sortBy (fun e => 3 - e.2.band) (sortBy (fun e => e.2.deadline) (sortBy (fun e => e.2.seq) (sortBy (fun e => e.1) xs)))

/-- R404 ACC_STEPS_MAX. -/
def stepsMax (s : State) : Nat := rsv s 0x50020 4

/-- R365, R388, R403, R591: a step may be admitted now. -/
def admissionOpen (s : State) : Bool :=
  computeOn s && s.acc.steps.length < stepsMax s && !s.acc.tab.any (fun e => e.2.state == asHELD) &&
    s.host.applying.isNone && !s.kve.hoops.any fun e => e.2.pressing.isSome && !e.2.waited

/-- R388, R434: a service may have a step of a kind admitted: VALID, its graph resident with room, none in flight. -/
def svcOpen (s : State) (i : Nat) (v : Svc) (kind : Nat) : Bool :=
  v.valid && s.keyed v.coll && !s.acc.blocked.contains i && !(s.wgt.repl.any fun r => r.stopped && bit r.svcs i) && !s.acc.steps.any (fun st => st.svc == i && st.kind == kind) &&
    (graphOf s (if kind = 0 then v.dgraph else v.pgraph)).any fun g => g.drop.isNone && g.queue.length < 16

/-- A step that could be admitted. -/
structure Cand where
  /-- service -/
  svc : Nat
  /-- 0 decode, 1 prefill -/
  kind : Nat
  /-- accessions of its rows, in order -/
  rows : List Nat
  /-- R388: its cost -/
  cost : Nat
  /-- R371: accessions left out -/
  left : Nat
  /-- R359: accessions passed over for want of a hoop -/
  noHoop : List Nat
  /-- R371: the first accession chosen, whether or not its span fits -/
  first : Option Nat
  /-- the state with the hoops of its rows allocated -/
  st : State
deriving DecidableEq, Repr

/-- R349: the drafts of a decode row. -/
def draftsOf (x : Acc) : Nat := min (min x.drafts x.nextX.length) (131071 - x.length)

/-- R366, R464: step positions of a prefill row: all of the prompt, or what twin pages did not save. -/
def prefillSpan (x : Acc) : Nat × Nat :=
  match x.resume with
  | some p => (p, x.length - p)
  | none => (0, x.promptN)

/-- R370: the pages that a row's spans cover. -/
def rowPages (s : State) (kind a : Nat) (x : Acc) : Nat :=
  if kind = 0 then pageCount s a else ((prefillSpan x).1 + (prefillSpan x).2) / 16

/-- R371: the bytes of the span list of some rows. -/
def spanNeed (ps : List Nat) : Nat := 64 + total (ps.map fun p => 16 * (p / 64 + 1) + 4 * p)

/-- R371: rows dropped from the end until the span list fits. -/
def fitRows (room : Nat) (pages : Nat → Nat) : Nat → List Nat → List Nat
  | 0, rows => rows
  | fuel + 1, rows => if spanNeed (rows.map pages) ≤ room then rows else fitRows room pages fuel rows.dropLast

/-- The size of the object of a handle. -/
def sizeOf_ (s : State) (h : Nat) : Nat := ((objOf s h).map fun p => p.2.size).getD 0

/-- R361, R462: a DECODE accession may join a step. -/
def decodeReady (s : State) (a : Nat) (x : Acc) : Bool :=
  x.state == asDECODE && !x.instep &&
    ((x.hoop.bind (hoopAt s)).any fun h => h.commit ≤ 15 && h.pressing.isNone && !h.pageWait) &&
    (!x.twin || (pagesOf s a).dropLast.all fun e => e.2.twinDone)

/-- R389: the decode step of a service. -/
def decodeCand (s : State) (i : Nat) (v : Svc) : Option Cand :=
  if !svcOpen s i v 0 then none
  else
    let as := ((accOrder (s.acc.tab.filter fun e => e.2.service == i && decodeReady s e.1 e.2)).take v.batchMax).map (·.1)
    let rows := fitRows (sizeOf_ s (v.d.getD 1 0)) (fun a => ((accAt s a).map (rowPages s 0 a)).getD 0) as.length as
    if as.isEmpty then none
    else
      some { svc := i, kind := 0, rows := rows, left := as.length - rows.length, noHoop := [], first := as.head?, st := s,
             cost := total ((if rows.isEmpty then as else rows).map fun a => ((accAt s a).map fun x => draftsOf x + 1).getD 0) }

/-- R366, R376: an accession waits for a prefill step: QUEUED, or with its reservation served. -/
def prefillReady (s : State) (a : Nat) (x : Acc) : Bool :=
  !x.instep && (x.state == asQUEUED || (x.state == asPAGE_WAIT && !x.past && !s.kve.waiters.any fun r => r.acc == a))

/-- R359, R389: prefill rows taken in order, each with the hoop that it would be given; the first row is always taken. -/
def takePrefill (cls room : Nat) : List (Nat × Acc) → Nat → Cand → Cand
  | [], _, c => c
  | (a, x) :: es, n, c =>
    let need := (prefillSpan x).2
    if !c.rows.isEmpty && (room < n + need || 256 ≤ c.rows.length) then c
    else if x.hoop.isSome then takePrefill cls room es (n + need) { c with rows := c.rows ++ [a], cost := c.cost + need }
    else
      match allocHoop c.st a cls with
      | some (t, _) => takePrefill cls room es (n + need) { c with rows := c.rows ++ [a], cost := c.cost + need, st := t }
      | none => takePrefill cls room es n { c with noHoop := c.noHoop ++ [a] }

/-- R359: hoops for the rows of a prefill that hold none. -/
def giveHoops (s : State) (cls : Nat) (rows : List Nat) : State :=
  rows.foldl (fun t a =>
    if (accAt t a).any fun x => x.hoop.isSome then t else ((allocHoop t a cls).map (·.1)).getD t) s

/-- R389: the prefill step of a service. -/
def prefillCand (s : State) (i : Nat) (v : Svc) : Option Cand :=
  if !svcOpen s i v 1 then none
  else
    let es := accOrder (s.acc.tab.filter fun e => e.2.service == i && prefillReady s e.1 e.2)
    let c := takePrefill v.cls v.prefillMax es 0
      { svc := i, kind := 1, rows := [], cost := 0, left := 0, noHoop := [], first := none, st := s }
    let rows := fitRows (sizeOf_ s (v.p.getD 1 0)) (fun a => ((accAt s a).map (rowPages s 1 a)).getD 0) c.rows.length c.rows
    if c.rows.isEmpty && c.noHoop.isEmpty then none
    else
      some { c with rows := rows, left := c.rows.length - rows.length, first := c.rows.head?, st := giveHoops s v.cls rows,
                    cost := total ((if rows.isEmpty then c.rows else rows).map fun a =>
                      ((accAt s a).map fun x => (prefillSpan x).2).getD 0) }

/-- Every step that could be admitted, in service order, decode before prefill. -/
def candidates (s : State) : List Cand :=
  s.acc.svcs.flatMap fun e => (decodeCand s e.1 e.2).toList ++ (prefillCand s e.1 e.2).toList

/-- R389: the best step of a collection. -/
def bestOf (s : State) (cs : List Cand) (coll : Nat) : Option Cand :=
  let mine := cs.filter fun c => (tget s.acc.svcs c.svc).any fun v => v.coll == coll
  let firsts := accOrder (mine.filterMap fun c => c.first.bind fun a => (accAt s a).map fun x => (a, x))
  (firsts.head?).bind fun e => mine.find? fun c => c.first == some e.1

/-- R388: the visit, counted from the collection after the last one served, at which a collection's step is submitted. -/
def visitOf (s : State) (coll cost : Nat) : Nat :=
  let gain := rsv s (0x50100 + 4 * coll) 1 * rsv s 0x50024 256
  let v := max 1 ((cost - nget s.acc.deficit coll + gain - 1) / gain)
  64 * (v - 1) + (coll + 64 - (s.acc.lastColl + 1) % 64) % 64

/-- R388: the deficits after the visits up to number `t`. -/
def deficitsAt (s : State) (bests : List (Nat × Cand)) (t : Nat) : Tab Nat :=
  (List.range 64).foldl (fun d c =>
    let p := (c + 64 - (s.acc.lastColl + 1) % 64) % 64
    if t < p then d
    else if bests.any fun e => e.1 == c then
      nset d c (min max32 (nget d c + ((t - p) / 64 + 1) * (rsv s (0x50100 + 4 * c) 1 * rsv s 0x50024 256)))
    else nset d c 0) s.acc.deficit

/-! ## What an admitted step writes (R370, R391) -/

/-- `n` bytes of which the manual states no value. -/
def freeBytes (s : State) (n : Nat) : Bytes := (List.range n).map fun i => BitVec.ofNat 8 (Config.free (s.fresh + i))

/-- Bytes written to the object of a handle, as far as it reaches. -/
def putObj (s : State) (h off : Nat) (bs : Bytes) : State :=
  match objOf s h with
  | some (i, o) => objWrite s i off (bs.take (o.size - off))
  | none => s

/-- Bytes read from the object of a handle; where no copy can be read the manual states none. -/
def getObj (s : State) (h off n : Nat) : Bytes × State :=
  match (objOf s h).bind fun p => objRead s p.2 off n with
  | some b => (b, s)
  | none => (freeBytes s n, { s with fresh := s.fresh + n })

/-- R369: the mould of a length. -/
def mouldOf (s : State) (n : Nat) : Nat := (((moulds s).zipIdx.find? fun e => n ≤ e.1).map (·.2)).getD 7

/-- R370: a span: mould, row, hoop, first position, frames, hoop positions, HEAD. -/
structure Span where
  /-- mould -/
  mould : Nat
  /-- row -/
  row : Nat
  /-- hoop entry -/
  hoop : Nat
  /-- POS0 -/
  pos0 : Nat
  /-- frame numbers -/
  frames : List Nat
  /-- NHOOP -/
  nhoop : Nat
  /-- HEAD -/
  head : Nat
deriving DecidableEq, Repr, Inhabited

/-- R370: the spans of a row. -/
def rowSpans (s : State) (kind : Nat) (r : Nat × Row) : List Span :=
  let fs := (pagesOf s r.2.acc).map fun e => e.2.frame
  let k := fs.length / 64
  let m := mouldOf s (if kind = 0 then r.2.pos0 + r.2.npos else r.2.pos0 + r.2.npos)
  (List.range (k + 1)).map fun i =>
    let h := hoopAt s r.2.hoop
    { mould := m, row := r.1, hoop := r.2.hoop, pos0 := 1024 * i, frames := (fs.drop (64 * i)).take 64,
      nhoop := if i = k then (h.map fun h => h.commit + h.step).getD 0 else 0,
      head := if i = k then (h.map (·.head)).getD 0 else 0 }

/-- R370: the span object's bytes; FIRST of a mould without spans is a free value. -/
def spanBytes (s : State) (kind : Nat) (rows : List Row) : Bytes :=
  let all := sortBy (·.mould) ((rows.zipIdx.map fun e => (e.2, e.1)).flatMap (rowSpans s kind))
  let table := (List.range 8).flatMap fun i =>
    let mine := all.filter (·.mould == i)
    let first := (all.findIdx? fun p => p.mould == i).getD (Config.free (s.fresh + i))
    le4 first ++ leBytes 2 mine.length ++ leBytes 2 ((mine.map (·.row)).eraseDups).length
  let recs := all.zipIdx.flatMap fun e =>
    let before := total ((all.take e.2).map fun p => p.frames.length)
    leBytes 2 e.1.row ++ leBytes 2 e.1.hoop ++ le4 e.1.pos0 ++ leBytes 1 e.1.frames.length ++ leBytes 1 e.1.nhoop ++
      leBytes 1 e.1.head ++ [0] ++ le4 (64 + 16 * all.length + 4 * before)
  table ++ recs ++ all.flatMap fun p => p.frames.flatMap le4

/-- The place of a prompt token area of `n` bytes in a descriptor object of `size` bytes: a free choice between the end of
the rows and the end of the object (notes/assumptions/26.md). -/
def tokArea (s : State) (rows size n : Nat) : Nat :=
  let lo := 64 + 96 * rows
  lo + 4 * (drawn s % ((size - n - lo) / 4 + 1))

/-- R391: the descriptor bytes of a row; `tok` is the index of its first token in the token area. -/
def rowBytes (x : Acc) (kind : Nat) (r : Row) (tok : Nat) : Bytes :=
  let toks := if kind = 0 then x.hist.getLastD 0 :: r.xs else []
  let room := 131071 - (if kind = 0 then x.length + 1 else r.pos0 + r.npos)
  leBytes 2 r.acc ++ leBytes 2 r.hoop ++ leBytes 1 r.d ++ leBytes 1 x.adapter ++ leBytes 1 x.topk ++ leBytes 1 (b2n x.greedy) ++
    le4 r.pos0 ++ le4 r.npos ++ leBytes 8 x.seed ++ leBytes 2 x.temp ++ leBytes 2 x.topp ++ le4 (if kind = 0 then 0 else tok) ++
    toks.flatMap le4 ++ zeros (36 - 4 * toks.length) ++ leBytes 1 (if room = 0 then 0 else x.draftMax) ++ zeros 27

/-- R391, R464: the prompt tokens of a prefill row: of the prompt object, or the saved ones. -/
def rowTokens (s : State) (x : Acc) : Bytes × State :=
  match x.resume with
  | some p => ((x.hist.drop (x.hist.length - (x.length + 1 - p))).dropLast.flatMap le4, s)
  | none => getObj s x.prompt 0 (4 * x.promptN)

/-- R391: the rows of a prefill step with their tokens gathered, newest state last. -/
def gatherTokens (s : State) (rows : List Row) : List (Row × Nat) × Bytes × State :=
  rows.foldl (fun (r : List (Row × Nat) × Bytes × State) row =>
    match accAt r.2.2 row.acc with
    | none => r
    | some x =>
      let t := rowTokens r.2.2 x
      let n := t.1.length / 4
      let last := (List.range (min 40 n)).map fun j => bnum t.1 (4 * (n - min 40 n + j)) 4
      (r.1 ++ [({ row with xs := if x.resume.isSome then [] else last }, r.2.1.length / 4)], r.2.1 ++ t.1, t.2)) ([], [], s)

/-- R391: the descriptor object, token area included, and the span object written; the rows as the step keeps them. -/
def writeStep (s : State) (v : Svc) (kind band serial gen : Nat) (rows : List Row) : List Row × State :=
  let g := if kind = 0 then (rows.map fun r => (r, 0), ([] : Bytes), s) else gatherTokens s rows
  let hs := if kind = 0 then v.d else v.p
  let off := if kind = 0 then 0 else tokArea g.2.2 rows.length (sizeOf_ s (hs.getD 0 0)) g.2.1.length
  let s := if kind = 0 then g.2.2 else advance g.2.2
  let head := leBytes 1 kind ++ leBytes 1 band ++ leBytes 2 rows.length ++ le4 serial ++ le4 gen ++
    le4 off ++ zeros 48
  let body := g.1.flatMap fun e => ((accAt s e.1.acc).map fun x => rowBytes x kind e.1 e.2).getD []
  let s := putObj s (hs.getD 0 0) 0 (head ++ body)
  let s := if kind = 0 then s else putObj s (hs.getD 0 0) off g.2.1
  let rows := g.1.map (·.1)
  (rows, putObj { s with fresh := s.fresh + 8 } (hs.getD 1 0) 0 (spanBytes s kind rows))

/-! ## The admission itself -/

/-- R359: an accession stays QUEUED for want of a hoop: counted, and the event sent once. -/
def noteHoopWait (s : State) (a : Nat) : State :=
  match accAt s a with
  | none => s
  | some x =>
    let s := { s with kve := { s.kve with hoopWaits := satAdd32 s.kve.hoopWaits 1 } }
    if s.kve.hoopSent.contains a then s
    else
      kvEvent 5 (((tget s.acc.svcs x.service).map (·.cls)).getD 0) a x.coll
        { s with kve := { s.kve with hoopSent := a :: s.kve.hoopSent } }

/-- R361, R366: one accession of a chosen step admitted: the row, or none where it leaves the step for PAGE_WAIT. A prefill
that needs more pages than its class has frames or its quota allows ends EVICTED at once (R378, DEDUCED). -/
def admitRow (s : State) (v : Svc) (kind a : Nat) : Option Row × State :=
  match accAt s a with
  | none => (none, s)
  | some x =>
    match x.hoop with
    | none => (none, s)
    | some e =>
      let span := if kind = 0 then (x.length, draftsOf x + 1) else prefillSpan x
      let need := if kind = 0 ∨ x.state = asPAGE_WAIT then 0 else span.2 / 16
      match (if need = 0 then none else pageDenied s v.cls x.coll need) with
      | some q =>
        let s := enterPageWait s a v.cls need q true
        (none, if classFrames s v.cls < need || pageQuota s x.coll < need then endAcc s a ocEVICTED rsPAGES else s)
      | none =>
        let s := reservePages a x.coll v.cls x.twin need s
        let s := modHoop s e fun h => { h with step := if kind = 0 then span.2 else span.2 % 16,
                                               basePos := if kind = 1 then span.1 + span.2 / 16 * 16 else h.basePos }
        let s := modAcc { s with acc := { s.acc with seq := s.acc.seq + 1 } } a fun y =>
          { y with instep := true, state := if kind = 0 then y.state else asPREFILL,
                   firstAdm := if y.firstAdm = 0 then s.acc.seq + 1 else y.firstAdm,
                   late := y.late || (y.dlSoft && y.deadline == 0) }
        (some { acc := a, hoop := e, d := if kind = 0 then draftsOf x else 0,
                xs := if kind = 0 then x.nextX.take (draftsOf x) else [], pos0 := span.1, npos := span.2 }, s)

/-- The rows of a chosen step admitted in order. -/
def admitRows (s : State) (v : Svc) (kind : Nat) (as : List Nat) : List Row × State :=
  as.foldl (fun (r : List Row × State) a =>
    let x := admitRow r.2 v kind a
    (r.1 ++ x.1.toList, x.2)) ([], s)

/-- R388-R391: a chosen step admitted: its rows, objects, instance and serial. -/
def submitStep (s : State) (c : Cand) (v : Svc) : Option State × State :=
  let s := { s with kve := { s.kve with spanFull := satAdd32 s.kve.spanFull c.left } }
  let r := admitRows s v c.kind c.rows
  if r.1.isEmpty then (none, r.2)
  else
    let s := r.2
    let band := (r.1.map fun row => ((accAt s row.acc).map (·.band)).getD 0).foldl max 0
    let key := 2 * c.svc + c.kind
    let serial := nget s.acc.serials key
    let gen := s.wgt.gens.getD c.svc 1
    let w := writeStep s v c.kind band serial gen r.1
    let s := w.2
    let g := if c.kind = 0 then v.dgraph else v.pgraph
    let inst := ((graphOf s g).map (·.serial)).getD 0
    let hs := if c.kind = 0 then v.d else v.p
    let s := submitInstance s g band (if c.kind = 0 then v.dComp else v.pComp) (hs.getD 3 0) .usb 0 true gen
    (some { s with acc := { s.acc with
      serials := nset s.acc.serials key ((serial + 1) % 2 ^ 32)
      steps := s.acc.steps ++ [{ svc := c.svc, kind := c.kind, graph := g, serial := serial, inst := inst, gen := gen,
                                 rows := w.1, done := none }] } }, s)

/-- R390, R433: the checks at an admission: hard deadlines that have passed, generations met. -/
def admissionChecks (s : State) : State :=
  let s := (s.acc.tab.filter fun e => e.2.live && !e.2.instep && e.2.deadline == 0 && !e.2.dlSoft &&
      (tget s.acc.svcs e.2.service).any (·.valid)).foldl (fun t e => endAcc t e.1 ocEXPIRED rsDEADLINE) s
  (s.acc.tab.filter fun e => e.2.state == asDECODE && !e.2.instep && !s.acc.blocked.contains e.2.service).foldl
    (fun t e => meetGeneration t e.1) s

/-- R464: an accession re-created with all its positions in twin pages needs no prefill: it takes a hoop and decodes. -/
def omitPrefill (s : State) : State :=
  (s.acc.tab.filter fun e => e.2.state == asQUEUED && e.2.resume == some e.2.length).foldl (fun t e =>
    match accAt t e.1, (tget t.acc.svcs e.2.service).bind fun v => allocHoop t e.1 v.cls with
    | some _, some (u, h) => modAcc (modHoop u h fun y => { y with basePos := e.2.length }) e.1 fun x =>
        { x with state := asDECODE, past := true, resume := none }
    | _, _ => t) s

/-- R388: the deficit round-robin; where no row of the chosen step is left, admission passes to the next candidate. `unfit`
are the steps, by service and kind, of which not one row fits (R371), `noted` the accessions already counted as waiting for a
hoop (R359): in one admission each is counted once. -/
def admitSteps : Nat → List (Nat × Nat) → List Nat → State → State
  | 0, _, _, s => s
  | fuel + 1, unfit, noted, s =>
    let cs := (candidates s).filter fun c => !unfit.contains (c.svc, c.kind)
    let bests := (List.range 64).filterMap fun c => (bestOf s cs c).map fun b => (c, b)
    match argMin (fun e => visitOf s e.1 e.2.cost) bests with
    | none =>
      ((cs.flatMap (·.noHoop)).filter fun a => !noted.contains a).foldl noteHoopWait
        { s with acc := { s.acc with deficit := [] } }
    | some (coll, c) =>
      let d := deficitsAt s bests (visitOf s coll c.cost)
      match tget s.acc.svcs c.svc with
      | none => s
      | some v =>
        let t := (c.noHoop.filter fun a => !noted.contains a).foldl noteHoopWait
          { c.st with acc := { c.st.acc with deficit := d } }
        match submitStep t c v with
        | (some t, _) =>
          let cost := total ((t.acc.steps.getLast?.map fun st => st.rows.map (·.npos)).getD [])
          { t with acc := { t.acc with deficit := nset t.acc.deficit coll (nget t.acc.deficit coll - cost), lastColl := coll } }
        | (none, t) =>
          admitSteps fuel (if c.rows.isEmpty then (c.svc, c.kind) :: unfit else unfit) (noted ++ c.noHoop) t

/-- R388: STEP_ADMISSION. -/
def execStepAdmission (s : State) : Out :=
  .next (if admissionOpen s then admitSteps 4129 [] [] (omitPrefill (admissionChecks (emptyArea s))) else s)

/-! ## The commit point (R29, R30) -/

/-- R29, R394-R402: the rows of a step that reached its commit point, in order. -/
def commitRows (s : State) (st : Step) : State :=
  let v := tget s.acc.svcs st.svc
  let res := (v.map fun v => (if st.kind = 0 then v.d else v.p).getD 2 0).getD 0
  let r := getObj s res 0 (512 * st.rows.length)
  let s := { r.2 with acc := { r.2.acc with nsteps := satAdd64 r.2.acc.nsteps 1 } }
  st.rows.zipIdx.foldl (fun t e => commitRow t st e.1 ((r.1.drop (512 * e.2)).take 512)) s

/-- R364, R462: what follows a commit point: pressings, and the pages of a twin's prefill copied. -/
def afterCommit (s : State) (st : Step) : State :=
  st.rows.foldl (fun t row =>
    match accAt t row.acc with
    | some x =>
      if !x.live then t
      else
        let t := if st.kind = 1 && x.twin then
            ((pagesOf t row.acc).filter fun e => e.2.state == 2 && !e.2.twinDone).foldl (fun u e => sendTwinPage u row.acc e.1) t
          else t
        startPressing t row.acc
    | none => t) s

/-- R29, R576: a commit point whose records go to a port with a full record queue waits. -/
def queueRoom (s : State) (st : Step) : Bool :=
  st.rows.all fun row => (accAt s row.acc).all fun x => (s.portq x.port).recs.length < 4096

/-- R29, R30, R398: STEP_COMMIT: the engine takes up a step whose instance on graph `g` has ended. A coolant stop freezes it
(R403). -/
def execStepCommit (g : Nat) (s : State) : Out :=
  .next (match s.acc.steps.find? fun st => st.graph == g && st.done.isSome with
    | none => s
    | some st =>
      if !computeOn s || !queueRoom s st then s
      else
        let ended := st.done.getD (0, 0)
        let s := { s with acc := { s.acc with steps := s.acc.steps.filter (· != st) } }
        if ended.1 = 0 then afterCommit (tryApply (cancelPoint (commitRows s st))) st
        else
          let s := st.rows.foldl (fun t row => abortRow t row st.kind ended.1 ended.2) s
          tryApply (if s.acc.steps.isEmpty then cancelPoint s else s))

/-! ## Pressing, page waits and reclaim (R364, R376-R378) -/

/-- R364: PRESSING_COMPLETE; not while a coolant stop holds the DMA engines (R526). -/
def execPressingComplete (hoop : Nat) (s : State) : Out :=
  .next (match hoopAt s hoop with
    | some h =>
      match h.pressing, h.pressing.bind fun p => tget s.kve.pages p with
      | some pn, some e =>
        if !computeOn s then s
        else
          let s := (List.range 16).foldl (fun t p => pressPosition t h (frameKey s e.cls e.frame) p) s
          let s := linkPage s h.acc pn 2
          let s := modHoop s hoop fun h => { h with
            head := (h.head + 16) % 24, commit := h.commit - 16, basePos := h.basePos + 16, pressing := none }
          let s := { s with kve := { s.kve with pressings := satAdd64 s.kve.pressings 1 } }
          let s := modAcc s h.acc fun x => if x.under = asPAGE_WAIT then x.goto asDECODE else x
          if (accAt s h.acc).any (·.twin) then sendTwinPage s h.acc pn else s
      | _, _ => s
    | none => s)

/-- R376: PAGE_WAIT_SERVED. -/
def execPageWaitServed (cls : Nat) (s : State) : Out :=
  .next (if serviceOn s then serveWaiters cls (s.kve.waiters.length) s else s)

/-- R377: the accessions from which a waiting request may reclaim, those in a running step included. -/
def reclaimHolders (s : State) (r : PageReq) : List (Nat × Acc) :=
  let coll := ((accAt s r.acc).map (·.coll)).getD 0
  s.acc.tab.filter fun e => e.2.live && (!r.quota || e.2.coll == coll) &&
    s.kve.pages.any fun p => p.2.acc == e.1 && p.2.cls == r.cls

/-- R377: the victim: lowest band, latest deadline, most recent first admission, higher index. -/
def victimOf (es : List (Nat × Acc)) : Option Nat :=
  ((sortBy (fun e => e.2.band) (sortBy (fun e => max32 - e.2.deadline)
    (sortBy (fun e => 2 ^ 64 - e.2.firstAdm) (sortBy (fun e => 4096 - e.1) es)))).head?).map (·.1)

/-- R378: a victim evicted. -/
def evictAcc (s : State) (a : Nat) : State :=
  endAcc { s with kve := { s.kve with reclaims := satAdd32 s.kve.reclaims 1 } } a ocEVICTED rsPAGES

/-- R378: victims chosen until the request is served, or none is left to choose. -/
def reclaimFor (r : PageReq) : Nat → State → State
  | 0, s => s
  | fuel + 1, s =>
    if !s.kve.waiters.contains r then s
    else
      let hs := reclaimHolders s r
      if hs.isEmpty then if r.prefill then endAcc s r.acc ocEVICTED rsPAGES else s
      else
        match victimOf (hs.filter fun e => !e.2.instep) with
        | none => s
        | some a =>
          let s := evictAcc s a
          reclaimFor r fuel (serveWaiters r.cls s.kve.waiters.length s)

/-- R377, R378: RECLAIM for the waiting request of an accession. A prefill that needs more pages than its class or its
quota has ends its accession. -/
def execReclaim (a : Nat) (s : State) : Out :=
  .next (match s.kve.waiters.find? fun r => r.acc == a with
    | none => s
    | some r =>
      if !serviceOn s then s
      else
        let coll := ((accAt s a).map (·.coll)).getD 0
        if r.prefill && (classFrames s r.cls < r.need || pageQuota s coll < r.need) then endAcc s a ocEVICTED rsPAGES
        else reclaimFor r (s.acc.tab.length + 1) s)

end Sys2Proof.Machine
end

