-- ==== Sys2Proof/Machine/Cave.lean ====
section
/-! DEFINITION. The cave: every command and event of chapter 08. -/

namespace Sys2Proof.Machine

open Sys2Proof

/-! ## Regions (R289-R297) -/

/-- A block set that no region holds. -/
def unheld (c : Cave) (n : Nat) : Bool := !c.regions.any fun e => e.2.sets.contains n

/-- R317 CAVE_SETS_FREE: block sets that no region holds, with a good block on every channel. -/
def freeSets (s : State) : List Nat :=
  (List.range s.part.regionBlocks).filter fun n => unheld s.cave n && !s.cave.dead.any fun d => d.1 == n

/-- R286: what free sets lack good blocks is gathered in as few of them as can be: each channel counts for itself. -/
def gatherDead (c : Cave) : Cave :=
  match c.dead.find? fun d => unheld c d.1 with
  | none => c
  | some h =>
    (c.dead.filter fun d => d.1 != h.1 && unheld c d.1).foldl (fun c d =>
      if c.dead.contains (h.1, d.2) then c
      else { c with
        map := tset c.map (32 * d.1 + d.2) (c.blockAt (h.1, d.2))
        dead := (h.1, d.2) :: c.dead.filter (· != d) }) c

/-- R288, R295: a journaled change of a region's state. -/
def noteRegion (s : State) (n st : Nat) : State := modCave s (Cave.note (.region n st))

/-- R292: a cave channel is fenced. -/
def caveFenced (s : State) : Bool := s.flt.fenced.any fun f => f.1 == siteCAVE

/-- Reserve `n` free block sets, one after another; which ones the manual leaves open. -/
def pickSets : Nat → List Nat → State → List Nat × State
  | 0, acc, s => (acc, s)
  | n + 1, acc, s =>
    match pickOf ((freeSets s).filter fun x => !acc.contains x) s with
    | (some x, t) => pickSets n (acc ++ [x]) t
    | (none, t) => (acc, t)

/-- R291, R292, R480: the effect of CAVE_OPEN. -/
def caveOpen (coll sets : Nat) : Effect := fun _ s =>
  if s.cave.mode = 4 then (some (Ans.err stMODE), s)
  else if !s.cave.mounted || !s.keyed coll then (some (Ans.err stSTATE), s)
  else if caveFenced s then (some (Ans.err stFENCED), s)
  else if (freeSets s).length < sets then (some (Ans.err stNO_SPACE), s)
  else
    match pickBelow 1023 (fun i => (tget s.cave.regions (i + 1)).isNone) s with
    | (none, s) => (some (Ans.err stNO_SPACE), s)
    | (some i, s) =>
      let p := pickSets sets [] s
      let r : Region := { state := 1, coll := coll, sets := p.1, dir := [], wheels := [], dataLen := 0, data := [],
                          damaged := false, sliceReq := false, sealSeq := 0, noSpare := false }
      (some (Ans.ok (i + 1)), noteRegion (modCave p.2 fun c => { c with regions := tset c.regions (i + 1) r }) (i + 1) 1)

/-- R291: CAVE_OPEN. -/
def execCaveOpen (h : Hdr) (coll sets : Nat) (s : State) : Out := .next (hostCmd h {} (caveOpen coll sets) (.caveOpen h coll sets) s)

/-- R409: the end of the output that a wheel's header gives. -/
def headerEnd (b : Bytes) : Nat :=
  let t := bnum b 24 4
  if bnum b 10 1 = 0 then bnum b 24 8 + bnum b 32 4
  else if bnum b 10 1 = 3 then 33792 * (2 * t + (bits (bnum b 24 8) 40 32 + bnum b 14 2 - 1) / 256 + 1)
  else 36352 * (t + 1)

/-- R293: a wheel's CRC and tag hold under the key of a collection. -/
def wheelVerifies (s : State) (coll : Nat) (b : Bytes) : Bool :=
  wheelCrcOK b && (wheelKey s coll).any fun key =>
    (Config.gcmOpen key ((b.drop 40).take 12) (b.take 64) ((b.drop 64).take (wheelClen b))
      ((b.drop (64 + wheelClen b)).take 16)).isSome

/-- R290, R293: one verified wheel appended to the last directory entry of a region. -/
def appendWheel (r : Region) (b : Bytes) : Region :=
  let at_ := roundUp (max 4096 r.dataLen) 64
  { r with
    data := mwrite r.data at_ b, dataLen := at_ + b.length, wheels := r.wheels ++ [(at_, b.length)],
    dir := r.dir.modify (r.dir.length - 1) fun d => (d.1, d.2.1 + 1, max d.2.2 (headerEnd b)) }

/-- R290: the directory offset: the first multiple of 64 past the wheels. -/
def dirOffset (r : Region) : Nat := roundUp (max 4096 r.dataLen) 64

/-- R290: the end of a region's directory and wheel index, for which CAVE_WRITE leaves room. -/
def dirEnd (r : Region) : Nat := dirOffset r + 16 * r.dir.length + 8 * r.wheels.length

/-- R290: the directory entries and the wheel index. -/
def dirBytes (r : Region) : Bytes :=
  r.dir.flatMap (fun d => le4 d.1 ++ le4 d.2.1 ++ leBytes 8 d.2.2) ++
    r.wheels.flatMap fun w => leBytes 8 (w.1 / 64 + 2 ^ 36 * (w.2 % 2 ^ 20))

/-- R290: the region header; R290 gives its fields but no widths, and the rest as nothing: each field takes 4 bytes, the
directory offset 8, and the CRC-32C the last 4 of the 4,096 (notes/assumptions/52.md). -/
def headerBytes (n : Nat) (r : Region) (seq : Nat) : Bytes :=
  let b := le4 0x5A524356 ++ le4 n ++ le4 r.coll ++ le4 r.dir.length ++ leBytes 8 (dirOffset r) ++ le4 seq ++ zeros 4064
  b ++ le4 (crc32c b)

/-- R293: wheels written one after another: the status with which the writing ends, the wheel's number within the entry,
and the region. -/
def writeWheels (s : State) : Nat → Region → Bytes → Nat × Nat × Region
  | 0, r, _ => (stOK, 0, r)
  | n + 1, r, b =>
    let k := ((r.dir.getLast?).map fun d => d.2.1).getD 0
    let w := b.take (wheelLen b)
    if b.length < 84 || !wheelVerifies s r.coll w then (stBAD_WHEEL, k, r)
    else if setBytes * r.sets.length < dirEnd (appendWheel r w) then (stNO_SPACE, k, r)
    else writeWheels s n (appendWheel r w) (b.drop (wheelLen b))

/-- R293: the effect of CAVE_WRITE on its wheels. -/
def caveWrite (region entry count : Nat) : Effect := fun d s =>
  if s.cave.slice.isNone then (some (Ans.err stNO_SLICE), s)
  else
    match tget s.cave.regions region with
    | none => (some (Ans.err stSTATE), s)
    | some r =>
      if r.state != 1 || !(entry == r.dir.length || entry + 1 == r.dir.length) then (some (Ans.err stSTATE), s)
      else
        let r := if entry = r.dir.length then { r with dir := r.dir ++ [(r.wheels.length, 0, 0)] } else r
        let x := writeWheels s count r d
        (some (Ans.err x.1 x.2.1), modRegion s region fun _ => x.2.2)

/-- R293: CAVE_WRITE; accepted only while a slice is granted. -/
def execCaveWrite (h : Hdr) (region entry count : Nat) (s : State) : Out :=
  .next (hostCmdPre h {} (fun s => if s.cave.mode = 4 then some (Ans.err stMODE)
    else if s.cave.slice.isNone then some (Ans.err stNO_SLICE) else none)
    (caveWrite region entry count) (.caveWrite h region entry count) s)

/-- R290, R295: the effect of CAVE_SEAL: the directory, the wheel index and the header are written. -/
def caveSeal (region : Nat) : Effect := fun _ s =>
    if s.cave.mode = 4 then (some (Ans.err stMODE), s)
    else
      match tget s.cave.regions region with
      | some r =>
        if r.state != 1 then (some (Ans.err stSTATE), s)
        else
          let seq := s.cave.sealSeq
          let s := modRegion s region fun r => { r with
            state := 2, sealSeq := seq
            data := mwrite (mwrite r.data (dirOffset r) (dirBytes r)) 0 (headerBytes region r seq) }
          (some (Ans.ok region), noteRegion (modCave s fun c => { c with sealSeq := (seq + 1) % 2 ^ 32 }) region 2)
      | none => (some (Ans.err stSTATE), s)

/-- R295: CAVE_SEAL; the answer comes once directory, header and journal are durable. -/
def execCaveSeal (h : Hdr) (region : Nat) (s : State) : Out :=
  .next (hostCmd h {} (caveSeal region) (.caveSeal h region) s)

/-- R297, R309: a region starts to be released: its queued relocations are dropped, those under way stop and give their
spare back. -/
def releaseRegion (s : State) (n : Nat) : State :=
  match tget s.cave.regions n with
  | none => s
  | some r =>
    modCave (noteRegion (modRegion s n fun r => { r with state := 3 }) n 3) fun c =>
      { c.stopRelocs (fun x => r.sets.contains x.set) with relocQ := c.relocQ.filter fun b => !r.sets.contains b.1 }

/-- R291, R294: the effect of CAVE_RELEASE. -/
def caveRelease (region : Nat) : Effect := fun _ s =>
  if s.cave.mode = 4 then (some (Ans.err stMODE), s)
  else
    match tget s.cave.regions region with
    | some r =>
      if !(r.state == 2 || r.state == 4 || (r.state == 1 && r.noSpare)) then (some (Ans.err stSTATE), s)
      else if s.obj.tab.any fun e => e.2.home == 1 && e.2.homeref == region then (some (Ans.err stIN_USE), s)
      else (some (Ans.ok region), releaseRegion s region)
    | none => (some (Ans.err stSTATE), s)

/-- R294, R297: CAVE_RELEASE. A WRITING region whose channel has no spare left may be released too (R294). -/
def execCaveRelease (h : Hdr) (region : Nat) (s : State) : Out :=
  .next (hostCmd h {} (caveRelease region) (.caveRelease h region) s)

/-- R291: the effect of CAVE_SLICE. -/
def caveSlice (dur : Nat) (excl : Nat) : Effect := fun _ s =>
    if dur < 10 || 10000 < dur || 1 < excl then (some (Ans.err stPARAM), s)
    else if s.cave.mode = 4 then (some (Ans.err stMODE), s)
    else if !s.cave.mounted then (some (Ans.err stSTATE), s)
    else (some (Ans.ok 0), grantSlice s (excl == 1) dur)

/-- R291, R305: CAVE_SLICE. -/
def execCaveSlice (h : Hdr) (dur excl : Nat) (s : State) : Out :=
  .next (hostCmd h {} (caveSlice dur excl) (.caveSlice h dur excl) s)

/-- R316: every block of the cave that is not retired, by channel: boot, region and spare blocks. -/
def allBlocks (s : State) : List (Nat × Nat) :=
  (List.range s.part.blocks).flatMap fun blk => ((List.range 32).filter fun ch =>
    !(s.cave.retired.getD ch []).contains blk).map fun ch => (blk, ch)

/-- R300, R304, R316: CAVE_SCAN READ: every page of every block read. How many reads of a channel needed retries, and how many
of those a rebuild, are measured facts, free values. -/
def scanRead (s : State) : State :=
  let bs := allBlocks s
  let old (b : Nat × Nat) : Nat := tgetD s.cave.reads (keyOf b.1 b.2) s.cave.readBase
  let hard (ch : Nat) : Nat := Config.free (s.fresh + 2 * ch) % (total ((bs.filter (·.2 == ch)).map fun b => blockPages b.1) + 1)
  let built (ch : Nat) : Nat := Config.free (s.fresh + 2 * ch + 1) % (hard ch + 1)
  let s := modCave { s with fresh := s.fresh + 64 } fun c => { c with
    nReads := satAdd64 c.nReads (total (bs.map fun b => blockPages b.1))
    reads := bs.map fun b => (keyOf b.1 b.2, (old b + blockPages b.1) % 2 ^ 32)
    rdOver := satAdd32 c.rdOver (total (bs.map fun b => overReads s (old b) (blockPages b.1)))
    retries := satAdd32 c.retries (total ((List.range 32).map hard))
    rebuilds := satAdd32 c.rebuilds (total ((List.range 32).map built))
    chRetries := (List.range 32).map hard, chRebuilds := (List.range 32).map built }
  askSlices (queueWorn s)

/-- R316: CAVE_SCAN ERASE: every block erased, programmed and verified: no region, keep record or checkpoint is left. -/
def scanErase (s : State) : State :=
  { modCave s fun c => { c with
      regions := [], reads := [], readBase := 0, repair := [], bad := [], ladder := [], relocQ := [], relocating := [], copied := []
      journal := [], ckpt := [], ckptBase := 0, keepUsed := 0, keepMark := none
      spares := (c.relocating ++ c.copied).foldl (fun l r => l.modify r.ch (· ++ [r.blk])) c.spares
      erases := (allBlocks s).foldl (fun t b => nset t (keyOf b.1 b.2) (nget t (keyOf b.1 b.2) + 1)) c.erases } with
    pwr := { s.pwr with keepSeq := 0, keepSleep := false } }

/-- R316: the effect of CAVE_SCAN. -/
def caveScan (mode : Nat) : Effect := fun _ s =>
  if 1 < mode then (some (Ans.err stPARAM), s)
  else if !s.testMode then (some (Ans.err stMODE), s)
  else if mode = 0 then (some (Ans.ok 0), scanRead s)
  else if s.sec.lifecycle != 0 then (some (Ans.err stMODE), s)
  else (some (Ans.ok 0), scanErase s)

/-- R316: CAVE_SCAN: READ reads every page; ERASE, in lifecycle BLANK, erases, programs and verifies every block. A block that
fails comes as a CAVE_PROGRAM_FAIL of its own. -/
def execCaveScan (h : Hdr) (mode : Nat) (s : State) : Out :=
  .next (hostCmd h {} (caveScan mode) (.caveScan h mode) s)

/-! ## Failed program operations (R294) -/

/-- R294: a block is retired. -/
def retireBlock (s : State) (ch blk : Nat) : State :=
  modCave s fun c => Cave.note (.retire ch blk) { c with retired := c.retired.modify ch (· ++ [blk]) }

/-- R294: the CAVE_WRITEs of a region end NO_SPARE. -/
def endNoSpare (s : State) (n : Nat) : State :=
  [Port.usb, .mgt, .fabric].foldl (fun t p =>
    (t.portq p).outst.foldl (fun t o => match o.cmd with
      | .caveWrite _ region _ _ => if region = n ∧ o.fail.isNone then answer p o.tag (Ans.err stNO_SPARE) t else t
      | _ => t) t) s

/-- R294: the block of a place fails to program: retired, and a spare of its channel takes its place; where none is left the
place has no good block, and the region that is written there can be released only. -/
def failBlock (s : State) (b : Block) : State :=
  match takeSpare (retireBlock s b.2 (s.cave.blockAt b)) b.2 with
  | (some blk, t) =>
    modCave t fun c => Cave.note (.block b.1 b.2 blk) { c with
      map := tset c.map (32 * b.1 + b.2) blk, reads := clearReads c (keyOf blk b.2) }
  | (none, t) =>
    let t := modCave t fun c => { c with dead := c.dead ++ [b] }
    match regionOfSet t b.1 with
    | some e => endNoSpare (modRegion t e.1 fun r => { r with noSpare := true }) e.1
    | none => modCave t gatherDead

/-- R294, R306: the spare block to which a place is being relocated fails to program: retired, and the block is queued
again. -/
def failTarget (s : State) (r : Reloc) : State :=
  let s := retireBlock (modCave s fun c => { c with relocating := c.relocating.filter (· != r) }) r.ch r.blk
  startRelocs (modCave s fun c => { c with relocQ := (r.set, r.ch) :: c.relocQ })

/-- R294, R316: CAVE_PROGRAM_FAIL at a place: of a relocation to a spare block, of a region in WRITING, or of a scan or an erase
of a block that no region holds. No other place is programmed. -/
def execCaveProgramFail (set ch : Nat) (s : State) : Out :=
  .next (if 32 ≤ ch || s.part.regionBlocks ≤ set || !s.cave.mounted || s.cave.dead.contains (set, ch) then s
    else
      match s.cave.relocating.find? fun r => (r.set, r.ch) == (set, ch) with
      | some r => failTarget s r
      | none => if (regionOfSet s set).all fun e => e.2.state == 1 then failBlock s (set, ch) else s)

/-! ## Reads and damage (R298-R313) -/

/-- R289, R306: a page can be read: a data page of a SEALED region, or any page of a block that is being relocated. -/
def readable_ (s : State) (p : CPage) : Bool :=
  ((pageOff p).isSome && (regionOfSet s p.1).any fun e => e.2.state == 2) ||
    s.cave.relocating.any fun r => (r.set, r.ch) == (p.1, p.2.2)

/-- R285, R297-R300, R306, R308, R310, R311, R313: CAVE_PAGE_READ. A page in the repair cache is served from it; a page on a
fenced channel goes to step 2 at once; a damaged page is not read. Parity is read for a rebuild or a relocation only, and no page
of a region that is not SEALED is. -/
def execCavePageRead (set stripe ch : Nat) (ok : Bool) (s : State) : Out :=
  let p : CPage := (set, stripe, ch)
  .next (if !s.cave.mounted || 1024 ≤ stripe || 32 ≤ ch || !readable_ s p || s.cave.bad.contains p then s
    else if repaired s p then servePage s p
    else if s.isFenced siteCAVE ch then setLadder s p 2
    else if ok then readPage s p
    else setLadder (modCave (countReads s (set, ch) 1) fun c => { c with retries := satAdd32 c.retries 1 }) p 1)

/-- R300, R310: READ_RETRY, step 1; the number of re-reads until the first success is measured, a free value. -/
def execReadRetry (set stripe ch : Nat) (ok : Bool) (s : State) : Out :=
  let p : CPage := (set, stripe, ch)
  .next (if ladderStep s p != 1 then s
    else if ok then servePage (setLadder (countReads (advance s) (set, ch) (drawn s % 7 + 1)) p 0) p
    else setLadder (countReads s (set, ch) 7) p 2)

/-- R310, R313: the 31 other pages of a stripe. -/
def otherPages (p : CPage) : List CPage := ((List.range 32).filter (· != p.2.2)).map fun c => (p.1, p.2.1, c)

/-- R310, R312, R313: a further page of the stripe is lost: declared damaged, or on a fenced channel, and not in the repair
cache. -/
def stripeLost (s : State) (p : CPage) : Bool :=
  (otherPages p).any fun q => !repaired s q && (s.cave.bad.contains q || s.isFenced siteCAVE q.2.2)

/-- R300, R310, R311: one of the other pages read: from the repair cache, or from its block, with up to 7 retries, a measured
number, a free value. -/
def readOther (s : State) (q : CPage) : State :=
  if repaired s q || s.cave.bad.contains q || s.isFenced siteCAVE q.2.2 then s
  else
    let k := drawn s % 8
    countReads (modCave (advance s) fun c => { c with retries := satAdd32 c.retries (min k 1) }) (q.1, q.2.2) (k + 1)

/-- R310, R311: a page rebuilt: into the repair cache, where it has room, its block queued for relocation; it serves what
waits on it. -/
def pageRebuilt (s : State) (p : CPage) : State :=
  let bytes := ((regionOfSet s p.1).map fun e => rebuildPage e.2 p).getD (zeros 16384)
  let s := modCave s fun c => { c with
    rebuilds := satAdd32 c.rebuilds 1
    repair := if c.repair.length < 1024 then c.repair ++ [(p, bytes)] else c.repair }
  servePage (startRelocs (queueReloc s (p.1, p.2.2))) p

/-- R300, R310, R311, R313: CAVE_REBUILD, step 2: the other pages of the stripe are read; the page is rebuilt from them, or
declared damaged: where one of them fails beyond step 1 (`ok` false), is damaged already or stands on a fenced channel. -/
def execCaveRebuild (set stripe ch : Nat) (ok : Bool) (s : State) : Out :=
  let p : CPage := (set, stripe, ch)
  .next (if ladderStep s p != 2 then s
    else
      let lost := stripeLost s p
      let s := (otherPages p).foldl readOther (setLadder s p 0)
      if ok && !lost then pageRebuilt s p else servePage (declareDamage s p) p)

/-- R312: PEER_COPY_TIMEOUT. -/
def execPeerCopyTimeout (idx : Nat) (s : State) : Out :=
  .next (if s.cave.peerWait.any (·.1 == idx) then askOrFail s idx else s)

/-! ## Slices and relocation -/

/-- R300, R303, R305, R306: SLICE_END: the duration has passed or the work has run out. -/
def execSliceEnd (s : State) : Out :=
  .next (if s.cave.slice.isNone then s
    else takeAuto (modCave s fun c => { c.checkpoint with slice := none, mode := 2 }))

/-- R311: the pages of a block that the repair cache holds and no read has served. -/
def cachedPages (c : Cave) (r : Reloc) : Nat :=
  (c.repair.filter fun e => e.1.1 == r.set && e.1.2.2 == r.ch && !r.read.contains e.1.2.1).length

/-- R300, R306, R308: RELOCATION_DONE: every page of the block has been read, those that stand in the ladder through it, or
taken from the repair cache, and copied; the pages that no read had served yet are read now. Pages declared damaged stay so in
the new block's map. -/
def execRelocationDone (set ch : Nat) (s : State) : Out :=
  .next (match s.cave.relocating.find? fun r => (r.set, r.ch) == (set, ch) with
    | some r =>
      if s.cave.slice.isNone || s.cave.ladder.any (fun e => e.1.1 == set && e.1.2.2 == ch) then s
      else
        countReads (modCave s fun c => { c with
          relocating := c.relocating.filter (· != r), copied := c.copied ++ [r] }) (set, ch)
          (1024 - r.read.length - cachedPages s.cave r)
    | none => s)

/-- R264, R307: a read of a block is outstanding: a page of it in the ladder, or one that a promotion waits for. -/
def readsOutstanding (s : State) (b : Block) : Bool :=
  s.cave.ladder.any (fun e => (e.1.1, e.1.2.2) == b) ||
    s.obj.mig.any fun r => r.active && r.pages.any fun p => (p.1, p.2.2) == b

/-- R307, R311: the map flips for a relocated place: the new block starts with a counter of 0, the original is erased and
returned to the spares, and the repair cache's pages of it are freed. -/
def flipMap (s : State) (r : Reloc) : State :=
  let old := s.cave.blockAt (r.set, r.ch)
  startRelocs (modCave s fun c => Cave.note (.block r.set r.ch r.blk) (Cave.giveSpare r.ch old { c with
    copied := c.copied.filter (· != r), map := tset c.map (32 * r.set + r.ch) r.blk, reads := clearReads c (keyOf r.blk r.ch)
    relocs := satAdd32 c.relocs 1
    repair := c.repair.filter fun e => !(e.1.1 == r.set && e.1.2.2 == r.ch) }))

/-- R307, R311: MAP_FLIP. -/
def execMapFlip (set ch : Nat) (s : State) : Out :=
  .next (match s.cave.copied.find? fun r => (r.set, r.ch) == (set, ch) with
    | some r => if s.acc.steps.isEmpty && !readsOutstanding s (set, ch) then flipMap s r else s
    | none => s)

/-- R297: the blocks of a region erased, and the region FREE. -/
def eraseRegion (n : Nat) (r : Region) (c : Cave) : Cave :=
  let ps := r.places
  let mine (k : Nat) : Bool := r.sets.contains k
  gatherDead (Cave.note (.region n 0) { c with
    regions := terase c.regions n
    reads := ps.foldl (fun t b => clearReads { c with reads := t } (blockKey c b)) c.reads
    erases := ps.foldl (fun t b => nset t (blockKey c b) (nget t (blockKey c b) + 1)) c.erases
    repair := c.repair.filter fun e => !mine e.1.1
    bad := c.bad.filter fun p => !mine p.1
    ladder := c.ladder.filter fun e => !mine e.1.1 })

/-- R297: ERASE_COMPLETE: the blocks of a RELEASING region return to the free pool; the erase takes a slice. -/
def execEraseComplete (region : Nat) (s : State) : Out :=
  .next (match tget s.cave.regions region with
    | some r => if r.state != 3 || s.cave.slice.isNone then s else modCave s (eraseRegion region r)
    | none => s)

/-- R300: READ_COUNTER_CHECKPOINT. -/
def execReadCounterCheckpoint (s : State) : Out := .next (if s.cave.mounted then modCave s Cave.checkpoint else s)

end Sys2Proof.Machine
end

