-- ==== Sys2Proof/Machine/Tables.lean ====
section
/-! DEFINITION. Decode tables: the commands and the event of chapter 09. -/

namespace Sys2Proof.Machine

open Sys2Proof

/-- The table set changed. -/
def modCmp (s : State) (f : Cmp → Cmp) : State := { s with cmp := f s.cmp }

/-- R332: the slots in a state, in rising order. -/
def slotsIn (s : State) (st : Nat) : List Nat :=
  (List.range 8).filter fun n => (s.cmp.slots[n]?).any fun x => x.state == st

/-- R332: the state of a slot; a number above 7 names none. -/
def slotState (s : State) (n : Nat) : Nat := ((s.cmp.slots[n]?).map (·.state)).getD 0

/-- R334: the status with which a TABLE_LOAD or, with an old slot, a TABLE_REPLACE ends before it looks for a slot. -/
def tableStatus (s : State) (old : Option Nat) (b : Bytes) : Option Nat :=
  if !tableOK b then some stFORMAT
  else if old.any fun n => slotState s n != 2 then some stSTATE
  else if s.cmp.slots.any fun x => (x.state == 2 || x.state == 3) && x.version == bnum b 4 2 then some stVERSION
  else none

/-- R334: a CURRENT slot becomes RETIRING. -/
def retireSlot (s : State) (n : Nat) : State :=
  modCmp s fun c => { c with slots := c.slots.modify n fun x => { x with state := 3 } }

/-- R332, R334: a FREE slot written with a table, CURRENT from then on; the old slot retires in the same instant. -/
def writeSlot (s : State) (n : Nat) (old : Option Nat) (b : Bytes) : State :=
  let s := modCmp s fun c => { c with
    slots := c.slots.set n { state := 2, version := bnum b 4 2, freq := tableFreq b } }
  match old with
  | some o => retireSlot s o
  | none => s

/-- R334, R335: the effect of TABLE_LOAD, or of TABLE_REPLACE with an old slot. -/
def tableWrite (h : Hdr) (old : Option Nat) : Effect := fun b s =>
  match tableStatus s old b with
  | some st => (some (Ans.err st), s)
  | none =>
    match pickOf (slotsIn s 0) s with
    | (some n, t) => (some (Ans.ok n), writeSlot t n old b)
    | (none, _) =>
      let r := slotsIn s 3
      if r.isEmpty then (some (Ans.err stNO_SLOT), s)
      else
        (none, sendEvent evTABLE_WAIT (r.flatMap le4) (modCmp s fun c =>
          { c with waiting := c.waiting ++ [(h.port, h.tag, old, b)], waits := satAdd32 c.waits 1 }))

/-- R334: TABLE_LOAD. -/
def execTableLoad (h : Hdr) (s : State) : Out :=
  .next (hostCmd h { dlen := 528 } (tableWrite h none) (.tableLoad h) s)

/-- R334: TABLE_REPLACE. -/
def execTableReplace (h : Hdr) (slot : Nat) (s : State) : Out :=
  .next (hostCmd h { dlen := 528 } (tableWrite h (some slot)) (.tableReplace h slot) s)

/-- R334: the effect of TABLE_DROP. -/
def tableDrop (slot : Nat) : Effect := fun _ s =>
  if slotState s slot != 2 then (some (Ans.err stSTATE), s)
  else (some (Ans.ok 0), retireSlot s slot)

/-- R334: TABLE_DROP. -/
def execTableDrop (h : Hdr) (slot : Nat) (s : State) : Out := .next (hostCmd h {} (tableDrop slot) (.tableDrop h slot) s)

/-- R335: the commands that wait, taken up in order while a slot is FREE; each is checked again. -/
def serveTables : Nat → State → State
  | 0, s => s
  | fuel + 1, s =>
    match s.cmp.waiting with
    | [] => s
    | (p, tag, old, b) :: rest =>
      match tableStatus s old b, (slotsIn s 0).head? with
      | some st, _ => serveTables fuel (answer p tag (Ans.err st) (modCmp s fun c => { c with waiting := rest }))
      | none, some n =>
        serveTables fuel (answer p tag { status := stWAITED, value := n }
          (writeSlot (modCmp s fun c => { c with waiting := rest }) n old b))
      | none, none => s

/-- R332, R335: TABLE_SLOT_FREE. -/
def execTableSlotFree (n : Nat) (s : State) : Out :=
  .next (match s.cmp.slots[n]? with
    | some x =>
      if x.state = 3 ∧ slotRefs s n = 0 ∧ s.pkg.phase = .ready then
        let s := modCmp s fun c => { c with slots := c.slots.set n Slot.reset }
        serveTables (s.cmp.waiting.length + 1) s
      else s
    | none => s)

end Sys2Proof.Machine
end

