-- ==== Sys2Proof/Machine/WgtOps.lean ====
section
/-! DEFINITION. Loads and broadcasts (chapter 12): a wheel taken into a load, the broadcast tree (R455), recovery of
missing wheels (R419), the end of a broadcast (R420), and the staging of a replacement (R429, R434); the fabric's
messages (chapter 13) share them. -/

namespace Sys2Proof.Machine

open Sys2Proof

/-- `s` with the weights block changed. -/
def modWgt (s : State) (f : Wgt → Wgt) : State := { s with wgt := f s.wgt }

/-- The load of a LOAD_ID. -/
def loadAt (s : State) (id : Nat) : Option Load := tget s.wgt.loads id

/-- `s` with a load changed. -/
def modLoad (s : State) (id : Nat) (f : Load → Load) : State := modWgt s fun w => { w with loads := tmod w.loads id f }

/-- R435 WGT_FAILED, and CMP_TABLE_FAIL for status TABLE: a wheel that failed arrival. -/
def countFailed (st : Nat) (s : State) : State := modWgt (countTable st s) fun w => { w with failed := satAdd32 w.failed 1 }

/-- R435 WGT_WHEELS: a wheel verified. -/
def countWheel (s : State) : State := modWgt s fun w => { w with wheels := satAdd64 w.wheels 1 }

/-- R435 WGT_DUPLICATE. -/
def countDuplicate (s : State) : State := modWgt s fun w => { w with duplicate := satAdd32 w.duplicate 1 }

/-- `k` bytes of a run, missing ones 0. -/
def padTo (k : Nat) (bs : Bytes) : Bytes := (bs ++ zeros k).take k

/-! ## Wheels taken into a load (R410-R412, R415) -/

/-- R415: the TGTFMT values that a load's format admits. -/
def fmtTakes (fmt tgt : Nat) (whey : Bool) : Bool :=
  tgt == 0 || (fmt == 1 && (tgt == 1 || (tgt == 2 && whey))) || (fmt == 2 && tgt == 3)

/-- R410: a wheel opened for a load of an object of `size` bytes of collection `coll`: its header and what the quantiser
makes of it, or the status with which it fails. -/
def openFor (s : State) (x : Load) (coll size : Nat) (b : Bytes) : Except Nat (Wheel × QWheel) :=
  match openWheel s coll b with
  | .error st => .error st
  | .ok w =>
    if x.objId.any (· != w.objId) || !fmtTakes x.fmt w.tgt (x.whey != 0) then .error lsFORMAT
    else if x.count ≤ w.num || size < w.outEnd then .error lsRANGE
    else .ok (w, w.quantise fun i => Config.free (s.fresh + i))

/-- R49, R412: a complete tile's headers, padding, whey entries and whey-index entry written. -/
def writeTile (x : Load) (s : State) (t : Nat) : State :=
  let ps := tileParts x.parts t
  let put (s : State) (h off : Nat) (bs : Bytes) : State :=
    match objOf s h with
    | some (i, _) => objWrite s i off bs
    | none => s
  let size := ((objOf s x.handle).map fun p => p.2.size).getD 0
  let s := (tilePieces t size ps).foldl (fun s p => put s x.handle p.1 p.2) s
  if x.whey = 0 then s else put (put s x.whey (8192 * t) (tileWhey ps)) x.widx (4 * t) (le4 (4096 * t))

/-- R412: the tiles of a load that every wheel that covers them has reached. -/
def fullTiles (x : Load) : List Nat :=
  ((x.parts.map (·.tile)).eraseDups).filter fun t => tileFull (tileParts x.parts t) || x.done.length == x.count

/-- R412: full tiles written and their parts let go. -/
def flushTiles (s : State) (id : Nat) : State :=
  match loadAt s id with
  | none => s
  | some x =>
    let ts := fullTiles x
    modLoad (ts.foldl (writeTile x) s) id fun x => { x with parts := x.parts.filter fun p => !ts.contains p.tile }

/-- R410-R412: a verified wheel written into its object and entered in its load. -/
def writeWheel (s : State) (id i : Nat) (w : Wheel) (q : QWheel) : State :=
  let s := (w.pieces q).foldl (fun t p => objWrite t i p.1 p.2) { s with fresh := s.fresh + 1024 }
  let s := modLoad (countWheel s) id fun x =>
    { x with
      objId := some w.objId, done := x.done ++ [w.num]
      spans := x.spans ++ (if w.tgt = 0 then [(w.off, w.plain.length)] else []), parts := x.parts ++ (w.part q).toList,
      escapes := x.escapes + q.whey.length, sat := satAdd32 x.sat q.sat, nan := x.nan || q.nan }
  flushTiles s id

/-- R19, R339: a wheel passes through an engine: bytes read and written; which engine the manual leaves open. -/
def countArrival (s : State) (nin nout : Nat) : State :=
  match pickDx s 0 with
  | (some e, s) => s.modDx e fun x => { x with bytesIn := satAdd64 x.bytesIn nin, bytesOut := satAdd64 x.bytesOut nout }
  | (none, _) => s

/-- R43, R51: the tile records that a wheel AS_IS completed are well formed. -/
def arrivedOK (s : State) (id i : Nat) (w : Wheel) : Bool :=
  match loadAt s id, (objAt s i).bind (copyOf s) with
  | some x, some (m, a) => w.tgt != 0 || tilesOK x.fmt m a x.spans w.off w.plain.length
  | _, _ => true

/-- R43, R410: a wheel run through the arrival pipeline for a load: done, or the status with which it failed, and whether the
load ends with it at once: TABLE (R333) and a tile that is not well formed (R43) are not retried. -/
def takeWheel (s : State) (id : Nat) (x : Load) (b : Bytes) : Except (Nat × Bool) State :=
  match objOf s x.handle with
  | none => .error (lsFREED, true)
  | some (i, o) =>
    match openFor s x o.coll o.size b with
    | .error st => .error (st, st == lsTABLE)
    | .ok (w, q) =>
      let t := writeWheel s id i w q
      if arrivedOK t id i w then .ok (countArrival t b.length (total ((w.pieces q).map (·.2.length)))) else .error (lsFORMAT, true)

/-- R198, R415: a load all of whose wheels have verified ends: a kernel is lowered or validated first. -/
def finishLoad (s : State) (id : Nat) (x : Load) : State :=
  if x.fmt = 3 then
    match (objOf s x.handle).bind fun p => objRead s p.2 0 p.2.size with
    | none => endLoad s id x lsFREED max32 max32
    | some b =>
      match placeKernel s x.handle b with
      | .ok s => endLoad s id x lsOK max32 max32
      | .error (st, off) => endLoad s id x st max32 off
  else endLoad s id x lsOK max32 max32

/-! ## The broadcast tree (R455) -/

/-- R455: hops between two packages. -/
def hopsBetween (s : State) (p q : Nat) : Nat := if p = q then 0 else ((routeFrom s p q).map (·.2.1)).getD 99

/-- R455: the reader, then the expecting members in their order. -/
def treeOrder (s : State) (m : Man) : List Nat :=
  m.reader :: sortBy (fun q => hopsBetween s m.reader q) ((maskBits 24 m.mask).filter (· != m.reader))

/-- R455: the parent of a member. -/
def treeParent (s : State) (m : Man) (q : Nat) : Option Nat :=
  let before := (treeOrder s m).takeWhile (· != q)
  if q = m.reader then none else argMin (fun p => 32 * hopsBetween s q p + p) before

/-- R455: the children of a member. -/
def treeChildren (s : State) (m : Man) (p : Nat) : List Nat :=
  (treeOrder s m).filter fun q => treeParent s m q == some p

/-- R441: the collection of a wheel's frame: that of the object expected, else of the region that holds the wheels, else open
(notes/assumptions/36.md). -/
def wheelColl (s : State) (oid : Nat) : Nat :=
  match (s.wgt.loads.find? fun e => e.2.objId == some oid).bind fun e => objOf s e.2.handle with
  | some (_, o) => o.coll
  | none =>
    match s.cave.regions.find? fun r => r.2.state == 2 && (List.range r.2.dir.length).any fun e =>
        (entryIndex r.2 e).any fun w => mnum r.2.data (w.2.1 + 16) 4 == oid with
    | some r => r.2.coll
    | none => Config.wheelColl oid % 64

/-- R418: a wheel sent to a member on VC 1. -/
def sendWheel (k : Nat) (b : Bytes) (s : State) (dst : Nat) : State :=
  if s.fab.lost.contains dst then s
  else launch 1 dst (wheelColl s (bnum b 16 4)) b { s with fab := { s.fab with sent := (1, dst, k, b) :: s.fab.sent } }

/-- R418: a wheel forwarded to every child and kept in the retransmit buffer. -/
def forwardWheel (s : State) (load : Nat) (m : Man) (k : Nat) (b : Bytes) : State :=
  let cs := treeChildren s m (fabId s)
  if cs.isEmpty ∨ s.wgt.rtx.any (fun e => e.1 == load && e.2.1 == k) then s
  else
    let s := cs.foldl (sendWheel k b) s
    modWgt s fun w =>
      let r := w.rtx ++ [(load, k, b)]
      { w with rtx := r.drop (r.length - 256) }

/-- The load of this package that takes part in broadcast `load`. -/
def bcastLoad (s : State) (load : Nat) : Option (Nat × Load) :=
  s.wgt.loads.find? fun e => e.2.bcast && e.2.mload == some load

/-! ## Recovery (R419)

The failures of wheel k are kept in `fails`: 1 a re-request is out, 1 + f after f failures, 4 the first direct request is
out, 5 the second. -/

/-- R419: a re-request to the parent, counted. -/
def sendRereq (s : State) (id load k : Nat) (m : Man) : State :=
  match treeParent s m (fabId s) with
  | none => s
  | some p =>
    let s := modLoad (sendCtl p 0x07 m.group [0, load, k] s) id fun x => { x with rereq := x.rereq + 1 }
    modWgt s fun w => { w with rereq := satAdd32 w.rereq 1 }

/-- R419: a direct request to the reader, counted. -/
def sendDirect (s : State) (id load k : Nat) (m : Man) : State :=
  let s := modLoad (sendCtl m.reader 0x07 m.group [2, load, k] s) id fun x =>
    { x with direct := x.direct + 1, directNow := k }
  modWgt s fun w => { w with direct := satAdd32 w.direct 1 }

/-- R419: wheel k of a broadcast failed, was missing, or was answered MISS. -/
def wheelFailed (s : State) (id load k : Nat) (m : Man) : State :=
  match loadAt s id with
  | none => s
  | some x =>
    let f := nget x.fails k
    let s := if f ≤ 3 then modLoad s id fun x => { x with fails := nset x.fails k (f + 1) } else s
    if f ≤ 2 then sendRereq s id load k m else if f = 3 then sendDirect s id load k m else s

/-- R420: a member reports that every wheel it expects has verified. The manual gives this report no message type; the
model sends TYPE 0x03 with the first number 2^32 − 1 (notes/assumptions/27.md). -/
def sendReport (s : State) (load coord group : Nat) (x : Load) : State :=
  sendCtl coord 0x03 group [max32, load, x.rereq, x.direct] s

/-! ## The end of a broadcast (R420) -/

/-- What this package keeps of a broadcast dropped. -/
def dropBcast (s : State) (load : Nat) : State :=
  modWgt s fun w => { w with
    mans := terase w.mans load, bcasts := terase w.bcasts load, rtx := w.rtx.filter (·.1 != load),
    directs := w.directs.filter (·.1 != load) }

/-- R416, R420: the coordinator's record of a broadcast it takes no part in as a member. -/
def coordRecord (s : State) (load : Nat) (b : Bcast) (status : Nat) : State :=
  let x : Load :=
    { handle := 0, whey := 0, widx := 0, fmt := 0, count := 0, stream := 0, objId := none, port := b.port, tag := b.tag,
      bcast := true, mload := none, done := [], fails := [], parts := [], spans := [], escapes := 0, sat := 0, nan := false,
      retries := 0, rereq := b.rereq, direct := b.direct, directNow := 0 }
  pushRec b.port (mkRec tyLOAD b.tag 0 (loadRecord load x status max32 max32)) s

/-- R419, R420: broadcast `load` ends on this package with a status. -/
def endBcast (s : State) (load status firstBad : Nat) : State :=
  let b := tget s.wgt.bcasts load
  let s := match bcastLoad s load with
    | some (id, x) =>
      let x := match b with
        | some b => { x with rereq := b.rereq, direct := b.direct }
        | none => x
      if status = lsOK then finishLoad s id x else endLoad s id x status firstBad max32
    | none => match b with
      | some b => coordRecord s load b status
      | none => s
  dropBcast s load

/-- R420: every expecting member has reported: LOAD_DONE to each, and this package's own objects READY. -/
def checkReports (s : State) (load : Nat) : State :=
  match tget s.wgt.bcasts load with
  | none => s
  | some b =>
    if (maskBits 24 b.mask).all b.reported.contains then
      let s := ((maskBits 24 b.mask).filter (· != fabId s)).foldl (fun t q => sendCtl q 0x06 b.group [load] t) s
      endBcast s load lsOK max32
    else s

/-- R420: a member's report reaches the coordinator. -/
def takeReport (s : State) (load src rereq direct : Nat) : State :=
  match tget s.wgt.bcasts load with
  | none => s
  | some b =>
    if !bit b.mask src || b.reported.contains src then s
    else
      checkReports (modWgt s fun w => { w with bcasts := tmod w.bcasts load fun b =>
        { b with reported := b.reported ++ [src], rereq := b.rereq + rereq, direct := b.direct + direct } }) load

/-- R420: where every expected wheel has verified, this package reports. -/
def reportIfDone (s : State) (load id : Nat) (m : Man) : State :=
  match loadAt s id with
  | none => s
  | some x =>
    if x.done.length != x.count then s
    else if (tget s.wgt.bcasts load).isSome then takeReport s load (fabId s) x.rereq x.direct
    else sendReport s load (groupCoord s m.group) m.group x

/-- R410, R418 step 3: an expected broadcast wheel through the rest of the arrival pipeline. -/
def keepWheel (s : State) (load k : Nat) (m : Man) (b : Bytes) : State :=
  match bcastLoad s load with
  | none => s
  | some (id, x) =>
    if x.done.contains k then countDuplicate s
    else
      let s := if nget x.fails k = 0 then s else modLoad s id fun x => { x with retries := satAdd32 x.retries 1 }
      match takeWheel s id x b with
      | .ok s => reportIfDone s load id m
      | .error (st, last) =>
        if last then endBcast (countFailed st s) load st k else wheelFailed (countFailed st s) id load k m

/-- R333, R418: a broadcast wheel arrives: CRC and table slot, forwarding, then the rest of the pipeline if this member
expects it. -/
def takeBroadcast (s : State) (load k : Nat) (b : Bytes) : State :=
  match tget s.wgt.mans load with
  | none => s
  | some m =>
    if m.count ≤ k then s
    else if wheelUsable s b && wheelNum b == k then keepWheel (forwardWheel s load m k b) load k m b
    else
      match bcastLoad s load with
      | some (id, x) => if x.done.contains k then countDuplicate s else wheelFailed (countFailed lsCRC s) id load k m
      | none => countFailed lsCRC s

/-! ## The reader (R418, R419) -/

/-- The wheels of a directory entry of a region of the reader's cave: number and bytes, none for one that touches a
damaged page. -/
def readerWheels (s : State) (region entry : Nat) : List (Nat × Option Bytes) :=
  match tget s.cave.regions region with
  | some r => (entryIndex r entry).map fun w =>
      (w.1, if s.cave.bad.any fun p => touches r w p then none else some (mread r.data w.2.1 w.2.2))
  | none => []

/-- R300: the pages of a directory entry read. -/
def readEntry (s : State) (region entry : Nat) : State :=
  (((tget s.cave.regions region).map fun r => entryPages r entry).getD []).foldl readPage s

/-- R300: the pages of one wheel of a directory entry read. -/
def readWheel (s : State) (region entry k : Nat) : State :=
  (((tget s.cave.regions region).map fun r => ((entryIndex r entry).filter (·.1 == k)).flatMap fun w =>
    wheelPages r w.2.1 w.2.2).getD []).foldl readPage s

/-- R300, R418: the reader reads the wheels from its cave and sends them in wheel order down the tree; it keeps those that it
expects itself. -/
def readOut (s : State) (load : Nat) (m : Man) : State :=
  let s := readEntry s m.region m.entry
  (readerWheels s m.region m.entry).foldl (fun t w => match w.2 with
    | some b => keepWheel (forwardWheel t load m w.1 b) load w.1 m b
    | none => t) s

/-- R417: a manifest taken: an expected load of its OBJ_ID is joined to it, and the reader begins. -/
def takeManifest (s : State) (load : Nat) (m : Man) : State :=
  let s := modWgt s fun w => { w with mans := tset w.mans load m }
  let s := match s.wgt.loads.find? fun e => e.2.bcast && e.2.mload.isNone && e.2.objId == some m.objId with
    | some (id, _) =>
      if bit m.mask (fabId s) then modLoad s id fun x => { x with mload := some load, count := m.count } else s
    | none => s
  if m.reader = fabId s then readOut s load m else s

/-! ## Replacements (R428-R434) -/

/-- `s` with the replacement changed. -/
def modRepl (s : State) (f : Repl → Repl) : State := modWgt s fun w => { w with repl := w.repl.map f }

/-- R435 WGT_STATE: the lowest group not yet flipped. -/
def Repl.next (r : Repl) : Nat := ((List.range (r.ngroup + 1)).find? fun g => !r.flippedG.contains g).getD r.ngroup

/-- R434: a group cannot be staged: the replacement stops, with the event. -/
def stopRepl (s : State) (group status : Nat) : State :=
  sendEvent evWGT_STOPPED (le4 group ++ le4 status) (modRepl s fun r => { r with stopped := true })

/-- R429: groups staged and not flipped hold the halves of the reservation; group `g` may be staged now. -/
def mayStage (r : Repl) (g : Nat) : Bool :=
  !r.stopped && g < r.ngroup && !r.stagedG.contains g &&
    (List.range g).all (fun j => r.stagedG.contains j || r.flippedG.contains j) &&
    (r.stagedG.filter fun j => !r.flippedG.contains j).length < 2

/-- R429: an entry needs no staging: its source is a cave region and its object's home is CAVE. -/
def planDirect (s : State) (e : PlanE) : Bool := e.src == 1 && (objOf s e.handle).any fun p => p.2.home == 1

/-- R415, R428: the content that the wheels of an entry give its object: the object's bytes once they cover it, or the
status with which the first failed, and whether it is not retried (R43, R333). -/
def planData (s : State) (e : PlanE) : Except (Nat × Bool) (Option Memory) :=
  match objOf s e.handle with
  | none => .error (lsFREED, true)
  | some (_, o) =>
    let ws : Except (Nat × Bool) (List Bytes) :=
      if e.src = 0 then .ok e.wheels
      else
        let rs := readerWheels s e.where_ e.entry
        if rs.any (·.2.isNone) then .error (lsDAMAGED, true) else .ok (rs.filterMap (·.2))
    match ws with
    | .error st => .error st
    | .ok ws =>
      let a := assemble s o.coll o.size ws
      match a.bad with
      | some (st, _) => .error (if e.src = 1 && (st == lsCRC || st == lsAUTH) then lsDAMAGED else st, st == lsTABLE)
      | none =>
        if !tilesOK o.fmt a.mem 0 a.cover 0 o.size then .error (lsFORMAT, true)
        else .ok (if o.size ≤ total (ws.map (wheelCover s o.coll)) then some a.mem else none)

end Sys2Proof.Machine
end

