-- ==== Sys2Proof/Machine/LinkOps.lean ====
section
/-! DEFINITION. Fabric ports and the loss of packages: flits, retry, credits, links going DOWN, lost members, twin
accessions re-created (R438-R446, R464-R467). -/

namespace Sys2Proof.Machine

open Sys2Proof

/-! ## Loss of packages (R464-R466) -/

/-- R463: the page holder number of a twin accession. -/
def twinHolder (home acc : Nat) : Nat := 4096 * (home + 1) + acc

/-- R461, R463: the twin state kept for an accession of a home. -/
def twinAt (s : State) (home acc : Nat) : Option Twin := s.fab.twins.find? fun t => t.home == home && t.acc == acc

/-- R463: a twin accession forgotten and its pages freed. -/
def dropTwin (s : State) (home acc : Nat) : State :=
  freePages (modFab s fun b => { b with twins := b.twins.filter fun t => !(t.home == home && t.acc == acc) })
    (twinHolder home acc)

/-- R384, R464: an accession entry read back from its 64 bytes; the tokens saved are those up to position n. -/
def accOfEntry (b : Bytes) (toks : List Nat) (tpages seq : Nat) : Acc :=
  let f (o n : Nat) : Nat := bnum b o n
  let flags := f 1 1
  let n := f 8 4
  { state := asQUEUED, instep := false, cancel := [], susp := false, late := bit flags 3, twin := false,
    greedy := bit flags 5, band := bits (f 2 1) 1 0, dlSoft := bit (f 2 1) 2, genpol := bits (f 2 1) 4 3, coll := f 3 1,
    service := f 4 1, adapter := f 5 1, stopset := f 6 1, prev := 0, prevSusp := 0, length := n, phead := none,
    ptail := none, hoop := none, topk := f 22 1, drafts := 0, draftMax := f 23 1 / 16, temp := f 24 2, topp := f 26 2,
    deadline := f 28 4, seed := f 32 8, tag := f 40 4, newtok := f 44 4, maxnew := f 48 4, gen := f 52 4,
    prompt := f 56 4, accepted := f 60 4, promptN := n + 1 - f 44 4, past := false, port := .usb, seq := seq,
    firstAdm := 0, hist := toks, resume := some (16 * tpages), nextX := [], restarted := false, arriving := 0,
    heldRecs := [], gone := false }

/-- R464: the lowest FREE accession entry. -/
def freeEntry (s : State) : Option Nat := (List.range 4096).find? fun a => (accAt s a).isNone

/-- R464: the service of a lost home's accession serves it here. -/
def twinService (s : State) (t : Twin) (x : Acc) : Bool :=
  (tget s.acc.svcs x.service).any fun v => v.valid && v.coll == t.coll &&
    t.pages.all fun pn => (tget s.kve.pages pn).any fun e => e.cls == v.cls

/-- R464: a twin accession that cannot be re-created ends LOST, its resume hint n. -/
def loseTwin (s : State) (t : Twin) (x : Acc) : State :=
  let r := resultBytes t.acc { x with coll := t.coll } [] false true 0 ocLOST rsPEER_LOST x.gen x.length x.length max32
  dropTwin (pushRec .usb (mkRec tyRESULT x.tag 0 r) s) t.home t.acc

/-- R464: one twin accession of a lost home re-created, or ended LOST. -/
def recreateTwin (s : State) (t : Twin) : State :=
  if t.entry.isEmpty then dropTwin s t.home t.acc
  else
    let x := accOfEntry t.entry t.tokens t.tpages s.acc.seq
    match freeEntry s with
    | none => loseTwin s t x
    | some a =>
      if !twinService s t x || t.pages.length < t.tpages then loseTwin s t x
      else
        let s := { s with acc := { s.acc with tab := tset s.acc.tab a x, seq := s.acc.seq + 1 } }
        let s := (t.pages.take t.tpages).foldl (fun s pn =>
          linkPage (modPage s pn fun e => { e with acc := a, twin := false, next := 0, last := true }) a pn 2) s
        let s := dropTwin s t.home t.acc
        let s := modFab s fun b => { b with twinResumed := satAdd32 b.twinResumed 1 }
        sendEvent evTWIN_RESUMED (le4 t.acc ++ le4 a ++ le4 x.tag) s

/-- R456: the remote moves to a package fail. -/
def failRemote (s : State) (q : Nat) : State :=
  (s.obj.moves.filter fun m => m.remote && remotePkg s m == q).foldl (fun t m =>
    settle ((moveObjs t m.req).foldl kickMig (moveFailed t m (.mig mrFAILED_FETCH))) m.ref.g) s

/-- R587: the coordinator of the lowest-numbered VALID group that includes this package. -/
def fabricOwner (s : State) : Option Nat :=
  ((List.range 8).find? fun g => groupValid s g && bit (groupMask s g) (fabId s)).map (groupCoord s)

/-- R420, R464, R466, R552: what the loss of package `q` does here; the loss is logged. -/
def loseMember (s : State) (q : Nat) : State :=
  let owner := fabricOwner s
  let s := matchLevels <| modFab s fun b => { b with
    lost := b.lost ++ [q], barred := (b.barred ++ [q]).eraseDups, ctl := b.ctl.filter (·.dst != q),
    pace := b.pace.filter (·.src != q) }
  let s := (s.gra.graphs.filter fun e => e.2.group && e.2.run.isSome && bit (groupMask s e.2.gnum) q).foldl
    (fun t e => endEarly t e.1 3) s
  let s := (s.wgt.mans.filter fun e => bit e.2.mask q || e.2.reader == q || groupCoord s e.2.group == q).foldl
    (fun t e => endBcast t e.1 lsPEER_LOST max32) s
  let s := failRemote s q
  let s := if rsv s 0x90010 31 = q then s.acc.tab.foldl (fun t e => breakTwin t e.1) s else s
  let s := (s.fab.twins.filter (·.home == q)).foldl recreateTwin s
  let s := queueDet (mkDet sitePEER q mechKEEPALIVE actLOST) s
  let s := { s with flt := { s.flt with recovering := s.flt.recovering.filter (· != (sitePEER, q)) } }
  if owner = some q then lapse .fabric s else s

/-- R465: packages judged lost declared so. -/
def judge (s : State) : State := (newlyLost s 24 []).foldl loseMember s

/-! ## Links (R440, R443, R444, R465, R467) -/

/-- R467: one detection of a port: entered for fencing, `plain` where it is a CRC error not yet known to fail its retry. -/
def portDetection (s : State) (p mech : Nat) (plain : Bool) : State :=
  let s := modFPort s p fun x => { x with dets := x.dets ++ [2 * s.tick + b2n plain] }
  queueDet (mkDet siteFABRIC p mech actRETRIED) s

/-- R546: a port whose link stays UP is not RECOVERING. -/
def linkStays (p : Nat) (s : State) : State :=
  if (portAt s p).state = 3 then { s with flt := { s.flt with recovering := s.flt.recovering.filter (· != (siteFABRIC, p)) } } else s

/-- R444, R452: the flits that a port leaves unsent when it goes DOWN: those of whole frames none of which was sent. -/
def unsent (s : State) (p : Nat) : List Flit :=
  let x := portAt s p
  let x := x.openTx.foldl (fun x k =>
    { x with txQ := (x.txQ.takeWhile fun f => !(f.key == k && f.last)).filter (fun f => f.key != k) ++
        ((x.txQ.dropWhile fun f => !(f.key == k && f.last)).drop 1) }) x
  let late := s.fab.ports.flatMap fun (y : FPort) => y.passing.filter (·.1 == p)
  (late.foldl (fun x e => if x.openTx.contains e.2 then x else tearFrame x e.2) x).txQ

/-- R444, R452: no frame goes on through port `p`: the rest of one that goes out there is discarded, and one that came in
there and is not whole is taken out of its output port. -/
def cutFrames (s : State) (p : Nat) : State :=
  let torn := (portAt s p).passing
  let s := modFab s fun b => { b with ports := b.ports.map fun (x : FPort) => { x with passing := x.passing.filter (·.1 != p) } }
  torn.foldl (fun t e => modFPort t e.1 fun x => tearFrame x e.2) s

/-- R452: a whole frame's flit that its port has not sent goes by the route of now. -/
def rerouteFlit (s : State) (f : Flit) : State :=
  match routeTo s f.dst with
  | some (k, _, _) => queueFlit s none k f
  | none => s

/-- R443, R444, R452, R465: a link goes DOWN and its port trains again at once. -/
def linkDown (s : State) (p : Nat) : State :=
  let x := portAt s p
  let rest := unsent s p
  let s := modFPort (cutFrames s p) p fun x => { FPort.reset with
    state := 2, nbPkg := x.nbPkg, nbPort := x.nbPort, downs := min 65535 (x.downs + 1), dets := x.dets, wire := x.wire }
  let s := modFab s fun b => { b with down := if b.down.contains (fabId s, p) then b.down else b.down ++ [(fabId s, p)] }
  let s := rest.foldl rerouteFlit s
  let s := (others s).foldl (fun t q => sendCtl q 0x0B 0xFF [fabId s, p, x.nbPkg] t) s
  judge s

/-- R443, R465, R467: a link goes DOWN for a fault of the link. -/
def linkFault (s : State) (p mech : Nat) : State := linkDown (portDetection s p mech false) p

/-- R606: the reset of a port that waits for its training ends. -/
def answerPortReset (s : State) (p : Nat) : State :=
  (s.pkg.portReset.filter (·.1 == p)).foldl (fun t e => answer e.2.1 e.2.2 (Ans.ok 0) t)
    { s with pkg := { s.pkg with portReset := s.pkg.portReset.filter (·.1 != p) } }

/-- R440: a port comes UP. -/
def linkUpNow (s : State) (p q j : Nat) : State :=
  let s := modFPort s p fun x => { FPort.reset with
    state := 3, nbPkg := q, nbPort := j, downs := x.downs, dets := x.dets, sendCr := freshCredits }
  let s := modFab s fun b => { b with down := b.down.filter (· != (fabId s, p)) }
  { s with flt := { s.flt with recovering := s.flt.recovering.filter (· != (siteFABRIC, p)) } }

/-! ## Control messages in (R447) -/

/-- R447: an acknowledgement is sent and never acknowledged itself. -/
def sendCack (s : State) (m : Msg) : State :=
  let c : CMsg := { dst := m.src, ty := 0x0C, group := m.group, serial := 0, body := [m.serial] }
  sendMsg c s

/-- R447, R466: a control message arrives: acted on once, acknowledged each time; one from a member that is lost or not
readmitted is neither. A serial counts as new again half a turn of its 16 bits later. -/
def ctlIn (m : Msg) (f : State → State) (s : State) : State :=
  if !serviceOn s || 24 ≤ m.src || s.fab.lost.contains m.src || s.fab.barred.contains m.src then s
  else if s.fab.seen.contains (m.src, m.serial) then sendCack s m
  else
    let s := modFab s fun b => { b with seen :=
      (m.src, m.serial) :: b.seen.filter fun e => e.1 != m.src || (m.serial + 65536 - e.2) % 65536 < 32768 }
    f (sendCack s m)

end Sys2Proof.Machine
end

