-- ==== Sys2Proof/Machine/Fabric.lean ====
section
/-! DEFINITION. The fabric: ports and control messages of chapter 13. A frame's arrival flit by flit (FLIT_RECEIVE) and
relayed commands stand in Relay.lean. -/

namespace Sys2Proof.Machine

open Sys2Proof

/-! ## Ports (R440, R443, R465) -/

/-- R440: TRAINING_COMPLETE. -/
def execTrainingComplete (p : Nat) (lanes : Bool) (sysid nbPkg nbPort : Nat) (s : State) : Out :=
  .next (if (portAt s p).state != 2 || p ≥ 6 then s
    else if !lanes then portDetection s p mechINTERFACE false
    else if sysid = rsv s 0x90004 0 && neighbourOf s (fabId s) p == some (nbPkg, nbPort) then
      answerPortReset (linkUpNow s p nbPkg nbPort) p
    else
      answerPortReset (sendEvent evFAB_MISWIRE (le4 p)
        (modFPort s p fun x => { x with state := 4, nbPkg := nbPkg % 32, nbPort := nbPort % 8 })) p)

/-- R440: TRAINING_RETRY. -/
def execTrainingRetry (p : Nat) (s : State) : Out :=
  .next (modFPort s p fun x => if x.state = 4 then { x with state := 2 } else x)

/-- R443: a NAK taken: acknowledged flits let go, the rest sent again. -/
def resendFrom (x : FPort) (ack : Nat) : FPort :=
  let y := takeAck x ack
  y.rtx.foldl (fun z f => putFlit z f.hdr f.data) { y with nakRun := y.nakRun + 1 }

/-- R443: NAK; the eighth in succession for one flit takes the link DOWN. -/
def execNak (p ack : Nat) (s : State) : Out :=
  .next (if (portAt s p).state != 3 then s
    else
      let t := modFPort s p fun x => resendFrom x ack
      if 8 ≤ (portAt t p).nakRun then linkFault t p mechCRC_RETRY else t)

/-- R443: LINK_NO_PROGRESS. -/
def execLinkNoProgress (p : Nat) (s : State) : Out :=
  .next (if (portAt s p).state = 3 && !(portAt s p).rtx.isEmpty then linkFault s p mechCRC_RETRY else s)

/-- R441, R465: IDLE_FLIT_SEND. -/
def execIdleFlitSend (p : Nat) (s : State) : Out :=
  .next (modFPort s p fun x =>
    if x.state = 3 && x.txQ.isEmpty then putFlit x (bareHdr 0) [] else x)

/-- R465: KEEPALIVE_TIMEOUT. -/
def execKeepaliveTimeout (p : Nat) (s : State) : Out :=
  .next (if (portAt s p).state = 3 then linkFault s p mechKEEPALIVE else s)

/-- R452, R465: a PORT_DOWN taken. -/
def takePortDown (pkg port : Nat) (s : State) : State :=
  judge (modFab s fun b => { b with down := if b.down.contains (pkg, port) then b.down else b.down ++ [(pkg, port)] })

/-- R452, R465: PORT_DOWN. -/
def execPortDown (m : Msg) (pkg port _nb : Nat) (s : State) : Out := .next (ctlIn m (takePortDown pkg port) s)

/-- R447: CACK. -/
def execCack (m : Msg) (acked : Nat) (s : State) : Out :=
  .next (modFab s fun b => { b with ctl := b.ctl.filter fun c => !(c.dst == m.src && c.serial == acked) })

/-- R447: CONTROL_RESEND. -/
def execControlResend (dst serial : Nat) (s : State) : Out :=
  .next (match s.fab.ctl.find? fun c => c.dst == dst && c.serial == serial with
    | some c => sendMsg c (modFab s fun b => { b with resent := satAdd32 b.resent 1 })
    | none => s)

/-! ## Group instances (R238, R239, R454) -/

/-- R238: a START taken by a member's resident part. -/
def takeStart (m : Msg) (gid inst band gen : Nat) (s : State) : State :=
  match s.gra.graphs.find? fun e => e.2.group && e.2.gid == gid && e.2.gnum == m.group && groupCoord s m.group == m.src with
  | some (g, _) => modGraph s g fun x => { x with starts := x.starts ++ [(inst, band % 4, gen)] }
  | none => s

/-- R238: START. -/
def execStart (m : Msg) (gid inst band gen : Nat) (s : State) : Out := .next (ctlIn m (takeStart m gid inst band gen) s)

/-- R237, R238: an edge of a part that a message from its source package names. -/
def edgeFits (s : State) (m : Msg) (x : Graph) (e : Nat) : Bool :=
  x.group && x.gnum == m.group &&
    (x.edges[e]?).any fun d => d.dstM == x.member && (groupMembers s x.gnum).getD d.srcM 31 == m.src

/-- R238: an EDGE taken: it counts for its task, or is kept until the instance starts. -/
def takeEdge (m : Msg) (inst e : Nat) (ok : Bool) (s : State) : State :=
  let fit := s.gra.graphs.filter fun g => edgeFits s m g.2 e
  match (fit.find? fun g => g.2.run.any fun n => n.serial == inst) with
  | some (g, x) =>
    match x.edges[e]? with
    | some d => settle (modRun s ⟨g, d.dstT⟩ fun r => { r with edges := if r.edges.any (·.1 == e) then r.edges else r.edges ++ [(e, ok)] }) g
    | none => s
  | none =>
    match fit with
    | (g, _) :: _ => modGraph s g fun x => { x with early := x.early ++ [(inst, e, ok)] }
    | [] => s

/-- R238: EDGE. -/
def execEdge (m : Msg) (inst edge : Nat) (ok : Bool) (s : State) : Out := .next (ctlIn m (takeEdge m inst edge ok) s)

/-- R239: a REPORT taken by the coordinator: the record of a member's instance. -/
def takeGroupReport (m : Msg) (rc : Bytes) (s : State) : State :=
  match s.gra.graphs.find? fun e => coordinates s e.2 && e.2.gnum == m.group && bit (groupMask s m.group) m.src &&
      e.2.run.any fun n => n.serial == bnum rc 4 4 with
  | some (g, _) =>
    settle (modGraph s g fun x => { x with
      reports := if x.reports.any (·.1 == m.src) then x.reports else x.reports ++ [(m.src, padTo 64 rc)] }) g
  | none => s

/-- R239: REPORT. -/
def execReport (m : Msg) (record : Bytes) (s : State) : Out := .next (ctlIn m (takeGroupReport m record) s)

/-! ## Pace notices (R458, R459) -/

/-- R459: a PACE taken: it replaces the sender's notice, and RATE 1,024 ends it. -/
def takePace (m : Msg) (reason rate extra valid : Nat) (s : State) : State :=
  matchLevels <| modFab s fun b => { b with
    paceRcvd := satAdd32 b.paceRcvd 1
    pace := b.pace.filter (·.src != m.src) ++
      if 1024 ≤ rate then [] else [{ src := m.src, reason := reason, rate := rate, extra := extra, valid := valid }] }

/-- R459: PACE. -/
def execPace (m : Msg) (reason rate extra valid : Nat) (s : State) : Out :=
  .next (ctlIn m (takePace m reason rate extra valid) s)

/-- R458: PACE_RESEND. -/
def execPaceResend (s : State) : Out :=
  .next (match s.fab.paceOut with
    | some n => sendPace n s
    | none => s)

/-- R459: PACE_LAPSE. -/
def execPaceLapse (src : Nat) (s : State) : Out :=
  .next (matchLevels (modFab s fun b => { b with pace := b.pace.filter (·.src != src) }))

/-! ## Broadcasts (R417-R420) -/

/-- R417: a manifest from the coordinator of its group. -/
def takeManifestMsg (m : Msg) (load : Nat) (n : Man) (s : State) : State :=
  if groupValid s m.group && groupCoord s m.group == m.src then takeManifest s load n else s

/-- R417: MANIFEST. -/
def execManifest (m : Msg) (load reader region entry objId count mask : Nat) (s : State) : Out :=
  .next (ctlIn m (takeManifestMsg m load
    { group := m.group, reader := reader, region := region, entry := entry, objId := objId, count := count, mask := mask }) s)

/-- R420: LOAD_DONE taken. -/
def takeLoadDone (m : Msg) (load : Nat) (s : State) : State :=
  match tget s.wgt.mans load, bcastLoad s load with
  | some n, some (_, x) =>
    if groupCoord s n.group = m.src ∧ x.done.length = x.count then endBcast s load lsOK max32 else s
  | some n, none => if groupCoord s n.group = m.src then dropBcast s load else s
  | none, _ => s

/-- R420: LOAD_DONE. -/
def execLoadDone (m : Msg) (load : Nat) (s : State) : Out := .next (ctlIn m (takeLoadDone m load) s)

/-- R419: a re-request taken: the wheel sent again from the retransmit buffer, else MISS. -/
def takeRereq (m : Msg) (load k : Nat) (s : State) : State :=
  match s.wgt.rtx.find? fun e => e.1 == load && e.2.1 == k with
  | some (_, _, b) => sendWheel k b s m.src
  | none => sendCtl m.src 0x07 m.group [1, load, k] s

/-- R419: REREQ. -/
def execRereq (m : Msg) (load k : Nat) (s : State) : Out := .next (ctlIn m (takeRereq m load k) s)

/-- R419: a MISS taken. -/
def takeMiss (load k : Nat) (s : State) : State :=
  match tget s.wgt.mans load, bcastLoad s load with
  | some n, some (id, x) => if x.done.contains k then s else wheelFailed s id load k n
  | _, _ => s

/-- R419: MISS. -/
def execMiss (m : Msg) (load k : Nat) (s : State) : Out := .next (ctlIn m (takeMiss load k) s)

/-- R300, R419: a direct request taken by the reader: the wheel read again from its cave, or asked of a member where its page is
damaged; with none to ask, the broadcast ends DAMAGED. -/
def takeDirect (m : Msg) (load k : Nat) (s : State) : State :=
  match tget s.wgt.mans load with
  | some n =>
    if n.reader != fabId s then s
    else
      match (readerWheels s n.region n.entry).find? (·.1 == k) with
      | some (_, some b) => sendWheel k b (readWheel s n.region n.entry k) m.src
      | some (_, none) =>
        match (maskBits 24 n.mask).find? fun q => q != fabId s && q != m.src && !s.fab.lost.contains q with
        | some q => modWgt (sendCtl q 0x08 n.group [n.objId, k, 1] s) fun w => { w with directs := w.directs ++ [(load, k, m.src)] }
        | none => endBcast s load lsDAMAGED k
      | none => s
  | none => s

/-- R419: DIRECT. -/
def execDirect (m : Msg) (load k : Nat) (s : State) : Out := .next (ctlIn m (takeDirect m load k) s)

/-- R312, R419: the wheels of an OBJ_ID that this package holds verified: in a SEALED region, which is not read while the
object is being broadcast (R33), or in its retransmit buffer. -/
def heldWheels (s : State) (objId : Nat) : List (Nat × Bytes) :=
  let inCave := s.cave.regions.flatMap fun r =>
    if r.2.state = 2 ∧ ¬broadcasting s objId then (List.range r.2.dir.length).flatMap fun e =>
      (readerWheels s r.1 e).filterMap fun w => (w.2.filter fun b => bnum b 16 4 == objId).map fun b => (w.1, b)
    else []
  inCave ++ (s.wgt.rtx.filter fun e => bnum e.2.2 16 4 == objId).map (·.2)

/-- R33, R300, R312: the pages of this package's cave that hold wheel `k` of an OBJ_ID and are read for it. -/
def wheelPagesOf (s : State) (objId k : Nat) : List CPage :=
  if broadcasting s objId then []
  else ((s.cave.regions.filter fun r => r.2.state == 2).flatMap fun r => (List.range r.2.dir.length).flatMap fun e =>
    ((entryIndex r.2 e).filter fun w => w.1 == k && mnum r.2.data (w.2.1 + 16) 4 == objId).map fun w =>
      wheelPages r.2 w.2.1 w.2.2).headD []

/-- R312: a request for a peer copy taken: the wheels of the range that are held are sent on VC 1. -/
def takePeerCopy (m : Msg) (objId first count : Nat) (s : State) : State :=
  let ws := heldWheels s objId
  (maskBits 256 (2 ^ min count 256 - 1)).foldl (fun t j => match ws.find? (·.1 == first + j) with
    | some w => sendWheel w.1 w.2 ((wheelPagesOf t objId (first + j)).foldl readPage t) m.src
    | none => t) s

/-- R312: PEER_COPY. -/
def execPeerCopy (m : Msg) (objId first count : Nat) (s : State) : Out := .next (ctlIn m (takePeerCopy m objId first count) s)

/-! ## Remote moves (R456) -/

/-- The status codes of WRITE_ACK; the manual gives no numbers but OK first (notes/assumptions/30.md). -/
def waNOT_STARTED : Nat := 1
/-- Any other status. -/
def waREFUSED : Nat := 2

/-- R456: the data of a remote move checked and written; the status answered. -/
def landMove (s : State) (dstH gid coll off : Nat) (data : Bytes) : Nat × State :=
  match s.gra.graphs.find? fun e => e.2.group && e.2.gid == gid with
  | none => (waREFUSED, s)
  | some (g, x) =>
    match instOf s g with
    | none => (waNOT_STARTED, s)
    | some n =>
      match objOf s (n.binds.getD (dstH % 256) 0) with
      | none => (waREFUSED, s)
      | some (i, o) =>
        if (dstH - 0xC0000000) / 256 != x.member || x.nparam ≤ dstH % 256 || !o.rw || o.coll != coll || o.freeing || o.closing ||
            o.size < off + data.length then (waREFUSED, s)
        else (0, objWrite s i off data)

/-- R456: REMOTE_MOVE_RECEIVE; a frame of a purged collection is discarded (R491). -/
def receiveMove (src dstH gid coll off mtag : Nat) (data : Bytes) (s : State) : State :=
  if s.fab.purged.contains coll then s
  else
    let r := landMove s dstH gid coll off data
    sendCtl src 0x09 0xFF [mtag, r.1] r.2

/-- R456: REMOTE_MOVE_RECEIVE. -/
def execRemoteMoveReceive (src _vc dstH gid coll off mtag : Nat) (data : Bytes) (s : State) : Out :=
  .next (if serviceOn s then receiveMove src dstH gid coll off mtag data s else s)

/-- A remote move that has ended: what follows for its objects and its graph. -/
def afterRemote (s : State) (m : Move) (t : State) : State := settle ((moveObjs s m.req).foldl kickMig t) m.ref.g

/-- R456, R462: a WRITE_ACK taken: tags below 65,536 are moves, the others twin pages. -/
def takeWriteAck (mtag status : Nat) (s : State) : State :=
  if mtag < 65536 then
    match s.obj.moves.find? fun (m : Move) => m.remote && m.id % 65536 == mtag with
    | some m =>
      if status = 0 then afterRemote s m (moveDone s m)
      else if status = waNOT_STARTED then s
      else afterRemote s m (moveFailed s m (.mig mrFAILED_FETCH))
    | none => s
  else
    match s.fab.twinCopies.find? fun c => c.2 == mtag - 65536 with
    | some (a, pn) =>
      let s := modFab s fun b => { b with twinCopies := b.twinCopies.filter (· != (a, pn)) }
      if status = 0 then
        modFab (modPage s pn fun e => { e with twinDone := true }) fun b => { b with twinPages := satAdd32 b.twinPages 1 }
      else breakTwin s a
    | none => s

/-- R456, R462: WRITE_ACK. -/
def execWriteAck (m : Msg) (mtag status : Nat) (s : State) : Out := .next (ctlIn m (takeWriteAck mtag status) s)

/-- R456: REMOTE_MOVE_RETRY. -/
def execRemoteMoveRetry (id : Nat) (s : State) : Out :=
  .next (match moveAt s id with
    | some m => if m.remote && serviceOn s then sendRemote s m else s
    | none => s)

/-- R456: REMOTE_MOVE_TIMEOUT. -/
def execRemoteMoveTimeout (id : Nat) (s : State) : Out :=
  .next (match moveAt s id with
    | some m => if m.remote then afterRemote s m (moveFailed s m (.mig mrFAILED_FETCH)) else s
    | none => s)

/-! ## Twin accessions (R461-R463) -/

/-- R461: the page class of a shape. -/
def twinClass (s : State) (la hh : Nat) : Option Nat :=
  (List.range 4).find? fun c => la != 0 && classLayers s c == la && classHeads s c == hh

/-- R461: the twin page of an index that is held already. -/
def heldTwinPage (s : State) (home acc k : Nat) : Option (Nat × Page) :=
  s.kve.pages.find? fun e => e.2.acc == twinHolder home acc && e.2.index == k

/-- R461: room for one more twin accession, its collection open here. -/
def twinOpen (s : State) (home acc coll : Nat) : Bool :=
  s.keyed coll && ((twinAt s home acc).isSome || s.fab.twins.length < 1024)

/-- R461, R463: a twin accession entered. -/
def enterTwin (s : State) (home acc coll : Nat) : State :=
  if (twinAt s home acc).isSome then s
  else modFab s fun b => { b with twins := b.twins ++
    [{ home := home, acc := acc, entry := [], tpages := 0, tokens := [], pages := [], coll := coll }] }

/-- R461, R463: a twin accession changed. -/
def modTwin (s : State) (home acc : Nat) (f : Twin → Twin) : State :=
  modFab s fun b => { b with twins := b.twins.map fun t => if t.home = home ∧ t.acc = acc then f t else t }

/-- R461: a twin page written, or refused. -/
def landTwin (s : State) (home acc coll la hh k : Nat) (data : Bytes) : Bool × State :=
  match twinClass s la hh with
  | none => (false, s)
  | some c =>
    if !twinOpen s home acc coll then (false, s)
    else
      let put (s : State) (e : Page) : State := { s with kve := { s.kve with
        frames := mwrite s.kve.frames (frameKey s e.cls e.frame) (data.take (pageBytes s c)) } }
      match heldTwinPage s home acc k with
      | some (_, e) => (true, put s e)
      | none =>
        if (pageDenied s c coll 1).isSome then (false, s)
        else
          let r := takePage (enterTwin s home acc coll) (twinHolder home acc) coll c 2 true
          let s := modPage r.1 r.2 fun e => { e with index := k }
          let s := modTwin s home acc fun t => { t with pages := t.pages ++ [r.2] }
          (true, match tget s.kve.pages r.2 with
            | some e => put s e
            | none => s)

/-- R461: a twin page taken, and its WRITE_ACK. -/
def receiveTwin (src acc coll la hh k mtag : Nat) (data : Bytes) (s : State) : State :=
  if s.fab.purged.contains coll then s
  else
    let r := landTwin s src acc coll la hh k data
    sendCtl src 0x09 0xFF [mtag, if r.1 then 0 else waREFUSED] r.2

/-- R461: TWIN_PAGE_RECEIVE. -/
def execTwinPageReceive (src acc coll la hh k mtag : Nat) (data : Bytes) (s : State) : Out :=
  .next (if serviceOn s then receiveTwin src acc coll la hh k mtag data s else s)

/-- R463: a TWIN_STATE taken: kept, or, for an accession in DONE, its pages freed; answered by TWIN_ACK. -/
def takeTwinState (m : Msg) (acc : Nat) (entry : Bytes) (tpages : Nat) (tokens : List Nat) (s : State) : State :=
  let coll := bnum entry 3 1
  if bnum entry 0 1 = asDONE then sendCtl m.src 0x0A 0xFF [1, acc, 0] (dropTwin s m.src acc)
  else if twinOpen s m.src acc coll then
    sendCtl m.src 0x0A 0xFF [1, acc, 0] (modTwin (enterTwin s m.src acc coll) m.src acc fun t =>
      { t with entry := padTo 64 entry, tpages := tpages, tokens := tokens })
  else sendCtl m.src 0x0A 0xFF [1, acc, waREFUSED] s

/-- R463: TWIN_STATE. -/
def execTwinState (m : Msg) (acc : Nat) (entry : Bytes) (tpages : Nat) (tokens : List Nat) (s : State) : Out :=
  .next (ctlIn m (takeTwinState m acc entry tpages tokens) s)

/-- R461, R463: a TWIN_ACK taken: the held records are queued, or the twin is broken. -/
def takeTwinAck (acc status : Nat) (s : State) : State := if status = 0 then releaseHeld s acc else breakTwin s acc

/-- R463: TWIN_ACK. -/
def execTwinAck (m : Msg) (acc status : Nat) (s : State) : Out := .next (ctlIn m (takeTwinAck acc status) s)

end Sys2Proof.Machine
end

