-- ==== Sys2Proof/Machine/RstOps.lean ====
section
/-! DEFINITION. Resets (R596-R607): what a reset that restarts the root leaves, the clamp (R529), the fences of units
(R549), and the keep record (R531), shared by security, power, faults and start-up. -/

namespace Sys2Proof.Machine

open Sys2Proof

/-! ## Resets that restart the root (R603, R607) -/

/-- What a port has sent stays the output that it was; its queues and commands are lost. -/
def PortQ.restart (q : PortQ) : PortQ := { PortQ.reset with sent := q.sent, rdata := q.rdata, naks := q.naks }

/-- R487: the package epoch after a reset that restarts the root. -/
def nextEpoch (x : Sec) : Nat := if x.leftBlank then 0 else min max32 (x.epochPkg + 1)

/-- R485, R487, R607: the root after a reset that restarts it, before its boot. -/
def Sec.restart (x : Sec) : Sec :=
  { Sec.reset with
    lifecycle := x.lifecycle, active := x.active, running := x.running, staged := x.staged, fallback := x.fallback,
    svn := x.svn, slots := x.slots, rollback := x.rollback, epochPkg := nextEpoch x,
    epochCl := if x.leftBlank then List.replicate 8 0 else x.epochCl }

/-- R607: the cave after a reset: its regions, map, boot sets and blocks' wear are in the flash, its read counters and repair
cache in the firmware reserve, which only a cold start clears (R300, R311). A relocation that had not flipped gives its spare
block back (R306). -/
def Cave.restart (c : Cave) (cold : Bool) : Cave :=
  let c := c.stopRelocs fun _ => true
  { Cave.reset with
    regions := c.regions.map fun e => (e.1, { e.2 with sliceReq := false })
    map := c.map, dead := c.dead, journal := c.journal, jset := c.jset, keepSet := c.keepSet, keepUsed := c.keepUsed,
    keepMark := c.keepMark, ckpt := c.ckpt, ckptBase := c.ckptBase, spares := c.spares, retired := c.retired, bad := c.bad,
    sealSeq := c.sealSeq, erases := c.erases
    reads := if cold then [] else c.reads, readBase := if cold then 0 else c.readBase, repair := if cold then [] else c.repair }

/-- R603, R607: the package after a reset that restarts the root, up to step 3 of R596. -/
def hubReset (s : State) (cold : Bool) : State :=
  { State.reset with
    pending := s.pending, fresh := s.fresh, tick := if cold then 0 else s.tick, part := s.part
    sec := s.sec.restart
    cave := s.cave.restart cold
    fab := { Fab.reset with out := s.fab.out, sent := s.fab.sent, ports := s.fab.ports.map fun x => { FPort.reset with wire := x.wire } }
    pwr := { Pwr.reset with
      vin := s.pwr.vin, low := s.pwr.low, coolOk := s.pwr.coolOk, xt32 := !cold && s.pwr.xt32, onRc := cold || s.pwr.onRc,
      temp := s.pwr.temp, keepSeq := s.pwr.keepSeq, keepSleep := false, keepLog := s.pwr.keepLog,
      keepReads := s.pwr.keepReads, keepBase := s.pwr.keepBase, keepNrg := s.pwr.keepNrg, keepAcc := s.pwr.keepAcc,
      nrgColl := if cold then [] else s.pwr.nrgColl, nrgBand := if cold then [] else s.pwr.nrgBand,
      nrgUn := if cold then 0 else s.pwr.nrgUn, nrgTotal := if cold then 0 else s.pwr.nrgTotal,
      nrgDom := if cold then [] else s.pwr.nrgDom }
    flt := { Flt.reset with
      fatalRec := s.flt.fatalRec, seq := s.flt.seq, log := if cold then [] else s.flt.log,
      head := if cold then 0 else s.flt.head }
    host := { HostSt.reset with
      usb := s.host.usb.restart, mgt := s.host.mgt.restart, fabric := s.host.fabric.restart, monitor := s.host.monitor.restart,
      csOut := s.host.csOut, stalls := s.host.stalls, mgtOut := s.host.mgtOut, ibi := s.host.ibi, nacks := s.host.nacks }
    mon := { Mon.reset with out := s.mon.out }
    pkg := { s.pkg with
      step := 2, ms := 0, afterFatal := s.flt.fatal, cold := cold, clReset := [], clFailed := [], vatCmds := [],
      portReset := [], chgLost := s.pkg.chgLost || !s.host.staged.isEmpty, alert := s.pkg.alert.filter (· == 2), wakeDriven := false } }

/-- R599, R600: the boot mode that a strap value gives. -/
def bootMode (s : State) (strap : Nat) : Nat := if strap = 2 ∧ s.sec.lifecycle = 2 then 0 else strap % 4

/-- R603: a package soft reset with its cause (R608); in RECOVERY it boots NORMAL (R599). -/
def softReset (cause : Nat) (s : State) : State :=
  let t := hubReset s false
  { t with pkg := { t.pkg with
      phase := .booting, cause := cause, mode := if s.pkg.phase = .recovery then 0 else s.pkg.mode,
      cntSoft := satAdd32 s.pkg.cntSoft 1 } }

/-- R596: a cold start begins, at step 1: `power` where VSTBY was absent. -/
def coldReset (cause : Nat) (power : Bool) (s : State) : State :=
  let t := hubReset s true
  { t with
    flt := { t.flt with fatalRec := if power then [] else t.flt.fatalRec }
    pkg := { t.pkg with
      phase := .starting, cause := cause, chgLost := !power && t.pkg.chgLost, cntWarm := 0, cntSoft := 0, cntCluster := 0, cntVfence := 0, cntPort := 0 } }

/-! ## The keep record (R529, R531) -/

/-- R531: the resume records of the accessions outside FREE and DONE. -/
def resumeRecords (s : State) : List (List Nat) :=
  (s.acc.tab.filter fun e => e.2.live).map fun e => [e.1, e.2.coll, e.2.state, e.2.tag, e.2.committed, e.2.gen]

/-- R288, R531: a keep record written. -/
def writeKeep (s : State) : State :=
  { s with cave := s.cave.keepStripe, pwr := { s.pwr with
      keepSeq := s.pwr.keepSeq + 1, keepLog := s.flt.log, keepReads := s.cave.reads, keepBase := s.cave.readBase
      keepNrg := ((List.range 64).map fun c => nget s.pwr.nrgColl c) ++ ((List.range 4).map fun b => nget s.pwr.nrgBand b) ++
        [s.pwr.nrgUn, s.pwr.nrgTotal]
      keepAcc := resumeRecords s } }

/-- R529 steps 1, 4 and 5, R641: the package clamped, the debug session closed, the keys zeroed, every domain OFF. -/
def dropAll (s : State) : State :=
  let t := hubReset s false
  { t with
    sec := { s.sec with keys := [], level := 0, auth := 0, nonce := none, pendingD2 := none, pendingLc := none, closures := [] }
    pwr := { t.pwr with dstate := List.replicate 80 3, xoEn := false, nrgDom := [] }
    flt := { t.flt with fatal := s.flt.fatal, log := [], head := 0 }
    pkg := { s.pkg with
      alert := [], clReset := [], clFailed := [], vatCmds := [], portReset := [], chgLost := t.pkg.chgLost, wakeDriven := false } }

/-- R529: the keep sequence: clamp, keep record unless a current one of cause SLEEP exists (R530), debug session closed
and keys zeroed, every domain OFF. -/
def keepSequence (cause : Nat) (s : State) : State :=
  if s.pkg.phase = .off ∨ s.pkg.phase = .unpowered ∨ s.pkg.phase = .tripped then s
  else
    let t := dropAll (if s.pkg.phase == .ready && !(s.pwr.pkg == 3 && s.pwr.keepSleep) then writeKeep s else s)
    { t with pkg := { t.pkg with phase := .off, offCause := cause } }

/-! ## Fences (R549, R550) -/

/-- The kinds of domain of R504. -/
inductive Dom where
  /-- VATv -/
  | vat (v : Nat)
  /-- TRNj -/
  | trn (j : Nat)
  /-- NSk -/
  | ns (k : Nat)
  /-- CLc -/
  | cl (c : Nat)
  /-- DXi -/
  | dx (i : Nat)
  /-- FPp -/
  | fp (p : Nat)
  /-- MSi -/
  | ms (i : Nat)
  /-- CVi -/
  | cv (i : Nat)
  /-- USB -/
  | usb
  /-- SEC -/
  | sec
  /-- MGT -/
  | mgt
  /-- HCP -/
  | hcp
  /-- ACC -/
  | acc
  /-- KVE -/
  | kve
deriving DecidableEq, Repr, Inhabited

/-- R504: domain number `d`. -/
def domOf (d : Nat) : Dom :=
  if d < 16 then .vat d else if d < 32 then .trn (d - 16) else if d < 48 then .ns (d - 32) else if d < 56 then .cl (d - 48)
  else if d < 60 then .dx (d - 56) else if d < 66 then .fp (d - 60) else if d < 70 then .ms (d - 66)
  else if d < 74 then .cv (d - 70) else if d = 74 then .usb else if d = 75 then .sec else if d = 76 then .mgt
  else if d = 77 then .hcp else if d = 78 then .acc else .kve

/-- R549: the domain belongs to a fenced unit and takes no votes. -/
def domFenced (s : State) (d : Nat) : Bool :=
  match domOf d with
  | .vat v => s.isFenced siteVAT v
  | .trn j => (List.range 4).all fun i => s.isFenced siteTURNER (4 * j + i)
  | .ns k => s.isFenced siteCLUSTER (k / 2)
  | .cl c => s.isFenced siteCLUSTER c
  | .dx i => (List.range 4).all fun e => s.isFenced siteDMA (4 * i + e)
  | .fp p => s.isFenced siteFABRIC p
  | _ => false

/-- R504, R549: the domains of fenced units are OFF. -/
def offFenced (s : State) : State :=
  { s with pwr := { s.pwr with dstate := s.pwr.dstate.zipIdx.map fun e => if domFenced s e.2 then 3 else e.1 } }

/-- R549: a unit entered as fenced, its domain OFF. -/
def enterFence (s : State) (site unit : Nat) : State :=
  offFenced { s with flt := { s.flt with
      fenced := if s.flt.fenced.contains (site, unit) then s.flt.fenced else s.flt.fenced ++ [(site, unit)]
      recovering := s.flt.recovering.filter (· != (site, unit)) } }

/-- R549, R604: the resident and loading streams of a vat written to their carry objects: of the stopped task from the
shadow row, the others from the carry row. -/
def swapAll (s : State) (v : Nat) (stopped : Option TaskRef) : State :=
  let mine := match stopped with
    | some k => streamIdxs s k
    | none => []
  (s.gra.streams.filter fun e => e.2.2 == v).foldl (fun t e =>
    if e.2.1 = 1 then setStream t e.1 0 0
    else swapOutFrom t v e.1 (if mine.contains e.1 then (t.vat v).shadow else (t.vat v).carry) true) s

/-- R604: a running task stopped and put back in a ready queue, its attempt not counted. -/
def stopTask (s : State) (k : TaskRef) : State :=
  match runOf s k, descOf s k with
  | some r, some d =>
    if r.st != .running then s
    else
      let s := dropMoves (releaseUnits s k false) (ofTurner k)
      let s := modRun s k fun r =>
        { r with
          st := .ready, readyAt := 0, attempts := r.attempts - 1, sigNow := [], saved := none, moves := 0, atEnd := false, exc := 0, pc := 0,
          sat := 0, nan := false, overB := false, checkSeen := false, unit := 0xFF,
          sigBest := r.sigNow.foldl (fun b e => nset b e.1 (max (nget b e.1) e.2)) r.sigBest }
      settle (modQueue s (d.kind == 1) r.cluster (insertHead s k)) k.g
  | _, _ => s

/-- R549, R604: a cluster's near store emptied: writable copies spilled to main store, read-only ones dropped. -/
def emptyNear (s : State) (c : Nat) : State :=
  s.obj.tab.foldl (fun t e =>
    match objAt t e.1 with
    | none => t
    | some o =>
      if !o.inNear c then t
      else
        let t := if o.rw then { t with main := mcopy (t.nearOf c) (o.nearOff c) t.main o.devBase o.size } else t
        let t := if o.rw then { t with obj := { t.obj with spills := satAdd32 t.obj.spills 1 } } else t
        kickMig (countEvictions (dropNear t e.1 c) 1) e.1) s

/-- R214, R215, R549, R604: a task whose cluster loses its near store, or its vats, asks for its operands again, where R215
now places it; one that was ready returns to the head of its band. -/
def replaceTask (s : State) (k : TaskRef) : State :=
  match runOf s k, descOf s k with
  | some r, some d =>
    if 1 < d.kind || !(r.st == .ready || r.st == .granted || r.st == .requested) then s
    else
      let c := (chooseCluster s k d).getD r.cluster
      let s := modRun (unqueue s k) k fun x => { x with st := .requested, cluster := c, stolen := x.stolen || r.st == .ready }
      { s with gra := { s.gra with resQ := s.gra.resQ.modify c fun q => q ++ [k] } }
  | _, _ => s

/-- The tasks placed on a cluster that satisfy `p` placed anew. -/
def replaceTasks (s : State) (c : Nat) (p : Desc → Bool) : State :=
  ((liveTasks s).filter fun k => (runOf s k).any (fun r => r.cluster == c) && (descOf s k).any p).foldl replaceTask s

/-- R549: the hoops of a cluster's share move to other shares, or their accessions end EVICTED. -/
def moveHoops (s : State) (c : Nat) : State :=
  (s.kve.hoops.filter fun e => e.2.cluster == c).foldl (fun t e =>
    let n := hoopBytes t e.2.cls / 4096
    let room := (List.range 8).filter fun d => d != c && !t.isFenced siteCLUSTER d && (hoopPlace t d n).isSome
    match argMin (fun d => total ((hoopUsed t d).map (·.2))) room with
    | some d =>
      match hoopPlace t d n with
      | some b =>
        let h' : Hoop := { e.2 with cluster := d, base := b }
        let t' := t.modNear d fun m => mcopy (t.nearOf c) (hoopStart t e.2) m (hoopStart t h') (hoopBytes t e.2.cls)
        modHoop t' e.1 fun _ => h'
      | none => endAcc t e.2.acc ocEVICTED rsPAGES
    | none => endAcc t e.2.acc ocEVICTED rsPAGES) s

/-- R549: a vat fenced: its streams swapped out first. -/
def fenceVat (s : State) (v : Nat) : State :=
  let k := (s.vat v).bound
  let s := swapAll s v k
  let s := match k with
    | some k => stopTask s k
    | none => s
  let s := grantsLeft ((enterFence s siteVAT v).modVat v fun x => { x.unbind with state := 6 })
  replaceTasks s (clusterOfVat v) fun d => fencedFor s d (clusterOfVat v)

/-- R549: a turner fenced. -/
def fenceTurner (s : State) (t : Nat) : State :=
  let s := match (s.trn t).bound with
    | some k => stopTask s k
    | none => s
  (enterFence s siteTURNER t).modTrn t fun x => { x with state := 6, bound := none, vat := none, wait := .none, topk := none }

/-- R338, R549: a DMA engine fenced: its moves wait for another engine, and its migrations go to another. -/
def fenceDma (s : State) (e : Nat) : State :=
  let left := s.obj.moves.map fun (m : Move) =>
    if m.engine = some e then { m with engine := none } else if m.given = some e then { m with given := none } else m
  let s := enterFence { s with obj := { s.obj with moves := left } } siteDMA e
  (rehomeMigs s e).modDx e fun x => { x with state := 4, queued := 0 }

/-- R549: a cluster fenced, its vats and turners with it. -/
def fenceCluster (s : State) (c : Nat) : State :=
  let s := (List.range 2).foldl (fun t i => fenceVat t (2 * c + i)) s
  let s := (List.range 8).foldl (fun t i => fenceTurner t (8 * c + i)) s
  replaceTasks (enterFence (moveHoops (emptyNear s c) c) siteCLUSTER c) c fun _ => true

/-- R467, R549: a fabric port fenced, with the event; what it was carrying is lost with the link. -/
def fencePort (s : State) (p : Nat) : State :=
  let s := linkDown s p
  sendEvent evFAB_FENCED (le4 p) (modFPort (enterFence s siteFABRIC p) p fun x => { x with state := 5 })

/-- R306, R313: a cave channel fenced: a relocation on it stops, and its block is queued again. -/
def fenceChannel (s : State) (ch : Nat) : State :=
  let back := (s.cave.relocating ++ s.cave.copied).filter (·.ch == ch)
  back.foldl (fun t r => queueReloc t (r.set, r.ch))
    { enterFence s siteCAVE ch with cave := s.cave.stopRelocs fun r => r.ch == ch }

/-- R550: a fence of a unit would leave the package with none of its kind unfenced, or is of a second cave channel. -/
def lastOfKind (s : State) (site unit : Nat) : Bool :=
  let n := if site = siteVAT then 16 else if site = siteTURNER then 64 else if site = siteDMA then 16
    else if site = siteCLUSTER then 8 else 0
  if site = siteCAVE then s.flt.fenced.any fun f => f.1 == siteCAVE && f.2 != unit
  else n != 0 && (List.range n).all fun u => u == unit || s.isFenced site u

/-- R550: a detection in a unit of this site cannot be answered by a fence. -/
def unfenceable (site : Nat) : Bool :=
  site == siteMAIN || (siteGRAPH ≤ site && site ≤ siteHUB)

/-- R549, R550: a unit fenced, with the clusters that follow a stack without engines. -/
def fenceUnit (s : State) (site unit : Nat) : State :=
  if site = siteVAT then fenceVat s unit
  else if site = siteTURNER then fenceTurner s unit
  else if site = siteDMA then
    let s := fenceDma s unit
    let st := unit / 4
    if (List.range 4).all (fun e => s.isFenced siteDMA (4 * st + e)) then fenceCluster (fenceCluster s (2 * st)) (2 * st + 1) else s
  else if site = siteCLUSTER then fenceCluster s unit
  else if site = siteFABRIC then fencePort s unit
  else if site = siteCAVE then fenceChannel s unit
  else enterFence s site unit

end Sys2Proof.Machine
end

