-- ==== Sys2Proof/Machine/Weights.lean ====
section
/-! DEFINITION. Weights: every command and event of chapter 12. -/

namespace Sys2Proof.Machine

open Sys2Proof

/-! ## Host loads (R415) -/

/-- R48, R51, R412, R415: an object named by a load: read-only, of home MAIN, of the collection, EMPTY or FAILED. -/
def loadable (s : State) (h coll : Nat) : Option Obj :=
  match objOf s h with
  | some (_, o) =>
    if !o.rw && o.home == 0 && o.coll == coll && (o.lstate == 0 || o.lstate == 4) && !o.freeing && !o.closing then some o
    else none
  | none => none

/-- R415: the objects of a load are as they must be. -/
def loadObjsOK (s : State) (handle fmt whey widx : Nat) : Bool :=
  match objOf s handle with
  | none => false
  | some (_, o) =>
    let t := o.size / 36352
    (loadable s handle o.coll).isSome &&
      (fmt != 1 || o.size % 36352 == 0) && (fmt != 2 || o.size % 33792 == 0) &&
      (if whey = 0 then widx == 0
       else fmt == 1 && whey != handle && widx != handle && whey != widx &&
        ((loadable s whey o.coll).any fun w => w.size == 8192 * t) && ((loadable s widx o.coll).any fun w => w.size == 4 * t))

/-- A load as it is when accepted. -/
def newLoad (h : Hdr) (handle fmt count stream whey widx : Nat) (objId : Option Nat) (bcast : Bool) : Load :=
  { handle := handle, whey := whey, widx := widx, fmt := fmt, count := count, stream := stream, objId := objId,
    port := h.port, tag := h.tag, bcast := bcast, mload := none, done := [], fails := [], parts := [], spans := [], escapes := 0,
    sat := 0, nan := false, retries := 0, rereq := 0, direct := 0, directNow := 0 }

/-- R415, R416: a load accepted under a LOAD_ID that no load holds, its objects LOADING. -/
def enterLoad (x : Load) (s : State) : Option Ans × State :=
  match pickBelow 65536 (fun n => (loadAt s n).isNone) s with
  | (some id, s) => (some (Ans.ok id), setLoadState (modWgt s fun w => { w with loads := tset w.loads id x }) x 1)
  | (none, s) => (some (Ans.err stFULL), s)

/-- R415: a stream that a load or a plan may name. -/
def loadStream (s : State) (n : Nat) : Bool := 1 ≤ n && n ≤ 32 && !bit (hostFetchStreams s) (n - 1)

/-- R415: the effect of WGT_LOAD; a port that has no streams answers PORT (R580, R585). -/
def wgtLoad (h : Hdr) (handle fmt count stream whey widx : Nat) : Effect := fun _ s =>
  if h.port != .usb then (some (Ans.err stPORT), s)
  else if 3 < fmt || count == 0 || 1048576 < count || !loadStream s stream then (some (Ans.err stPARAM), s)
  else if !loadObjsOK s handle fmt whey widx then (some (Ans.err stSTATE), s)
  else enterLoad (newLoad h handle fmt count stream whey widx none false) s

/-- R415: WGT_LOAD. -/
def execWgtLoad (h : Hdr) (handle fmt count stream whey widx : Nat) (s : State) : Out :=
  .next (hostCmd h {} (wgtLoad h handle fmt count stream whey widx) (.wgtLoad h handle fmt count stream whey widx) s)

/-- R43, R415: a wheel of a host load failed: one that is not retried ends the load at once, another after the third time;
until then the host is asked for the wheel again. -/
def hostWheelFailed (s : State) (id k st : Nat) (last : Bool) (x : Load) : State :=
  let f := nget x.fails k + 1
  let s := modLoad (countFailed st s) id fun x => { x with fails := nset x.fails k f }
  if last ∨ 3 ≤ f then
    match loadAt s id with
    | some x => endLoad s id x st k max32
    | none => s
  else sendEvent evWHEEL_RETRY (le4 id ++ le4 k) s

/-- R415: a wheel arrives for a host load. -/
def hostWheel (s : State) (id : Nat) (x : Load) (b : Bytes) : State :=
  let k := wheelNum b
  if x.done.contains k then countDuplicate s
  else
    let s := if nget x.fails k = 0 then s else modLoad s id fun x => { x with retries := satAdd32 x.retries 1 }
    match takeWheel s id x b with
    | .error (st, last) => hostWheelFailed s id k st last x
    | .ok s =>
      match loadAt s id with
      | some x => if x.done.length = x.count then finishLoad s id x else s
      | none => s

/-- `s` with entry `j` of the plan changed. -/
def modPlan (s : State) (j : Nat) (f : PlanE → PlanE) : State :=
  modRepl s fun r => { r with plan := r.plan.modify j f }

/-- R415, R429, R434: a wheel arrives for entry `j` of the plan of a replacement. -/
def planWheel (s : State) (r : Repl) (j : Nat) (e : PlanE) (b : Bytes) : State :=
  let k := wheelNum b
  if !mayStage r e.group || e.src != 0 then s
  else if e.wheels.any fun w => wheelNum w == k then countDuplicate s
  else
    match planData s { e with wheels := e.wheels ++ [b] } with
    | .ok _ => modPlan (countArrival (countWheel s) b.length b.length) j fun e => { e with wheels := e.wheels ++ [b] }
    | .error (st, last) =>
      let f := nget e.fails k + 1
      let s := modPlan (countFailed st s) j fun e => { e with fails := nset e.fails k f }
      if last ∨ 3 ≤ f then stopRepl s e.group st
      else sendEvent evWHEEL_RETRY (le4 (65536 + j) ++ le4 k) s

/-- R410: WHEEL_ARRIVAL: a whole wheel of the stream of a load; load 65,536 + j is entry j of the plan of the running
replacement (notes/assumptions/28.md). -/
def execWheelArrival (load : Nat) (bytes : Bytes) (s : State) : Out :=
  .next (if !serviceOn s then s
    else if load < 65536 then
      match loadAt s load with
      | some x => if x.bcast then s else hostWheel s load x bytes
      | none => s
    else
      match s.wgt.repl with
      | some r =>
        match r.plan[load - 65536]? with
        | some e => planWheel s r (load - 65536) e bytes
        | none => s
      | none => s)

/-- R415: WGT_HOST_TMO_EXPIRY: no wheel for WGT_HOST_TMO. -/
def execWgtHostTmoExpiry (load : Nat) (s : State) : Out :=
  .next (if load < 65536 then
      match loadAt s load with
      | some x => if x.bcast then s else endLoad s load x lsTIMEOUT max32 max32
      | none => s
    else
      match s.wgt.repl with
      | some r =>
        match r.plan[load - 65536]? with
        | some e => if mayStage r e.group && e.src == 0 then stopRepl s e.group lsTIMEOUT else s
        | none => s
      | none => s)

/-! ## Broadcasts (R417-R420) -/

/-- R417: WGT_EXPECT. -/
def wgtExpect (h : Hdr) (handle objId fmt whey widx : Nat) : Effect := fun _ s =>
  if 3 < fmt then (some (Ans.err stPARAM), s)
  else if !loadObjsOK s handle fmt whey widx then (some (Ans.err stSTATE), s)
  else enterLoad (newLoad h handle fmt 0 0 whey widx (some objId) true) s

/-- R417: WGT_EXPECT. -/
def execWgtExpect (h : Hdr) (handle objId fmt whey widx : Nat) (s : State) : Out :=
  .next (hostCmd h {} (wgtExpect h handle objId fmt whey widx) (.wgtExpect h handle objId fmt whey widx) s)

/-- R417: the OBJ_ID and wheel count of a broadcast: read from its own cave where the coordinator is the reader; the manual
does not say how it learns them otherwise: free values (notes/assumptions/27.md). -/
def manOf (s : State) (group reader region entry mask : Nat) : Man × State :=
  let ws := readerWheels s region entry
  if reader = fabId s then
    ({ group := group, reader := reader, region := region, entry := entry,
       objId := ((ws.findSome? (·.2)).map fun b => bnum b 16 4).getD 0, count := ws.length, mask := mask }, s)
  else
    ({ group := group, reader := reader, region := region, entry := entry, objId := drawn s % 2 ^ 32,
       count := drawn (advance s) % 1048576 + 1, mask := mask }, advance (advance s))

/-- R417: the parameters of a broadcast are legal: this package coordinates the VALID group, and reader and expecting
members are members of it. -/
def bcastOK (s : State) (group reader region entry mask : Nat) : Bool :=
  groupValid s group && groupCoord s group == fabId s && reader < 24 && bit (groupMask s group) reader && mask != 0 &&
    mask < 2 ^ 24 && (maskBits 24 mask).all (bit (groupMask s group)) &&
    (reader != fabId s || ((tget s.cave.regions region).any fun r => r.state == 2 && entry < r.dir.length))

/-- R417: WGT_BCAST. Whether another member has expected the OBJ_ID no message tells the coordinator
(notes/assumptions/27.md). -/
def wgtBcast (h : Hdr) (group reader region entry mask : Nat) : Effect := fun _ s =>
  if !bcastOK s group reader region entry mask then (some (Ans.err stPARAM), s)
  else
    let (m, s) := manOf s group reader region entry mask
    if bit mask (fabId s) && !(s.wgt.loads.any fun e => e.2.bcast && e.2.mload.isNone && e.2.objId == some m.objId) then
      (some (Ans.err stSTATE), s)
    else
      match pickBelow 65536 (fun n => (tget s.wgt.mans n).isNone && (tget s.wgt.bcasts n).isNone) s with
      | (none, s) => (some (Ans.err stFULL), s)
      | (some n, s) =>
        let b : Bcast := { group := group, reader := reader, region := region, entry := entry, mask := mask, reported := [],
                           rereq := 0, direct := 0, port := h.port, tag := h.tag }
        let s := modWgt s fun w => { w with bcasts := tset w.bcasts n b }
        let s := ((groupMembers s group).filter (· != fabId s)).foldl (fun t q =>
          sendCtl q 0x05 group [n, reader, region, entry, m.objId, m.count, mask] t) s
        (some (Ans.ok n), takeManifest s n m)

/-- R417: WGT_BCAST. -/
def execWgtBcast (h : Hdr) (group reader region entry mask : Nat) (s : State) : Out :=
  .next (hostCmd h {} (wgtBcast h group reader region entry mask) (.wgtBcast h group reader region entry mask) s)

/-- R418: BROADCAST_WHEEL. -/
def execBroadcastWheel (load k : Nat) (bytes : Bytes) (s : State) : Out :=
  .next (if serviceOn s then takeBroadcast s load k bytes else s)

/-- R419: WGT_WHEEL_TMO_EXPIRY: an expected wheel of a broadcast is missing. -/
def execWgtWheelTmoExpiry (load k : Nat) (s : State) : Out :=
  .next (match tget s.wgt.mans load, bcastLoad s load with
    | some m, some (id, x) => if k < x.count && !x.done.contains k then wheelFailed s id load k m else s
    | _, _ => s)

/-- R419: DIRECT_REQUEST_TIMEOUT: one more direct request, then the broadcast ends TIMEOUT. -/
def execDirectRequestTimeout (load k : Nat) (s : State) : Out :=
  .next (match tget s.wgt.mans load, bcastLoad s load with
    | some m, some (id, x) =>
      if x.done.contains k then s
      else if nget x.fails k = 4 then
        sendDirect (modLoad s id fun x => { x with fails := nset x.fails k 5 }) id load k m
      else if nget x.fails k = 5 then endBcast s load lsTIMEOUT k
      else s
    | _, _ => s)

/-- R420: BROADCAST_MEMBER_REPORT. -/
def execBroadcastMemberReport (load src rereq direct : Nat) (s : State) : Out := .next (takeReport s load src rereq direct)

/-! ## Grants (R421, R422) -/

/-- R421: the effect of WGT_GRANT. -/
def wgtGrant (handle grantee : Nat) : Effect := fun _ s =>
  match objOf s handle with
  | none => (some (Ans.err stPARAM), s)
  | some (i, o) =>
    if 63 < grantee then (some (Ans.err stPARAM), s)
    else if o.rw || o.coll == grantee then (some (Ans.err stSTATE), s)
    else if s.obj.grants.contains (i, grantee) then (some (Ans.err stALREADY), s)
    else if 1024 ≤ s.obj.grants.length then (some (Ans.err stFULL), s)
    else (some (Ans.ok 0), { s with obj := { s.obj with grants := s.obj.grants ++ [(i, grantee)] } })

/-- R421: WGT_GRANT. -/
def execWgtGrant (h : Hdr) (handle grantee : Nat) (s : State) : Out :=
  .next (hostCmd h {} (wgtGrant handle grantee) (.wgtGrant h handle grantee) s)

/-- R422: a resident graph names an object as a fixed operand or command list. -/
def graphNames (x : Graph) (handle : Nat) : Bool :=
  x.tasks.any fun d => (rawOperands d).contains handle || (d.kind == 1 && d.kernel == handle) || (d.kind == 0 && d.kernel == handle)

/-- R422: the effect of WGT_REVOKE. -/
def wgtRevoke (handle grantee : Nat) : Effect := fun _ s =>
  match objOf s handle with
  | none => (some (Ans.err stPARAM), s)
  | some (i, _) =>
    if !s.obj.grants.contains (i, grantee) then (some (Ans.err stSTATE), s)
    else if s.gra.graphs.any fun e => e.2.coll == grantee && graphNames e.2 handle then (some (Ans.err stIN_USE), s)
    else (some (Ans.ok 0), { s with obj := { s.obj with grants := s.obj.grants.filter (· != (i, grantee)) } })

/-- R422: WGT_REVOKE. -/
def execWgtRevoke (h : Hdr) (handle grantee : Nat) (s : State) : Out :=
  .next (hostCmd h {} (wgtRevoke handle grantee) (.wgtRevoke h handle grantee) s)

/-! ## Adapters (R423-R426) -/

/-- R436 USERS: accessions outside FREE and DONE that name an adapter slot. -/
def adapterUsers (s : State) (slot : Nat) : Nat := (s.acc.tab.filter fun e => e.2.live && e.2.adapter == slot).length

/-- R423: the header of an adapter is as it must be. -/
def adapterHeaderOK (b : Bytes) : Bool :=
  bnum b 0 4 == 0x5A524144 && 1 ≤ bnum b 4 2 && bnum b 4 2 ≤ 64 && 1 ≤ bnum b 6 2 && bnum b 6 2 ≤ 1024

/-- R424: the effect of ADP_LOAD. -/
def adpLoad (slot handle : Nat) : Effect := fun _ s =>
  match objOf s handle with
  | none => (some (Ans.err stPARAM), s)
  | some (_, o) =>
    if 63 < slot then (some (Ans.err stPARAM), s)
    else if adapterUsers s slot != 0 then (some (Ans.err stBUSY), s)
    else if o.rw || o.home != 0 || o.lstate != lsREADY || o.freeing || o.closing then (some (Ans.err stSTATE), s)
    else
      match objRead s o 0 64 with
      | none => (some (Ans.err stSTATE), s)
      | some b =>
        if !adapterHeaderOK b then (some (Ans.err stFORMAT), s)
        else
          let a : Adapter := { coll := o.coll, rank := bnum b 4 2, handle := handle, alpha := bnum b 8 2 }
          (some (Ans.ok 0), modWgt s fun w => { w with adapters := tset w.adapters slot a })

/-- R424: ADP_LOAD. -/
def execAdpLoad (h : Hdr) (slot handle : Nat) (s : State) : Out :=
  .next (hostCmd h {} (adpLoad slot handle) (.adpLoad h slot handle) s)

/-- R424: the effect of ADP_FREE. -/
def adpFree (slot : Nat) : Effect := fun _ s =>
  if 63 < slot then (some (Ans.err stPARAM), s)
  else if adapterUsers s slot != 0 then (some (Ans.err stBUSY), s)
  else (some (Ans.ok 0), modWgt s fun w => { w with adapters := terase w.adapters slot })

/-- R424: ADP_FREE. -/
def execAdpFree (h : Hdr) (slot : Nat) (s : State) : Out := .next (hostCmd h {} (adpFree slot) (.adpFree h slot) s)

/-- R426: the bytes of a published adapter, from the training state: its header and target table, then each master value
rounded to BF16. -/
def publishBytes (b : Bytes) (head n : Nat) : Bytes :=
  b.take head ++ ((List.range n).flatMap fun i => leBytes 2 (bf16Of32 (bnum b (head + 4 * i) 4)))

/-- R426: the effect of ADP_PUBLISH. The manual does not lay out a training state; here `layout` is the offset in it of a
header and target table as R423 lays them out, and the FP32 master values follow in the order of the adapter's values
(notes/assumptions/29.md). -/
def adpPublish (train layout adapter : Nat) : Effect := fun _ s =>
  match objOf s train, objOf s adapter with
  | some (_, o), some (j, p) =>
    if o.coll != p.coll then (some (Ans.err stACCESS), s)
    else if !o.rw then (some (Ans.err stPARAM), s)
    else if p.rw || p.home != 0 || p.lstate != 0 || p.freeing || p.closing then (some (Ans.err stSTATE), s)
    else
      match objRead s o layout (2 * p.size) with
      | none => (some (Ans.err stSTATE), s)
      | some b =>
        let head := 64 + 16 * bnum b 6 2
        let n := (p.size - head) / 2
        if !adapterHeaderOK b || p.size < head || o.size < layout + head + 4 * n then (some (Ans.err stPARAM), s)
        else (some (Ans.ok 0), modObj (objWrite s j 0 (publishBytes b head n)) j fun q => { q with lstate := lsREADY, fmt := 0 })
  | _, _ => (some (Ans.err stPARAM), s)

/-- R426: ADP_PUBLISH. -/
def execAdpPublish (h : Hdr) (train layout adapter : Nat) (s : State) : Out :=
  .next (hostCmd h {} (adpPublish train layout adapter) (.adpPublish h train layout adapter) s)

/-- R406, R407, R426: one AS_IS wheel of CODEC RAW. -/
def sealWheel (key nonce : Bytes) (objId k off : Nat) (bs : Bytes) : Bytes :=
  let head := le4 0x5A525748 ++ [1, 0, 0, 0] ++ leBytes 2 0 ++ [0, 0] ++ leBytes 2 0 ++ leBytes 2 0 ++ le4 objId ++ le4 k ++
    leBytes 8 off ++ le4 bs.length ++ le4 bs.length ++ padTo 12 nonce ++ zeros 12
  let c := Config.gcmSeal key (padTo 12 nonce) head bs
  let body := head ++ padTo bs.length c.1 ++ padTo 16 c.2
  body ++ le4 (crc32c body)

/-- R426: an object's bytes as wheels of at most 65,536 bytes each. -/
def sealObject (s : State) (key : Bytes) (objId : Nat) (bs : Bytes) : Bytes :=
  (chunks 65536 ((bs.length + 65535) / 65536) bs).zipIdx.flatMap fun e =>
    sealWheel key (Config.trng (s.fresh + 1 + e.2) 12) objId e.2 (65536 * e.2) e.1

/-- R426, R472: the effect of ADP_EXPORT; it returns its wheels as result data. -/
def adpExport (h : Hdr) (handle : Nat) : Effect := fun _ s =>
  match objOf s handle with
  | none => (some (Ans.err stPARAM), s)
  | some (_, o) =>
    if !bit h.flags 1 then (some (Ans.err stPARAM), s)
    else if o.rw || o.home != 0 || o.lstate != lsREADY || o.freeing || o.closing then (some (Ans.err stSTATE), s)
    else if s.sec.trngFail then (some (Ans.err stENTROPY), s)
    else
      match wheelKey s o.coll, objRead s o 0 o.size with
      | some key, some b =>
        let d := sealObject s key (drawn s % 2 ^ 32) b
        (some { value := d.length % 2 ^ 32, rdata := some d }, { s with fresh := s.fresh + 1 + (b.length + 65535) / 65536 })
      | _, _ => (some (Ans.err stACCESS), s)

/-- R426: ADP_EXPORT. -/
def execAdpExport (h : Hdr) (handle : Nat) (s : State) : Out :=
  .next (hostCmd h {} (adpExport h handle) (.adpExport h handle) s)

/-! ## Replacements (R428-R434) -/

/-- R428: a plan read from its bytes. -/
def planEntries (b : Bytes) : List PlanE :=
  (List.range ((b.length - 16) / 16)).map fun i =>
    let f (o n : Nat) : Nat := bnum b (16 + 16 * i + o) n
    { group := f 0 1, src := f 1 1, where_ := f 2 2, handle := f 4 4, entry := f 8 4, wheels := [], fails := [], data := [] }

/-- R13, R428: the plan's fields are as they must be; its reserved bytes are ignored. -/
def planFormOK (b : Bytes) : Bool :=
  let n := bnum b 2 2
  32 ≤ b.length && b.length % 16 == 0 && 1 ≤ n && n ≤ 256 &&
    (planEntries b).all (fun e => e.group < n && e.src ≤ 1) &&
    ((planEntries b).map (·.handle)).eraseDups.length == (planEntries b).length

/-- R428: the status of one entry of a plan, for a collection. -/
def planEntryStatus (s : State) (coll : Nat) (e : PlanE) : Option Nat :=
  match objOf s e.handle with
  | none => some stPARAM
  | some (_, o) =>
    if o.coll != coll then some stACCESS
    else if o.rw || o.lstate != lsREADY || o.freeing || o.closing || o.home == 2 || (o.home == 1 && e.src == 0) then some stPARAM
    else if e.src = 0 then if loadStream s e.where_ then none else some stPARAM
    else
      match tget s.cave.regions e.where_ with
      | none => some stPARAM
      | some r =>
        if r.coll != coll then some stACCESS
        else if r.state != 2 || (r.dir[e.entry]?).all (fun d => d.2.2 != o.size) then some stPARAM
        else none

/-- R428: a graph is the step graph of a service of a mask. -/
def stepGraphOf (s : State) (svcs g : Nat) : Bool :=
  s.acc.svcs.any fun e => e.2.valid && bit svcs e.1 && (e.2.dgraph == g || e.2.pgraph == g)

/-- R428: an object is in use by a service outside the mask: its step graph names it, or its binding objects hold its
handle. -/
def usedOutside (s : State) (svcs handle : Nat) : Bool :=
  s.acc.svcs.any fun e => e.2.valid && !bit svcs e.1 &&
    ([e.2.dgraph, e.2.pgraph].any (fun g => (graphOf s g).any fun x => graphNames x handle) ||
      [e.2.d.getD 3 0, e.2.p.getD 3 0].any fun h => (objOf s h).any fun p =>
        (objRead s p.2 0 p.2.size).any fun b => (List.range (b.length / 4)).any fun i => bnum b (4 * i) 4 == handle)

/-- R428 SCOPE. -/
def outOfScope (s : State) (svcs : Nat) (es : List PlanE) : Bool :=
  es.any fun e => s.gra.graphs.any (fun g => graphNames g.2 e.handle && !stepGraphOf s svcs g.1) || usedOutside s svcs e.handle

/-- R429: the staging reservation of a plan: twice its largest group, of the objects that are staged. -/
def planStaging (s : State) (n : Nat) (es : List PlanE) : Nat :=
  2 * ((List.range n).map fun g => total ((es.filter fun e => e.group == g && !planDirect s e).map fun e =>
    ((objOf s e.handle).map fun p => p.2.size).getD 0)).foldl max 0

/-- R428, R429: a plan checked: its status, or the replacement that it gives and the state with room for it. `done` are the
groups flipped before. -/
def checkPlan (s : State) (plan : Nat) (done : List Nat) (svcs : Option Nat) : Except Nat (Repl × State) :=
  match objOf s plan with
  | none => .error stPARAM
  | some (_, o) =>
    if !o.rw then .error stPARAM
    else
      match objRead s o 0 o.size with
      | none => .error stPARAM
      | some b =>
        let es := planEntries b
        let mask := bnum b 0 2
        if !planFormOK b || svcs.any (· != mask) || es.any (fun e => done.contains e.group) then .error stPARAM
        else
          match es.findSome? (planEntryStatus s o.coll) with
          | some st => .error st
          | none =>
            if outOfScope s mask es then .error stSCOPE
            else
              let n := planStaging s (bnum b 2 2) es
              match mainRoom s n with
              | none => .error stSPACE
              | some s =>
                .ok ({ svcs := mask, ngroup := bnum b 2 2, plan := es, stagedG := done, flippedG := done, stopped := false,
                       coll := o.coll, staging := n }, s)

/-- R428: the effect of WGT_REPLACE. -/
def wgtReplace (plan : Nat) : Effect := fun _ s =>
  if s.wgt.repl.isSome then (some (Ans.err stBUSY), s)
  else
    match checkPlan s plan [] none with
    | .error st => (some (Ans.err st), s)
    | .ok (r, s) =>
      (some (Ans.ok 0), modWgt s fun w => { w with
        repl := some r, gens := w.gens.zipIdx.map fun e => if bit r.svcs e.2 then if e.1 = max32 then 1 else e.1 + 1 else e.1 })

/-- R428: WGT_REPLACE. -/
def execWgtReplace (h : Hdr) (plan : Nat) (s : State) : Out := .next (hostCmd h {} (wgtReplace plan) (.wgtReplace h plan) s)

/-- R300, R429: the contents of the entries of a group taken, those of the cave read from it: the group's state once every
object is whole, none while wheels are awaited, or the status with which it cannot be staged. -/
def stageGroup (s : State) (g : Nat) : List (PlanE × Nat) → Except Nat (Option State)
  | [] => .ok (some s)
  | (e, j) :: es =>
    if e.group ≠ g ∨ planDirect s e then stageGroup s g es
    else
      match planData s e with
      | .error (st, _) => .error st
      | .ok none => .ok none
      | .ok (some m) =>
        let t := modPlan s j fun e => { e with data := m, wheels := [] }
        stageGroup (if e.src = 0 then t else readEntry t e.where_ e.entry) g es

/-- R429, R434: GROUP_STAGED: every wheel of the group has verified, or a wheel from the cave has failed. -/
def execGroupStaged (k : Nat) (s : State) : Out :=
  .next (match s.wgt.repl with
    | some r =>
      if !computeOn s || !mayStage r k then s
      else
        match stageGroup s k r.plan.zipIdx with
        | .error st => stopRepl (countFailed st s) k st
        | .ok none => s
        | .ok (some t) => modRepl t fun r => { r with stagedG := r.stagedG ++ [k] }
    | none => s)

/-- R430: a task of an instance that has not ended names an object. -/
def stillNames (x : Graph) (n : Inst) (handles : List Nat) : Bool :=
  x.tasks.zipIdx.any fun e =>
    ((n.runs[e.2]?).all fun r => r.st.status.isNone) &&
      ((rawOperands e.1).any (fun h => handles.contains (resolve n h)) || (e.1.kind == 1 && handles.contains (resolve n e.1.kernel)))

/-- R430: an instance of an older generation of a service still names an object of the group. -/
def olderNames (s : State) (r : Repl) (k : Nat) : Bool :=
  let hs := (r.plan.filter fun e => e.group == k).map (·.handle)
  s.gra.graphs.any fun g =>
    (stepServices s r g.1).any fun i =>
      (g.2.queue ++ g.2.run.toList).any fun n =>
        isStepOf s g.1 n && n.gen != s.wgt.gens.getD i 1 && stillNames g.2 n hs

/-- R430: the copies of an object dropped from near store; a place that a granted task holds is kept, and its copy is
promoted again. -/
def dropCopies (s : State) (i : Nat) : State :=
  (List.range 8).foldl (fun t c =>
    match objAt t i with
    | none => t
    | some o =>
      if !o.inNear c then t
      else if o.pins = 0 then dropNear t i c
      else wantPromo (modObj t i fun o => { o with nsmask := setBit o.nsmask c false }) i (c + 1)) s

/-- R430: the new content of one object takes the place of the old, and damage of the old goes with it (DEDUCED,
notes/assumptions/33.md). -/
def flipObject (s : State) (e : PlanE) : State :=
  match objOf s e.handle with
  | none => s
  | some (i, o) =>
    let s := modObj s i fun o => { o with damaged := false }
    let s := if o.home = 1 then
        modObj s i fun o => { o with res := false, homeref := e.where_, dirEntry := e.entry }
      else { s with main := mcopy e.data 0 s.main o.devBase o.size }
    dropCopies s i

/-- R431: the instances that the swap barrier still holds. -/
def stillHeld (s : State) : List TaskRef :=
  s.wgt.held.filter fun h => (instOf s h.g).any fun n => n.serial == h.i &&
    (List.range n.runs.length).any fun i => atBarrier s ⟨h.g, i⟩ && ((runOf s ⟨h.g, i⟩).any fun r => r.st.unstarted)

/-- R430: a replacement all of whose groups have flipped is complete: its services take steps again (R434). -/
def endRepl (s : State) : State :=
  match s.wgt.repl with
  | some r =>
    if (List.range r.ngroup).all r.flippedG.contains then
      { s with
        wgt := { s.wgt with repl := none }
        acc := { s.acc with blocked := s.acc.blocked.filter fun i => !bit r.svcs i } }
    else s
  | none => s

/-- R430: FLIP of group `k`. -/
def execFlip (k : Nat) (s : State) : Out :=
  .next (match s.wgt.repl with
    | some r =>
      if !serviceOn s || !r.stagedG.contains k || r.flippedG.contains k || olderNames s r k then s
      else
        let s := modRepl s fun r => { r with flippedG := r.flippedG ++ [k] }
        let s := (r.plan.filter fun e => e.group == k).foldl flipObject s
        let s := modRepl s fun r => { r with plan := r.plan.map fun e => if e.group = k then { e with data := [] } else e }
        let s := modWgt s fun w => { w with swaps := satAdd32 w.swaps 1, held := stillHeld s }
        endRepl s
    | none => s)

/-- R434: the effect of WGT_RESUME: the old reservation is given back before the new plan is checked. -/
def wgtResume (plan : Nat) : Effect := fun _ s =>
  match s.wgt.repl with
  | some r =>
    if !r.stopped then (some (Ans.err stSTATE), s)
    else
      match checkPlan (modRepl s fun r => { r with staging := 0 }) plan r.flippedG (some r.svcs) with
      | .error st => (some (Ans.err st), s)
      | .ok (q, t) => (some (Ans.ok 0), modWgt t fun w => { w with repl := some q })
  | none => (some (Ans.err stSTATE), s)

/-- R434: WGT_RESUME. -/
def execWgtResume (h : Hdr) (plan : Nat) (s : State) : Out := .next (hostCmd h {} (wgtResume plan) (.wgtResume h plan) s)

/-- R434: the effect of WGT_ABANDON: held instances end ABORTED, and the services take no step until a new replacement
completes for them. -/
def wgtAbandon : Effect := fun _ s =>
  match s.wgt.repl with
  | some r =>
    if !r.stopped then (some (Ans.err stSTATE), s)
    else
      let held := s.wgt.held
      let s := { s with
        wgt := { s.wgt with repl := none, held := [] }
        acc := { s.acc with blocked := (s.acc.blocked ++ maskBits 16 r.svcs).eraseDups } }
      (some (Ans.ok 0), held.foldl (fun t h =>
        if (instOf t h.g).any fun n => n.serial == h.i then endEarly t h.g 1 else t) s)
  | none => (some (Ans.err stSTATE), s)

/-- R434: WGT_ABANDON. -/
def execWgtAbandon (h : Hdr) (s : State) : Out := .next (hostCmd h {} wgtAbandon (.wgtAbandon h) s)

end Sys2Proof.Machine
end

