-- ==== Sys2Proof/Machine/SecOps.lean ====
section
/-! DEFINITION. The Ciset root (chapter 14): identity, bundles, tokens, provenance records and closure, as operations. -/

namespace Sys2Proof.Machine

open Sys2Proof

/-! ## Lifecycle and identity (R473, R494) -/

def lcBLANK : Nat := 0
def lcDEVELOPMENT : Nat := 1
def lcPRODUCTION : Nat := 2
def lcRETURNED : Nat := 3

/-- The root changed. -/
def modSec (s : State) (f : Sec → Sec) : State := { s with sec := f s.sec }

/-- The bytes of an ASCII string. -/
def ascii (t : String) : Bytes := t.toList.map fun c => BitVec.ofNat 8 c.toNat

/-- Bytes `a` to `a + n - 1`. -/
def slice (b : Bytes) (a n : Nat) : Bytes := (b.drop a).take n

/-- R494: the lifecycles that have an identity and collections. -/
def hasIdentity (x : Sec) : Bool := x.lifecycle == lcDEVELOPMENT || x.lifecycle == lcPRODUCTION

/-- R473: the two seeds of the device identity. -/
def devSeeds : Bytes := Config.hkdf [] Config.uds (ascii "ISCEN DEVID") 64

/-- R473: the two seeds of the alias. -/
def aliasSeeds (x : Sec) : Bytes := Config.hkdf [] devSeeds (ascii "ISCEN ALIAS" ++ x.meas.flatMap id) 64

/-- R473: the Ed25519 and ML-DSA-65 public keys of two seeds. -/
def publicKeys (seeds : Bytes) : Bytes := Config.edPub (slice seeds 0 32) ++ Config.mlPub (slice seeds 32 32)

/-- R473: the device id. -/
def deviceId : Bytes := Config.sha384 (publicKeys devSeeds)

/-- R495, R497: what the DEVICE field of a token is compared with. -/
def tokenDevice (s : State) : Bytes := if hasIdentity s.sec then deviceId else s.part.serial.flatMap le4

/-! ## Bundles (R476, R477) -/

/-- R287: the size of a firmware slot. -/
def slotSize : Nat := 124 * 2 ^ 20

/-- R476: the length of the header and images of a bundle. -/
def bundleBody (b : Bytes) : Nat := 64 + bnum b 8 4 + bnum b 12 4 + bnum b 16 4

/-- R476: the image of a stage, 0 BL1, 1 HFW, 2 FTL. -/
def bundleImage (b : Bytes) (k : Nat) : Bytes :=
  slice b (64 + total ((List.range k).map fun j => bnum b (8 + 4 * j) 4)) (bnum b (8 + 4 * k) 4)

/-- R13, R476: the header's form and the length that follows from it; its reserved fields are ignored. -/
def bundleForm (b : Bytes) : Bool :=
  bnum b 0 4 == 0x5A524642 && bnum b 4 1 == 1 && bnum b 5 1 ≤ 127 && b.length == bundleBody b + 5357

/-- R471, R494: the signers that a lifecycle accepts, as digests of their two public keys. -/
def signers (x : Sec) : List (Bytes × Bytes) :=
  [Config.holzovaSigner false] ++ (if x.lifecycle = lcBLANK then [Config.holzovaSigner true] else []) ++
    (if x.lifecycle = lcDEVELOPMENT then [Config.devSigner] else [])

/-- R477: a bundle is accepted. -/
def bundleOK (x : Sec) (b : Bytes) : Bool :=
  let n := bundleBody b
  let ed := slice b n 32
  let ml := slice b (n + 32) 1952
  let d := Config.sha384 (b.take n)
  bundleForm b && (signers x).contains (Config.sha384 ed, Config.sha384 ml) &&
    Config.edVerify ed d (slice b (n + 1984) 64) && Config.mlVerify ml [] d (slice b (n + 2048) 3309) &&
    x.rollback ≤ bnum b 5 1

/-! ## Tokens (R495, R497, R498) -/

/-- R495, R497: a token's digests and signatures: its public keys are those of the authority it names, and both signatures
over bytes 0 to 2,079 verify. -/
def tokenSigned (s : State) (b : Bytes) (blankRom : Bool) (ctx : String) : Bool :=
  let ed := slice b 96 32
  let ml := slice b 128 1952
  let auth := match Config.debugAuth (bnum b 5 1) with
    | some d => some d
    | none => if blankRom && s.sec.lifecycle == lcBLANK && bnum b 5 1 == 0 then some Config.holzovaAuthority else none
  bnum b 5 1 ≤ 1 && auth == some (Config.sha384 ed, Config.sha384 ml) && Config.edVerify ed (b.take 2080) (slice b 2080 64) &&
    Config.mlVerify ml (ascii ctx) (b.take 2080) (slice b 2144 3309)

/-- R495, R497: a token's DEVICE and NONCE. -/
def tokenBound (s : State) (b : Bytes) : Bool :=
  slice b 8 48 == tokenDevice s && s.sec.nonce == some (slice b 56 32)

/-- R498: an attempt spends the nonce; the third failure in a row refuses nonces for 60 s. -/
def countAttempt (ok : Bool) (s : State) : State :=
  modSec s fun x =>
    if ok then { x with nonce := none, fails := 0 }
    else { x with nonce := none, fails := x.fails + 1, locked := x.locked || 2 ≤ x.fails, unlockFail := satAdd32 x.unlockFail 1 }

/-- R13, R497: the status of an unlock token; its reserved fields are ignored. -/
def unlockStatus (s : State) (b : Bytes) : Nat :=
  if b.length != 5453 || bnum b 0 4 != 0x5A524454 || bnum b 4 1 != 1 ||
      bnum b 88 4 == 0 || 86400 < bnum b 88 4 then stFORMAT
  else if !tokenSigned s b false "iscen-unlock" || !tokenBound s b then stAUTH
  else if !bit (bnum b 6 1) s.sec.lifecycle then stSTATE
  else stOK

/-- R494: the moves of the lifecycle. -/
def lcMove (a b : Nat) : Bool := (a == 0 && (b == 1 || b == 2)) || (a == 1 && (b == 2 || b == 3)) || (a == 2 && b == 3)

/-- R495: the status of a lifecycle token. -/
def lifecycleStatus (s : State) (b : Bytes) : Nat :=
  if b.length != 5453 || bnum b 0 4 != 0x5A524C43 || bnum b 4 1 != 1 || bnum b 88 8 != 0 then stFORMAT
  else if !tokenSigned s b true "iscen-lifecycle" || !tokenBound s b then stAUTH
  else if bnum b 6 1 != s.sec.lifecycle || !lcMove (bnum b 6 1) (bnum b 7 1) then stSTATE
  else stOK

/-! ## Provenance records (R486) -/

/-- RFC 8949: the head of an item of a major type. -/
def cborHead (ty n : Nat) : Bytes :=
  let be (k : Nat) : Bytes := (leBytes k n).reverse
  let h (i : Nat) : Bytes := [BitVec.ofNat 8 (32 * ty + i)]
  if n < 24 then h n else if n < 2 ^ 8 then h 24 ++ be 1 else if n < 2 ^ 16 then h 25 ++ be 2
  else if n < 2 ^ 32 then h 26 ++ be 4 else h 27 ++ be 8

def cborUint (n : Nat) : Bytes := cborHead 0 n
def cborBytes (b : Bytes) : Bytes := cborHead 2 b.length ++ b
def cborArray (xs : List Bytes) : Bytes := cborHead 4 xs.length ++ xs.flatMap id
def cborMap (xs : List (Nat × Bytes)) : Bytes := cborHead 5 xs.length ++ xs.flatMap fun e => cborUint e.1 ++ e.2
def cborBool (b : Bool) : Bytes := if b then [0xF5] else [0xF4]
def cborNull : Bytes := [0xF6]

/-- R480: a collection's key slot. -/
def keyState (s : State) (c : Nat) : Nat := ((tget s.sec.keys c).map (·.state)).getD 0

/-- R470, R484: what the write-only key registers of a cipher unit hold for a collection: the key while the slot is KEYED, the
unit's domain `d` is not OFF and the unit is not fenced. No command reads it. -/
def cipherKey (s : State) (d site unit c : Nat) : Option Bytes :=
  if keyState s c = 2 ∧ s.pwr.dstate.getD d 3 ≠ 3 ∧ ¬s.isFenced site unit then (tget s.sec.keys c).map (·.key) else none

/-- R486, R490: the payload of a record. -/
def recordPayload (s : State) (nonce : Bytes) (coll : Nat) : Bytes :=
  let x := s.sec
  let base : List (Nat × Bytes) :=
    [(1, cborBytes nonce), (2, cborBytes deviceId), (3, cborArray (x.meas.map cborBytes)), (4, cborUint (nget (x.svn.zipIdx.map fun e => (e.2, e.1)) x.running)),
     (5, cborUint x.active), (6, cborUint x.lifecycle), (7, cborArray [cborUint x.level, cborBool x.flag]),
     (8, cborArray ((x.epochPkg :: x.epochCl).map cborUint)), (9, cborBool x.staged)]
  let named : List (Nat × Bytes) :=
    if coll = 0xFF then [(10, cborNull)] else [(10, cborUint coll), (11, cborUint (keyState s coll))]
  let keys : List (Nat × Bytes) := match tget x.keys coll with
    | some k => if coll != 0xFF && k.state == 1 then
        [(12, cborBytes (Config.x25519Pub k.xPriv)), (13, cborBytes (Config.kemPub k.kPriv))] else []
    | none => []
  cborMap (base ++ named ++ keys)

/-- R486: a record: the payload and both signatures under the alias keys. -/
def signRecord (s : State) (payload : Bytes) : Bytes :=
  let seeds := aliasSeeds s.sec
  cborArray [cborBytes payload, cborBytes (Config.edSign (slice seeds 0 32) payload),
    cborBytes (Config.mlSign (slice seeds 32 32) (ascii "iscen-record") payload)]

/-! ## Closure (R491-R493) -/

/-- A key slot set; FREE is not listed. -/
def setSlot (s : State) (c : Nat) (k : Option KeySlot) : State :=
  modSec s fun x => { x with keys := match k with
    | some k => tset x.keys c k
    | none => terase x.keys c }

/-- The objects of a collection. -/
def objsOfColl (s : State) (c : Nat) : List (Nat × Obj) := s.obj.tab.filter fun e => e.2.coll == c

/-- The graphs of a collection. -/
def graphsOfColl (s : State) (c : Nat) : List Nat := (s.gra.graphs.filter fun e => e.2.coll == c).map (·.1)

/-- R491 step 1: the tasks of a collection that are running. -/
def runningOf (s : State) (c : Nat) : List TaskRef :=
  (liveTasks s).filter fun k => (graphOf s k.g).any (fun x => x.coll == c) && (runOf s k).any fun r => r.st == .running

/-- R491 step 4, R493: what a collection's scrub comprises: KV pages, and bytes of pages, of writable objects and of the
copies of read-only ones. -/
def scrubSize (s : State) (c : Nat) : Nat × Nat :=
  let ps := s.kve.pages.filter fun e => e.2.coll == c
  let ob (o : Obj) : Nat :=
    if o.rw then o.size else (if o.res then o.size else 0) + o.size * ((List.range 8).filter fun d => bit o.nsmask d).length
  (ps.length, total (ps.map fun e => classFb s e.2.cls) + total ((objsOfColl s c).map fun e => ob e.2))

/-- R248, R491: the frames of a collection's pages and its hoops zeroed. -/
def scrubKv (s : State) (c : Nat) : State :=
  let ps := s.kve.pages.filter fun e => e.2.coll == c
  let frames := ps.foldl (fun m e => mzero m (frameKey s e.2.cls e.2.frame) (classFb s e.2.cls)) s.kve.frames
  let hs := s.kve.hoops.filter fun e => hoopColl s e.2 == some c
  let near := hs.foldl (fun t e => t.modNear e.2.cluster fun m => mzero m (hoopStart t e.2) (hoopBytes t e.2.cls)) s
  { near with kve := { near.kve with frames := frames } }

/-- R386, R398, R491: the accessions of a collection end CANCELLED, reason CLOSED; those whose step is in flight do when it
ends. -/
def cancelAccs (s : State) (c : Nat) : State :=
  (s.acc.tab.filter fun e => e.2.coll == c && !e.2.instep).foldl (fun t e =>
    let t := if e.2.arriving = 2 then modAcc t e.1 fun x => { x with arriving := 0, state := asQUEUED } else t
    endAcc t e.1 ocCANCELLED rsCLOSED) s

/-- R434: a replacement abandoned: what the barrier holds ends ABORTED, its services take no step. -/
def dropRepl (s : State) (c : Nat) : State :=
  match s.wgt.repl with
  | some r =>
    if r.coll != c then s
    else
      let t := { s with
        wgt := { s.wgt with repl := none, held := [] }
        acc := { s.acc with blocked := (s.acc.blocked ++ maskBits 16 r.svcs).eraseDups } }
      s.wgt.held.foldl (fun t h => if (instOf t h.g).any fun n => n.serial == h.i then endEarly t h.g 1 else t) t
  | none => s

/-- R491 step 1: a KEYED collection enters closure. -/
def startClosure (coll cause : Nat) (cmd : Option (Port × Nat)) (s : State) : State :=
  let k := (tget s.sec.keys coll).getD default
  let size := scrubSize s coll
  let is := (objsOfColl s coll).map (·.1)
  let x : Closure :=
    { coll := coll, cause := cause, start := s.tick, tasks := runningOf s coll,
      moves := (s.obj.moves.filter fun m => m.coll == coll).map (·.id),
      dropped := (s.obj.mig.filter fun r => r.active && !r.evict && is.contains r.idx).length,
      pages := size.1, bytes := size.2, cmd := cmd }
  let s := setSlot s coll (some { k with state := 3 })
  let s := modSec s fun y => { y with closures := y.closures ++ [x] }
  let s := is.foldl (fun t i => modObj t i fun o => { o with closing := true }) s
  let s := (graphsOfColl s coll).foldl (fun t g => abortAll t g 2) s
  let s := cancelAccs (scrubKv s coll) coll
  let s := (s.fab.twins.filter fun t => t.coll == coll).foldl (fun t w => dropTwin t w.home w.acc) s
  let s := dropRepl s coll
  let s := is.foldl (fun t i =>
    endRequestsOf (failMovesOf (cancelMigs (endLoadsOf t i lsCLOSED) i mrCANCELLED_CLOSED true) i mrCANCELLED_CLOSED) i
      mrCANCELLED_CLOSED) s
  sweepStreams { s with obj := { s.obj with
    grants := s.obj.grants.filter fun g => g.2 != coll && !is.contains g.1 } }

/-- R150: the carry groups that hold a stream zeroed in the arrays. -/
def zeroCarry (s : State) (i : Nat) : State :=
  { s with vats := s.vats.map fun (x : Vat) =>
      let mask := maskOf 8 fun j => x.held.getD j none == some i
      { x with carry := zeroGroups x.carry mask } }

/-- R491 step 3: a flit of a collection that has this package as its source or destination. -/
def purges (s : State) (c : Nat) (f : Flit) : Bool := f.coll == c && (f.src == fabId s || f.dst == fabId s)

/-- R491 step 3: what is left of an output queue, the keys of the frames partly sent given: a frame is purged at its boundary,
so the rest of one that is partly sent stays. -/
def purgeTx (s : State) (c : Nat) : List FrameKey → List Flit → List Flit
  | _, [] => []
  | sent, f :: fs =>
    if sent.contains f.key then f :: purgeTx s c (if f.last then sent.filter (· != f.key) else sent) fs
    else if purges s c f then purgeTx s c sent fs
    else f :: purgeTx s c sent fs

/-- R491 step 3: the collection's queued frames purged; the number of them. -/
def purgeFrames (s : State) (c : Nat) : Nat × State :=
  let n := total (s.fab.ports.map fun (x : FPort) => ((x.txQ ++ x.heldRx).filter fun f => purges s c f && f.first).length)
  (n, modFab s fun b => { b with
    ports := b.ports.map fun (x : FPort) =>
      { x with txQ := purgeTx s c x.openTx x.txQ, heldRx := x.heldRx.filter fun f => !purges s c f }
    parts := b.parts.filter fun e => e.2.1 != c
    purged := if b.purged.contains c then b.purged else b.purged ++ [c] })

/-- R493: the payload of the closure event. -/
def closureBytes (s : State) (x : Closure) (drop frames : Nat) : Bytes :=
  leBytes 1 x.coll ++ leBytes 1 x.cause ++ zeros 2 ++ le4 x.tasks.length ++ le4 (x.moves.length - drop) ++
    le4 (x.dropped + drop) ++ le4 frames ++ le4 x.pages ++ leBytes 8 x.bytes ++ leBytes 8 (nget s.pwr.nrgColl x.coll) ++
    le4 (s.tick - x.start) ++ zeros 20

/-- R398, R491: the steps of a collection, none of whose tasks runs any more, end with its rows CANCELLED. -/
def endSteps (s : State) (c : Nat) : State :=
  let mine (st : Step) : Bool := (tget s.acc.svcs st.svc).any fun v => v.coll == c
  let ended := s.acc.steps.filter mine
  let t := { s with acc := { s.acc with steps := s.acc.steps.filter fun st => !mine st } }
  tryApply (ended.foldl (fun t st => st.rows.foldl (fun t row => abortRow t row st.kind 3 2) t) t)

/-- R491 steps 2 to 6. -/
def finishClosure (s : State) (x : Closure) : State :=
  let left := s.obj.moves.filter fun m => m.coll == x.coll
  let s := endSteps (scrubKv (left.foldl dropMove s) x.coll) x.coll
  let p := purgeFrames s x.coll
  let s := p.2
  let s := (objsOfColl s x.coll).foldl (fun t e => releaseObject (zeroCarry t e.1) e.1) s
  let s := modWgt s fun w => { w with adapters := w.adapters.filter fun e => e.2.coll != x.coll }
  let s := (s.cave.regions.filter fun e => e.2.coll == x.coll && e.2.state != 3).foldl (fun t e => releaseRegion t e.1) s
  let s := setSlot s x.coll none
  let s := modSec s fun y => { y with
    closures := y.closures.filter fun z => z.coll != x.coll, nclosures := satAdd32 y.nclosures 1 }
  let s := sendEvent evCLOSURE (closureBytes s x left.length p.1) s
  let s := { s with pwr := { s.pwr with nrgColl := terase s.pwr.nrgColl x.coll } }
  retryLoads (match x.cmd with
    | some (p, tag) => answer p tag (Ans.ok 0) s
    | none => s)

/-! ## Debug sessions (R496-R501) and the lifecycle (R494, R495) -/

/-- R496: a D2 session ends; the level returns to D1 if the monitor session remains. -/
def closeD2 (s : State) : State :=
  modSec s fun x => if x.level = 2 then { x with level := if s.mon.session then 1 else 0, auth := 0 } else x

/-- R611: the monitor replies. -/
def monSay (status : Nat) (cmd : String) (data : List Nat) (s : State) : State :=
  { s with mon := { s.mon with out := ⟨status, cmd, data⟩ :: s.mon.out } }

/-- R499: a D2 session opens, with the debug flag. -/
def openD2 (auth : Nat) (who : Option (Port × Nat)) (s : State) : State :=
  let s := modSec s fun x =>
    { x with level := 2, flag := true, auth := auth, pendingD2 := none, unlocks := satAdd32 x.unlocks 1 }
  match who with
  | some (p, tag) => answer p tag (Ans.ok 0) s
  | none => monSay 0 "unlock" [] s

/-- R491, R499: every KEYED collection enters closure and every OPEN slot becomes FREE. -/
def closeAll (cause : Nat) (s : State) : State :=
  s.sec.keys.foldl (fun t e =>
    if e.2.state = 2 then startClosure e.1 cause none t else if e.2.state = 1 then setSlot t e.1 none else t) s

/-- A record sent at once, past the queue. -/
def sendNow (p : Port) (r : Rec) (s : State) : State :=
  s.modPort p fun q => { q with sent := { r with seq := q.seq } :: q.sent, seq := (q.seq + 1) % 2 ^ 32 }

/-- R495: the move carried out: the fuses blown, the REPLY sent, a package soft reset. -/
def moveLifecycle (to_ : Nat) (p : Port) (tag : Nat) (s : State) : State :=
  let s := modSec s fun x => { x with leftBlank := x.lifecycle == lcBLANK, lifecycle := to_, pendingLc := none }
  softReset 3 (sendNow p (mkRec tyREPLY tag stOK (zeros 8)) s)

/-- R499, R495: what waited for the closures goes on. -/
def afterClosures (s : State) : State :=
  if !s.sec.closures.isEmpty then s
  else
    match s.sec.pendingLc, s.sec.pendingD2 with
    | some (to_, p, tag), _ => moveLifecycle to_ p tag s
    | none, some (auth, who) => openD2 auth who s
    | none, none => s

/-- R497, R499: an unlock attempt by the owner's command or by the monitor: its status where it fails. -/
def tryUnlock (b : Bytes) (who : Option (Port × Nat)) (s : State) : Option Nat × State :=
  let st := unlockStatus s b
  let s := countAttempt (st == stOK) s
  if st != stOK then (some st, s)
  else
    let s := modSec s fun x => { x with pendingD2 := some (bnum b 5 1, who) }
    if s.sec.lifecycle = lcPRODUCTION then (none, afterClosures (closeAll 1 s)) else (none, openD2 (bnum b 5 1) who s)

end Sys2Proof.Machine
end

