-- ==== Sys2Proof/Machine/PowerOps.lean ====
section
/-! DEFINITION. The 80 switched domains, their votes, refusers and package states (R504-R514), the levels and the gradient
rule (R517-R520). -/

namespace Sys2Proof.Machine

open Sys2Proof

/-- Power changed. -/
def modPwr (s : State) (f : Pwr → Pwr) : State := { s with pwr := f s.pwr }

/-! ## Domains (R504, R506) -/

/-- R504: the cluster of a compute domain. -/
def domCluster (d : Nat) : Option Nat :=
  match domOf d with
  | .vat v => some (v / 2)
  | .trn j => some (j / 2)
  | .ns k => some (k / 2)
  | .cl c => some c
  | _ => none

/-- R17, R18: the stack of a fabric port. -/
def stackOfPort (p : Nat) : Nat := [0, 0, 1, 2, 3, 3].getD p 0

/-- R511: a port whose link is UP works in link-keep mode while the package is in NAP. -/
def linkKeep (s : State) (p : Nat) : Bool := s.pwr.pkg == 2 && (portAt s p).state == 3

/-- R504, R511: the domains that a domain needs ON while it is ON. -/
def needs (s : State) (d : Nat) : List Nat :=
  let cluster (c : Nat) : List Nat := [48 + c, 32 + 2 * c, 33 + 2 * c]
  match domOf d with
  | .vat v => cluster (v / 2)
  | .trn j => cluster (j / 2)
  | .dx _ => [66, 67, 68, 69]
  | .fp p => if linkKeep s p then [] else [56 + stackOfPort p, 66, 67, 68, 69]
  | .cv _ | .usb | .acc | .kve => [77]
  | .hcp => [66, 67, 68, 69]
  | _ => []

/-- A VAT, TRN, CL or DX domain, whose clocks a coolant stop stops (R526). -/
def isCompute (d : Nat) : Bool := d < 32 || (48 ≤ d && d < 60)

/-- R532: the state of a domain: 0 ON, 1 GATED, 2 RET, 3 OFF; the compute domains stay GATED while COOLANT_STOP is set. -/
def domState (s : State) (d : Nat) : Nat :=
  let x := s.pwr.dstate.getD d 3
  if s.pwr.coolStop && isCompute d then max x 1 else x

/-! ## Votes (R507) -/

/-- R504: the wake time in µs from the next state below GATED. -/
def wakeTime (d : Nat) : Nat :=
  match domOf d with
  | .vat _ | .ns _ | .sec | .acc | .kve => 10
  | .trn _ => 40
  | .cl _ => 60
  | .dx _ | .fp _ => 30
  | .ms _ => 20
  | .cv _ | .usb | .mgt => 100
  | .hcp => 500

/-- The clusters that have a task ready or running on a vat or turner. -/
def busyClusters (s : State) : List Nat :=
  (List.range 8).filter fun c => !(s.gra.rqT.getD c []).isEmpty || !(s.gra.rqV.getD c []).isEmpty ||
    !(s.gra.resQ.getD c []).isEmpty || (s.vat (2 * c)).bound.isSome || (s.vat (2 * c + 1)).bound.isSome ||
    (List.range 8).any fun i => (s.trn (8 * c + i)).bound.isSome

/-- R19, R284: cave domain CV(g), of channels 8g to 8g + 7, holds a page of the wheels that a promotion reads. -/
def promoReads (s : State) (g : Nat) (r : MigReq) : Bool :=
  !r.evict && r.src == 2 &&
    match objAt s r.idx with
    | some o => match tget s.cave.regions o.homeref with
      | some x => (entryIndex x o.dirEntry).any fun w => (wheelPages x w.2.1 w.2.2).any fun p => p.2.2 / 8 == g
      | none => false
    | none => false

/-- The near-store clusters, main store, engines (R19) and cave channels that promotions, evictions and fetches touch. -/
def migTouches (s : State) (d : Nat) : Bool :=
  let act := s.obj.mig.filter (·.active)
  match domOf d with
  | .ns k => act.any fun r => r.pos == k / 2 + 1
  | .ms _ => !act.isEmpty || !s.obj.fetches.isEmpty
  | .dx i => act.any fun r => r.dx.all fun e => e.1 / 4 == i
  | .cv g => act.any (promoReads s g)
  | .hcp => !act.isEmpty || !s.obj.fetches.isEmpty
  | .usb => !s.obj.fetches.isEmpty
  | _ => false

/-- R110, R217, R222: a unit of a cluster, ON or not, could take a task of its ready queue. -/
def couldServe (s : State) (isVat : Bool) (c : Nat) (k : TaskRef) : Bool :=
  let vat (v : Nat) : Bool := (s.vat v).bound.isNone && !s.isFenced siteVAT v && !s.isRecovering siteVAT v &&
    streamsFit s k v && !isBad s k siteVAT v
  let vats : Bool := vat (2 * c) || vat (2 * c + 1)
  if isVat then vats
  else (!(descOf s k).any Desc.vatBit || vats) && (List.range 8).any fun i =>
    (s.trn (8 * c + i)).bound.isNone && !s.isFenced siteTURNER (8 * c + i) && !s.isRecovering siteTURNER (8 * c + i) &&
      !isBad s k siteTURNER (8 * c + i)

/-- R219, R220: a task of another cluster, which no unit of that cluster could take, needs a unit of cluster `c`. -/
def stealDemand (s : State) (isVat : Bool) (c : Nat) : Bool :=
  (List.range 8).any fun e => e != c && ((if isVat then s.gra.rqV else s.gra.rqT).getD e []).any fun k =>
    !(descOf s k).any (fun d => bit d.affinity 4) && !(streamIdxs s k).any (fun i => (streamOf s i).1 != 0) &&
      !couldServe s isVat e k

/-- R507 bit 0 GRAPH: a task bound to the domain's unit, in its cluster's ready queue, or to be stolen by it. -/
def graphVote (s : State) (d : Nat) : Bool :=
  let steal (c : Nat) : Bool := stealDemand s true c || stealDemand s false c
  match domOf d with
  | .vat v => (s.vat v).bound.isSome || !(s.gra.rqV.getD (v / 2) []).isEmpty || !(s.gra.rqT.getD (v / 2) []).isEmpty || steal (v / 2)
  | .trn j => (List.range 4).any (fun i => (s.trn (4 * j + i)).bound.isSome) || !(s.gra.rqT.getD (j / 2) []).isEmpty ||
      stealDemand s false (j / 2)
  | .ns k => (busyClusters s).contains (k / 2) || steal (k / 2)
  | .cl c => (busyClusters s).contains c || steal c
  | .dx i => s.obj.moves.any fun (m : Move) => m.engine.all fun e => e / 4 == i
  | .ms _ => !s.obj.moves.isEmpty
  | _ => false

/-- R507 bit 1 ACC. -/
def accVote (s : State) (d : Nat) : Bool :=
  match domOf d with
  | .acc | .kve | .hcp => !s.acc.steps.isEmpty || s.kve.hoops.any fun e => e.2.pressing.isSome
  | _ => false

/-- R507 bit 3 FIRMWARE. -/
def firmwareVote (s : State) (d : Nat) : Bool :=
  let work := !s.wgt.loads.isEmpty || !s.sec.closures.isEmpty || s.cave.slice.isSome
  match domOf d with
  | .hcp | .ms _ => work
  | .cv _ => s.cave.slice.isSome
  | .sec => !s.sec.closures.isEmpty
  | _ => false

/-- R507 bit 4 MONITOR. -/
def monitorVote (s : State) (d : Nat) : Bool :=
  match domOf d with
  | .mgt => s.mon.session
  | .trn j => (List.range 4).any fun i => (s.trn (4 * j + i)).halted
  | _ => false

/-- R507: the votes on a domain that hold it ON, by client, and HOST_TOL; no compute domain is voted ON during a coolant
stop (R526), and a fenced unit's domain takes none (R549). -/
def votesOf (s : State) (d : Nat) : Nat :=
  let w := s.pwr.ownerVotes.getD (d / 32) 0
  let fp := match domOf d with
    | .fp p => (portAt s p).state == 3
    | _ => false
  let cool := s.pwr.coolStop && isCompute d
  if domFenced s d then 0
  else
    (if cool then 0 else b2n (graphVote s d) + 2 * b2n (accVote s d) + 8 * b2n (firmwareVote s d) + 16 * b2n (monitorVote s d) +
      32 * b2n fp + 64 * b2n (domOf d == .hcp && !s.host.mgt.outst.isEmpty) + 128 * b2n (bit w (d % 32)) +
      256 * b2n (migTouches s d)) + 4 * b2n (s.pwr.latTol < wakeTime d)

/-- A vote other than HOST_TOL stands on a domain. -/
def votedOn (s : State) (d : Nat) : Bool := votesOf s d - 4 * b2n (bit (votesOf s d) 2) != 0

/-! ## Package states (R510, R512) -/

/-- A scan stream is resident on a vat (R146). -/
def streamsOn (s : State) (v : Nat) : Bool := (s.vat v).held.any (·.isSome)

/-- R512: the conditions of IDLE. -/
def idleOK (s : State) : Bool :=
  (busyClusters s).isEmpty && s.acc.steps.isEmpty

/-- R512: the conditions of NAP. -/
def napOK (s : State) : Bool :=
  idleOK s && s.obj.moves.all (fun (m : Move) => m.engine.isNone) &&
    !(s.obj.mig.any fun r => r.active && !r.evict) && s.obj.fetches.isEmpty && s.cave.relocating.isEmpty && 150 ≤ s.pwr.latTol

/-- R512: the conditions of SLEEP. -/
def sleepOK (s : State) : Bool :=
  napOK s && 2000 ≤ s.pwr.latTol && s.fab.ports.all (fun x => x.state != 3) && (s.host.link == 0 || 3 ≤ s.host.linkPm) &&
    (s.acc.tab.all fun e => e.2.state == asFREE || e.2.state == asDONE || e.2.state == asHELD || e.2.state == asSUSPENDED) &&
    (s.gra.graphs.all fun e => e.2.queue.isEmpty) && s.wgt.loads.isEmpty && s.wgt.bcasts.isEmpty && s.wgt.repl.isNone &&
    s.sec.closures.isEmpty && s.cave.slice.isNone && s.sec.level != 2

/-- R512, R532: the deepest package state allowed. -/
def deepestState (s : State) : Nat := if sleepOK s then 3 else if napOK s then 2 else if idleOK s then 1 else 0

/-- R510: the deepest state that package state `pk` and, for a vat, a resident stream allow a domain. -/
def deepestFor (s : State) (pk d : Nat) : Nat :=
  match domOf d with
  | .vat v => if pk = 1 then 1 else if pk = 2 ∧ streamsOn s v then 2 else 3
  | .trn _ | .cl _ => if pk = 1 then 1 else 3
  | .ns _ => [1, 1, 2, 3].getD pk 1
  | .dx _ | .cv _ => 3
  | .fp p => if pk = 2 ∧ (portAt s p).state = 3 then 0 else 3
  | .ms _ => [1, 1, 2, 2].getD pk 1
  | .hcp | .usb | .mgt => [3, 1, 1, 3].getD pk 1
  | .sec => [0, 0, 0, 2].getD pk 0
  | .acc | .kve => [1, 1, 2, 3].getD pk 1

/-! ## A domain changes state (R505) -/

/-- R505: the units of a domain that has left ON or come back: a vat and a turner show GATED or OFF (R124, R200), a DMA
engine too (R339); OFF loses the contents, but for the code area, which the package restores. -/
def unitsFall (s : State) (d st : Nat) : State :=
  let u := if st = 3 then 0 else 1
  match domOf d with
  | .vat v => grantsLeft (s.modVat v fun x =>
      if x.state = 6 then x else { x with state := u, held := if st = 3 then List.replicate 8 none else x.held })
  | .trn j => (List.range 4).foldl (fun t i => t.modTrn (4 * j + i) fun x =>
      { x with state := if x.state = 6 then 6 else u, wasOff := x.wasOff || st == 3 }) s
  | .ns k => if st = 3 then s.modNear (k / 2) fun m => m.filter fun e => e.1 < areaBase s else s
  | .dx i => (List.range 4).foldl (fun t e => t.modDx (4 * i + e) fun x => if x.state = 4 then x else { x with state := u }) s
  | _ => s

/-- R119, R504: the units of a domain that is ON again. -/
def unitsWake (s : State) (d : Nat) : State :=
  match domOf d with
  | .vat v => if (s.vat v).state = 6 then s else goOn (askGrant (s.modVat v fun x => { x with state := 2 }) v) v
  | .trn j => (List.range 4).foldl (fun t i => t.modTrn (4 * j + i) fun x =>
      if x.state = 6 || x.bound.isSome then x else { x with state := 2 }) s
  | .dx i => (List.range 4).foldl (fun t e => t.modDx (4 * i + e) fun x => if 2 ≤ x.state then x else { x with state := 2 }) s
  | _ => s

/-- A domain put into a state. -/
def setDomain (s : State) (d st : Nat) : State :=
  let s := modPwr s fun p => { p with dstate := p.dstate.set d st }
  if st = 0 then unitsWake s d else unitsFall s d st

/-! ## Falls (R508) -/

/-- R508 refuser 1: a move, spill, pressing, cave read or fetch touches the domain. -/
def dmaTouches (s : State) (d : Nat) : Bool :=
  migTouches s d || match domOf d with
    | .dx i => s.obj.moves.any fun (m : Move) => m.engine.any fun e => e / 4 == i
    | .ns k => s.obj.moves.any fun (m : Move) => m.engine.isSome && m.cluster == some (k / 2)
    | .ms _ => s.obj.moves.any fun (m : Move) => m.engine.isSome
    | .kve => s.kve.hoops.any fun e => e.2.pressing.isSome
    | .cv g => s.cave.relocating.any (fun b => b.ch / 8 == g) || s.cave.ladder.any fun e => e.1.2.2 / 8 == g
    | _ => false

/-- R508: the refuser of a fall of domain `d` to `st`, in order of code. -/
def refuserOf (s : State) (d st : Nat) : Option Nat :=
  if dmaTouches s d then some 1
  else if s.sec.level = 2 ∧ s.pwr.pkg = 3 then some 2
  else if st == 3 && (match domOf d with
    | .vat v => streamsOn s v
    | _ => false) then some 3
  else if (List.range 80).any fun e => domState s e == 0 && (needs s e).contains d then some 4
  else if (match domOf d with
    | .fp p => (portAt s p).state == 3
    | _ => false) then some 5
  else none

/-- R507, R508: the state to which a domain without a vote falls: HOST_TOL holds it at GATED. -/
def fallTo (s : State) (d : Nat) : Nat :=
  if bit (votesOf s d) 2 then min 1 (deepestFor s s.pwr.pkg d) else deepestFor s s.pwr.pkg d

/-- R508: the refuser of a fall recorded, with a counter. -/
def noteRefuser (s : State) (d r : Nat) : State :=
  modPwr s fun p => { p with
    refuser := nset p.refuser d r
    dref := if r = 6 then p.dref else nset p.dref d (satAdd32 (nget p.dref d) 1)
    dabt := if r = 6 then nset p.dabt d (satAdd32 (nget p.dabt d) 1) else p.dabt }

/-- R146: the entry of a vat's domain to OFF forces its streams out. -/
def forceOut (s : State) (v : Nat) : State :=
  (s.gra.streams.filter fun e => e.2.2 == v).foldl (fun t e => requestSwap t v e.1 true) s

/-- R508: a domain falls, or its fall is refused; a vote that arrives during the fall aborts it, and the domain returns
to ON by its wake time. -/
def domainFall (s : State) (d : Nat) : State :=
  let cur := domState s d
  let st := fallTo s d
  if st ≤ cur then s
  else if votedOn s d then if cur = 0 then s else noteRefuser s d 6
  else
    match refuserOf s d st, domOf d with
    | some 3, .vat v => forceOut (noteRefuser s d 3) v
    | some r, _ => noteRefuser s d r
    | none, _ => setDomain s d st

/-- R506: a domain that is voted ON, whose dependences are ON, reaches ON. -/
def domainWake (s : State) (d : Nat) : State :=
  if 79 < d || domState s d == 0 || !votedOn s d || domFenced s d || (s.pwr.coolStop && isCompute d) ||
      !(needs s d).all (fun e => domState s e == 0) then s
  else setDomain s d 0

/-! ## Entering and leaving package states (R510, R513, R514) -/

/-- R514: the package leaves NAP, IDLE or SLEEP: the domains that were below what ACTIVE allows are GATED again, the root is
ON. -/
def wakePackage (s : State) : State :=
  if s.pwr.pkg = 0 then s
  else
    let s := modPwr s fun p => { p with pkg := 0, keepSleep := if p.pkg = 3 then false else p.keepSleep, xoEn := true }
    (List.range 80).foldl (fun t d =>
      let m := deepestFor t 0 d
      let hub := match domOf d with
        | .hcp | .usb | .mgt => true
        | _ => false
      if hub && domState t d == 3 then setDomain t d 1 else if m < domState t d then setDomain t d m else t) s

/-- R513 step 4, R531: what a keep record holds, as the last record has it. -/
def keepCurrent (s : State) : Bool :=
  let t := writeKeep s
  s.pwr.keepSleep && s.pwr.keepLog == t.pwr.keepLog && s.pwr.keepReads == t.pwr.keepReads && s.pwr.keepBase == t.pwr.keepBase &&
    s.pwr.keepNrg == t.pwr.keepNrg && s.pwr.keepAcc == t.pwr.keepAcc

/-- R513: SLEEP entry, steps 1 to 4. -/
def sleepEntry (s : State) : State :=
  let s := (List.range 16).foldl (fun t v => swapAll t v none) s
  let s := (List.range 8).foldl (fun t c => replaceTasks (emptyNear t c) c fun _ => true) s
  let s := if keepCurrent s then s else writeKeep s
  modPwr s fun p => { p with keepSleep := true }

/-- R510: every domain at the state of the package state entered, where it is not deeper already. -/
def applyPackage (s : State) (pk : Nat) : State :=
  let s := modPwr s fun p => { p with pkg := pk, xoEn := pk != 3 }
  (List.range 80).foldl (fun t d =>
    let st := deepestFor t pk d
    let byVotes := pk < 2 && (match domOf d with
      | .dx _ | .cv _ | .fp _ => true
      | _ => false)
    let held := bit (votesOf t d) 2 && pk < 2
    if byVotes || held || pk = 0 then t
    else if st = 0 ∧ domState t d ≠ 0 then setDomain t d 0
    else if domState t d < st then setDomain t d st else t) s

/-- R512: the package enters the deepest state whose conditions hold; it leaves SLEEP on the events of R514 only. -/
def enterPackage (s : State) : State :=
  let pk := deepestState s
  if s.pwr.pkg = 3 ∨ pk = s.pwr.pkg then s
  else if pk < s.pwr.pkg then applyPackage (wakePackage s) pk
  else applyPackage (if pk = 3 then sleepEntry s else s) pk

/-! ## Levels (R517-R520) -/

/-- R532: the caps: 0 vat, 1 turner, 2 main store. -/
def levelCap (s : State) (kind : Nat) : Nat :=
  let w := rsv s 0x1070C 0x677
  if kind = 0 then bits w 2 0 else if kind = 1 then bits w 6 4 else bits w 10 8

/-- R6, R521: a cluster stands at or above PWR_TJ_LIMIT, or, while THERMAL is in force, less than 2 °C below it. -/
def tooWarm (s : State) (c : Nat) : Bool :=
  rsv s 0x10710 100 < s.pwr.temp.getD c 0 + (if s.pwr.thrOn.contains 0 then 2 else 1)

/-- R520: a raise of cluster `c` to `l`: each other cluster is raised as far as its cap, its
temperature and the gap ask, then what is still
more than 4 above a neighbour stops at that neighbour's level plus 4. -/
def raiseLevels (s : State) (c l : Nat) : List Nat :=
  settleLevels ((wants s).zipIdx.map fun e =>
    let dist := if e.2 < c then c - e.2 else e.2 - c
    if e.2 = c then l else if tooWarm s e.2 then e.1 else max e.1 (min (levelCap s 0) (l - 4 * dist)))

/-- R520: a lowering of cluster `c` to `l`, with the neighbours that must follow. -/
def lowerLevels (s : State) (c l : Nat) : List Nat := settleLevels ((wants s).set c l)

/-- R520: the junction temperature of a cluster is more than 20 °C above a neighbour's. -/
def tooHot (s : State) (c : Nat) : Bool :=
  let t (i : Nat) : Nat := s.pwr.temp.getD i 0
  (0 < c && t (c - 1) + 20 < t c) || (c < 7 && t (c + 1) + 20 < t c)

/-- R520: a step of cluster `c` to level `l` would leave it more than 4 levels from a neighbour. -/
def gapBreaks (s : State) (c l : Nat) : Bool :=
  let n (i : Nat) : Nat := ((s.pwr.vatL[i]?).map (·.now)).getD l
  let far (a : Nat) : Bool := l + 4 < a || a + 4 < l
  (0 < c && far (n (c - 1))) || (c < 7 && far (n (c + 1)))

/-- R519: a level changed, by kind: 0 vat, 1 turner, 2 main store. -/
def modLevel (s : State) (kind c : Nat) (f : Level → Level) : State :=
  modPwr s fun p =>
    if kind = 0 then { p with vatL := p.vatL.modify c f } else if kind = 1 then { p with trnL := p.trnL.modify c f }
    else if kind = 2 then { p with ms := f p.ms } else p

/-- The level of a kind and cluster. -/
def levelAt (s : State) (kind c : Nat) : Option Level :=
  if kind = 0 then s.pwr.vatL[c]? else if kind = 1 then s.pwr.trnL[c]? else if kind = 2 then some s.pwr.ms else none

/-- R517: the voltage of a vat or turner level in mV; the main-store rates have none. -/
def levelMv (kind l : Nat) : Nat := if kind = 2 then 0 else 500 + 50 * l

/-- R518: the bias and assist of a vat or turner level. -/
def assistOf (kind l : Nat) : Assist :=
  if kind = 2 then ⟨0, 0, 0⟩
  else ⟨[150, 100, 50].getD l 0, [50, 40, 30, 20].getD l 0, [100, 80, 60, 40].getD l 0⟩

/-- R519: a step down: the frequency, then the bias and assist of the new level, then the voltage. -/
def Level.down (kind next : Nat) (x : Level) : Level :=
  { { { x with now := next } with assist := assistOf kind next } with mv := levelMv kind next }

/-- R519: a step up begins: the voltage is raised, the settle signal awaited. -/
def Level.raise (kind next : Nat) (x : Level) : Level := { x with mv := levelMv kind next, settling := true }

/-- R519: the settle signal of a step up: the bias and assist of the new level, then the frequency. -/
def Level.settle (kind : Nat) (x : Level) : Level :=
  { { x with assist := assistOf kind (x.now + 1), settling := false } with now := x.now + 1 }

/-- R519: one step of a level toward the one chosen: down at once; up, the voltage is raised and the settle signal awaited.
The main-store rate changes without a regulator step. -/
def levelStep (s : State) (kind c : Nat) : State :=
  match levelAt s kind c with
  | none => s
  | some x =>
    let next := if x.want < x.now then x.now - 1 else x.now + 1
    if x.want = x.now || x.settling || (kind == 0 && gapBreaks s c next) then s
    else if x.want < x.now ∨ kind = 2 then modLevel s kind c (Level.down kind next)
    else modLevel s kind c (Level.raise kind next)

end Sys2Proof.Machine
end

