-- ==== Sys2Proof/Machine/Power.lean ====
section
/-! DEFINITION. Domains, package states, clocks, levels, energy, coolant and supply loss (chapter 15). Waking a domain and
entering a package state may deliver held flits and stand in Relay.lean. -/

namespace Sys2Proof.Machine

open Sys2Proof

/-- The always-on domain has its supply and has not tripped. -/
def aonOn (s : State) : Bool := s.pkg.vstby && s.pkg.phase != .unpowered && s.pkg.phase != .tripped

/-! ## Domains and wake events (R508, R514, R635) -/

/-- R508: DOMAIN_FALL. -/
def execDomainFall (d : Nat) (s : State) : Out := .next (if serviceOn s && d < 80 then domainFall s d else s)

/-- R514, R530, R635: what WAKE_N held low by a host does: it wakes a package in SLEEP, and cold-boots one that PWR_SHUTDOWN
left OFF. -/
def hostWake (s : State) : State :=
  if !s.pkg.vio18 then s
  else if s.pkg.phase = .ready ∧ s.pwr.pkg = 3 then wakePackage s
  else if s.pkg.phase = .off ∧ s.pkg.offCause = 1 ∧ s.pkg.vstby then coldReset 6 false s
  else s

/-- R514, R635: WAKE_N; the pin is not sensed while the package drives it. -/
def execWakeN (s : State) : Out := .next (if s.pkg.wakeDriven then s else hostWake s)

/-- R514: I3C_TRANSFER_IN_SLEEP: NACKed, and a wake. -/
def execI3cTransferInSleep (s : State) : Out :=
  .next (if s.pkg.phase = .ready ∧ s.pwr.pkg = 3 ∧ s.pkg.vio18 then
      wakePackage { s with host := { s.host with nacks := s.host.nacks + 1 } }
    else s)

/-! ## The always-on clock (R515) -/

/-- R515: XTAL_STABLE. -/
def execXtalStable (s : State) : Out :=
  .next (if aonOn s then modPwr s fun p => { p with xt32 := true, onRc := false } else s)

/-- R515: XTAL_FAIL. -/
def execXtalFail (s : State) : Out :=
  .next (if aonOn s then
      let s := modPwr s fun p => { p with xt32 := false, onRc := true }
      if s.pkg.phase = .ready then sendEvent evXTAL_FAIL [] s else s
    else s)

/-! ## Levels (R517-R521) -/

/-- R458: what the governor tells the groups when a level chosen is throttled, or when it recovers. RATE is measured against
the clock otherwise chosen, and EXTRA is an estimate: both rest on values the manual leaves to the governor. -/
def pacePeers (reason level : Nat) (s : State) : State :=
  if reason ≤ 5 then
    let other := level + drawn s % (8 - min level 7)
    let s := advance s
    let extra := drawn s % 2 ^ 32
    sendPace { src := fabId s, reason := reason, rate := 1024 * vatClock level / vatClock other, extra := extra, valid := 100 }
      (advance s)
  else if 8 ≤ reason then
    match s.fab.paceOut with
    | some n => if n.reason != 6 then sendPace { n with rate := 1024, extra := 0 } s else s
    | none => s
  else s

/-- R522: the reason for a choice of the governor enters, or the reasons that held a level are over. -/
def noteReason (reason cause : Nat) (s : State) : State :=
  if reason < 7 then thrEnter reason cause s
  else if reason = 7 then if s.fab.pace.isEmpty then s else thrEnter 7 cause s
  else (if (List.range 8).any (tooWarm s) then id else thrLeave 0) (thrLeave 1 (thrLeave 4 (thrLeave 5 s)))

/-- R520: the vat level of cluster `c` chosen, under the rule for neighbours. -/
def chooseVatLevel (c l : Nat) (s : State) : State :=
  let cur := (wants s).getD c 0
  if cur < l then
    if tooHot s c then thrEnter 5 (c + 16) s
    else
      let ls := raiseLevels s c l
      let s := setWants s ls
      if ls.getD c 0 < l then thrEnter 5 c s else s
  else
    let ls := lowerLevels s c l
    let followers := (List.range 8).filter fun d => d != c && ls.getD d 0 < (wants s).getD d 0
    let s := setWants s ls
    match followers.head? with
    | some d => thrEnter 5 d s
    | none => s

/-- R6, R521: a raise of a cluster that is too warm is held at the level chosen before, for reason THERMAL. -/
def holdWarm (kind c l : Nat) (s : State) : Nat × State :=
  match levelAt s kind c with
  | some x => if kind < 2 && tooWarm s c && x.want < l then (x.want, thrEnter 0 c s) else (l, s)
  | none => (l, s)

/-- R6, R517, R521: a choice of the governor: a level above its cap stops at the cap, and the temperature limit holds a
raise. -/
def governorChoice (kind c level reason cause : Nat) (s : State) : State :=
  let s' := noteReason reason cause (if levelCap s kind < level then thrEnter 4 (kind + 1) s else s)
  let h := holdWarm kind c (min level (levelCap s kind)) s'
  let l := h.1
  let s := h.2
  if kind = 0 then pacePeers reason l (chooseVatLevel c l s) else modLevel s kind c fun y => { y with want := l }

/-- R6, R459, R517, R521: GOVERNOR_LEVEL_CHANGE: kind 0 vat, 1 turner, 2 main store; the vat levels are chosen as without a
notice, then matched. -/
def execGovernorLevelChange (kind c level reason cause : Nat) (s : State) : Out :=
  .next (if !serviceOn s || 2 < kind || 7 < c || 7 < level || (kind == 2 && 6 < level) then s
    else if kind = 0 then matchLevels (governorChoice kind c level reason cause (unmatch s))
    else governorChoice kind c level reason cause s)

/-- R519: LEVEL_STEP. -/
def execLevelStep (kind c : Nat) (s : State) : Out := .next (if serviceOn s then levelStep s kind c else s)

/-- R519: REGULATOR_SETTLE: bias and assist applied, then the frequency raised. -/
def execRegulatorSettle (kind c : Nat) (s : State) : Out :=
  .next (if (levelAt s kind c).any fun x => x.settling then
      modLevel s kind c (Level.settle kind)
    else s)

/-- R520: GRADIENT_STEP_DOWN. -/
def execGradientStepDown (c : Nat) (s : State) : Out :=
  .next (match levelAt s 0 c with
    | some x =>
      if serviceOn s && c < 8 && tooHot s c && 0 < x.now then
        let u := unmatch s
        levelStep (matchLevels (thrEnter 5 (c + 16) (setWants u (lowerLevels u c (x.now - 1))))) 0 c
      else s
    | none => s)

/-- R521: SUPPLY_LOW: the power budget is a third of the envelope until VIN is back. -/
def execSupplyLow (s : State) : Out :=
  .next (if s.pkg.phase = .ready then
      advance (thrEnter 3 1 (modPwr s fun p => { p with low := true, vin := 5600 + drawn s % 400 }))
    else s)

/-! ## Energy (R523-R525) -/

/-- R523: the part of an interval's energy that goes to a task, by its bound cycles. -/
def shareOf (uj : Nat) (shares : List Share) (x : Share) : Nat := uj * x.cycles / max 1 (total (shares.map fun y => y.cycles))

/-- R521: the mW at which the governor holds the average over 32 ms: PWR_ENVELOPE, a third of it while VIN is low. -/
def powerLimit (s : State) : Nat := rsv s 0x10708 300 * 100 / (if s.pwr.low then 3 else 1)

/-- R640: the junction sensor that stands in domain `d`: a cluster's, the hub's or a base die's. -/
def sensorOf (d : Nat) : Option Nat :=
  if 48 ≤ d ∧ d < 56 then some (d - 48) else if d = 77 then some 8 else if 66 ≤ d ∧ d < 70 then some (d - 57) else none

/-- R521-R525: ENERGY_INTERVAL: what the estimators of domain `d` (80: AON) integrate, shared among the tasks bound; what the
division leaves over is unattributed. The sensors' readings of the interval are measured facts, free values, the average power
within what the governor holds; THERMAL is over once every cluster is 2 °C below its limit. -/
def execEnergyInterval (d uj : Nat) (shares : List Share) (s : State) : Out :=
  .next (if !aonOn s || 80 < d then s
    else
      let give := total (shares.map (shareOf uj shares))
      let s := modPwr s fun p => { p with
        nrgColl := shares.foldl (fun t x => nset t x.coll (satAdd64 (nget t x.coll) (shareOf uj shares x))) p.nrgColl
        nrgBand := shares.foldl (fun t x => nset t x.band (satAdd64 (nget t x.band) (shareOf uj shares x))) p.nrgBand
        nrgUn := satAdd64 p.nrgUn (uj - give), nrgTotal := satAdd64 p.nrgTotal uj
        nrgDom := if d < 80 then nset p.nrgDom d (satAdd64 (nget p.nrgDom d) uj) else p.nrgDom
        mw := drawn s % (powerLimit s + 1) }
      let s := advance s
      match sensorOf d with
      | some i =>
        let s := advance (modPwr s fun p => { p with temp := p.temp.set i (drawn s % 256) })
        if (List.range 8).any (tooWarm s) then s else thrLeave 0 s
      | none => s)

/-! ## Coolant (R526, R527) -/

/-- R526: COOLANT_LOST. -/
def execCoolantLost (s : State) : Out :=
  .next (
    let s := modPwr s fun p => { p with coolOk := false }
    if !bit (rsv s 0x10718 0) 0 || !serviceOn s then s
    else if s.pwr.coolStop then modPwr s fun p => { p with coolBack := false }
    else
      let s := grantsLeft (holdAccs { s with vats := s.vats.map fun x => if x.state = 4 then { x with state := 2 } else x })
      let s := { s with
        acc := { s.acc with holdCool := true }
        pkg := { s.pkg with alert := if s.pkg.alert.contains 1 then s.pkg.alert else 1 :: s.pkg.alert } }
      let s := thrEnter 6 1 (modPwr s fun p => { p with coolStop := true, coolBack := false })
      let s := sendPace { src := fabId s, reason := 6, rate := 0, extra := max32, valid := 100 } s
      sendEvent evCOOLANT_LOST [] s)

/-- R527: COOLANT_RESTORED. -/
def execCoolantRestored (s : State) : Out :=
  .next (
    let s := modPwr s fun p => { p with coolOk := true }
    if s.pwr.coolStop && !s.pwr.coolBack && serviceOn s then
      sendEvent evCOOLANT_RESTORED [] (modPwr s fun p => { p with coolBack := true })
    else s)

/-! ## Supply loss (R529, R530) -/

/-- R529: KEEP_SEQUENCE: VIN has fallen below 5.6 V. -/
def execKeepSequence (s : State) : Out :=
  .next (
    let s := advance { s with pwr := { s.pwr with vin := drawn s % 5600 }, pkg := { s.pkg with vin6 := false } }
    keepSequence 0 s)

/-- R529: the effect of PWR_SHUTDOWN. -/
def pwrShutdown : Effect := fun _ s => (none, keepSequence 1 s)

/-- R529: PWR_SHUTDOWN; the package goes OFF without a REPLY. -/
def execPwrShutdown (h : Hdr) (s : State) : Out :=
  .next (hostCmd h {} pwrShutdown (.pwrShutdown h) s)

/-- R530: VIN_RETURN. -/
def execVinReturn (s : State) : Out :=
  .next (
    let s := advance { s with pwr := { s.pwr with vin := 6000 + drawn s % 14001 }, pkg := { s.pkg with vin6 := true } }
    if s.pkg.phase = .off ∧ s.pkg.offCause = 0 ∧ s.pkg.vstby then coldReset 1 false s
    else thrLeave 3 (modPwr s fun p => { p with low := false }))

end Sys2Proof.Machine
end

