-- ==== Sys2Proof/Machine/Faults.lean ====
section
/-! DEFINITION. Detections, the fault manager, self-tests, watchdogs and stalls (chapter 16). -/

namespace Sys2Proof.Machine

open Sys2Proof

/-- Faults changed. -/
def modFlt (s : State) (f : Flt → Flt) : State := { s with flt := f s.flt }

/-! ## Errors in stored state (R541) -/

/-- R541: a writable object damaged: every task that names it ends EXCEPTION with OBJ_DAMAGED. -/
def damageObject (s : State) (i : Nat) : State :=
  let s := modObj s i fun o => { o with damaged := true }
  ((liveTasks s).filter fun k => (runOf s k).any (fun r => r.st.status.isNone) && (operandIdxs s k).contains i).foldl
    (fun t k => failTask t k xOBJ_DAMAGED) s

/-- R541: an uncorrectable error in an object's copy at a position (0 MAIN, 1 + c NEAR(c)), with the action logged. -/
def objectError (s : State) (i pos : Nat) (o : Obj) : Nat × State :=
  if o.rw then (actDATA_LOST, damageObject s i)
  else if pos = 0 ∧ o.home = 0 then (actDATA_LOST, modObj s i fun o => { o with damaged := true })
  else if pos = 0 then (actMASKED, wantPromo (modObj s i fun o => { o with res := false }) i 0)
  else (actMASKED, wantPromo (modObj s i fun o => { o with nsmask := setBit o.nsmask (pos - 1) false }) i pos)

/-- The object with a copy in cluster `c` that covers a near-store offset. -/
def nearObject (s : State) (c a : Nat) : Option (Nat × Obj) :=
  s.obj.tab.find? fun e => e.2.inNear c && e.2.nearOff c ≤ a && a < e.2.nearOff c + e.2.nearBytes

/-- The object whose main-store copy covers a device address. -/
def mainObject (s : State) (a : Nat) : Option (Nat × Obj) :=
  s.obj.tab.find? fun e => e.2.res && e.2.devBase ≤ a && a < e.2.devBase + e.2.mainBytes

/-- The hoop of a cluster's share that covers a near-store offset. -/
def nearHoop (s : State) (c a : Nat) : Option Nat :=
  (s.kve.hoops.find? fun e => e.2.cluster == c && hoopStart s e.2 ≤ a && a < hoopStart s e.2 + hoopBytes s e.2.cls).map (·.1)

/-- R541: an uncorrectable error in near store: an object's copy, or a hoop slot, whose affected run reads 0. -/
def nearError (s : State) (c a : Nat) : Nat × State :=
  match nearObject s c a, nearHoop s c a with
  | some (i, o), _ => objectError s i (c + 1) o
  | none, some h =>
    (actDATA_LOST, modHoop (s.modNear c fun m => mzero m (a / 128 * 128) 128) h fun x => { x with damaged := true })
  | none, none => (actMASKED, s)

/-- R300, R541: the counters of the cave reloaded from the journal: the checkpointed values, a block to which the map has
flipped since from 0, plus 10 % of CAVE_RD_LIMIT. -/
def reloadReads (s : State) : State := modCave s fun c => c.loadReads c.ckpt c.ckptBase 0 (s.part.rdLimit / 10)

/-- R541: an uncorrectable error in main store: an object's copy, the KV page `page`, or the firmware reserve. -/
def mainError (s : State) (a page : Nat) : Nat × State :=
  match mainObject s a with
  | some (i, o) => objectError s i 0 o
  | none =>
    match tget s.kve.pages page with
    | some e =>
      if a = 0 then
        (actDATA_LOST, modPage { s with kve := { s.kve with frames := mzero s.kve.frames (frameKey s e.cls e.frame) 128 } } page
          fun x => { x with damaged := true })
      else (actMASKED, reloadReads s)
    | none => (actMASKED, reloadReads s)

/-- R541: an uncorrectable error in an entry of an engine's tables: a task slot of graph `a`, task `b`, or accession `a`. -/
def tableError (s : State) (site a b : Nat) : Nat × State :=
  if site = siteGRAPH then
    if (runOf s ⟨a, b⟩).any fun r => r.st.status.isNone then (actDATA_LOST, settle (endTask s ⟨a, b⟩ 2) a) else (actMASKED, s)
  else if (accAt s a).any (·.live) then (actDATA_LOST, endAcc s a ocFAULTED rsSTEP_FAULT)
  else (actMASKED, s)

/-! ## Detections (R539) -/

/-- R322, R544: a block of DMA engine `e` fails: its oldest move runs again on another engine, or its task ends FAULTED
after the third failure. -/
def detectDma (s : State) (e mech : Nat) : State :=
  let s := if mech = mechCOMPARE ∨ mech = mechRESIDUE ∨ mech = mechLOCKSTEP then
      s.modDx e fun x => { x with det := satAdd32 x.det 1 }
    else s
  match s.obj.moves.find? fun (m : Move) => m.engine == some e with
  | none => rehomeMigs (queueDet (mkDet siteDMA e mech actRETRIED) s) e
  | some m =>
    match m.by_ with
    | .task k =>
      let third := (runOf s k).any fun r => 3 ≤ r.attempts
      releaseMove (queueDet (mkTaskDet s siteDMA e mech (if third then actTASK_FAULTED else actREEXEC) k) s) k e
    | .turner _ k =>
      let third := 2 ≤ m.bad.length
      let s := queueDet (mkTaskDet s siteDMA e mech (if third then actTASK_FAULTED else actRETRIED) k) s
      if third then settle (endTask (dropMove s m) k 2) k.g else pullMove s m e

/-- R242, R556: a detection with the device address and the collection of the object it struck, at byte `off` of it. -/
def objectDet (d : Det) (o : Option (Nat × Obj)) (off : Obj → Nat) : Det :=
  match o with
  | some (_, o) => { d with addr := o.devBase + off o, coll := o.coll }
  | none => d

/-- R556: the detection of an error in the slot of a live task names the task. -/
def tableDet (s : State) (site unit mech a b detail : Nat) : Det :=
  if site = siteGRAPH ∧ (runOf s ⟨a, b⟩).isSome then { mkTaskDet s site unit mech 0 ⟨a, b⟩ with detail := detail }
  else { mkDet site unit mech 0 with detail := detail }

/-- A detection queued with the action that its error calls for. -/
def dataDet (d : Det) (r : Nat × State) : State := queueDet { d with action := r.1 } r.2

/-- R539, R540, R541: a detection at a site, with its immediate action; mechanism 0 stands for an error that was corrected. -/
def detect (site unit mech addr detail : Nat) (s : State) : State :=
  if mech = 0 then modFlt s fun f => { f with corrected := satAdd64 f.corrected 1 }
  else if site = siteVAT then if unit < 16 then detectVat s unit mech detail else s
  else if site = siteTURNER then if unit < 64 then detectTurner s unit mech else s
  else if site = siteDMA then if unit < 16 then detectDma s unit mech else s
  else if site = siteCLUSTER then
    if 7 < unit then s
    else
      dataDet (objectDet { mkDet site unit mech 0 with detail := detail } (nearObject s unit addr) fun o => addr - o.nearOff unit)
        (if mech = mechECC_UNCORR then nearError s unit addr else (actRETRIED, s))
  else if site = siteMAIN then
    if 31 < unit then s
    else
      dataDet (objectDet { mkDet site unit mech 0 with detail := detail } (mainObject s addr) fun o => addr - o.devBase)
        (if mech = mechECC_UNCORR then mainError s addr detail else (actRETRIED, s))
  else if site = siteCAVE then
    if 31 < unit then s else queueDet { mkDet site unit mech actRETRIED with detail := detail } s
  else if site = siteFABRIC then
    if 5 < unit then s else if mech = mechKEEPALIVE then linkFault s unit mech
    else linkStays unit (portDetection s unit mech (mech == mechCRC_RETRY))
  else if siteGRAPH ≤ site ∧ site ≤ siteMIGR then
    dataDet (tableDet s site unit mech addr detail detail)
      (if mech = mechECC_UNCORR then tableError s site addr detail else (actRETRIED, s))
  else if site = siteSEC then
    queueDet (mkDet site unit mech actRETRIED) (if mech = mechTRNG_HEALTH then modSec s fun x => { x with trngFail := true } else s)
  else if site = siteHUB then
    fatalStop (mkDet site unit mech actFATAL) (modFlt s fun f => { f with detections := satAdd64 f.detections 1 })
  else s

/-- R539: FAULT_DETECTION. -/
def execFaultDetection (site unit mech addr detail : Nat) (s : State) : Out :=
  .next (if serviceOn s then detect site unit mech addr detail s else s)

/-- R542: WATCHDOG_EXPIRY: a hang of the unit; the fault manager's own watchdog stops the package (R554). -/
def execWatchdogExpiry (site unit : Nat) (s : State) : Out :=
  .next (if serviceOn s && !s.pwr.coolStop then detect site unit mechHANG 0 0 s else s)

/-! ## The fault log (R556) -/

/-- R556, R559: an entry written at the head of the ring. -/
def pushLog (d : Det) (flags : Nat) (s : State) : Bytes × State :=
  let b := logEntry s d s.flt.seq flags (drawn s % 2 ^ 32)
  let s := advance s
  (b, modFlt s fun f => { f with
    log := tset f.log f.head b, head := (f.head + 1) % 256, seq := (f.seq + 1) % 2 ^ 32
    masked := if d.action ≤ actREEXEC then satAdd64 f.masked 1 else f.masked })

/-- R553: an entry logged and the event FAULT sent with it. -/
def logAndSend (d : Det) (flags : Nat) (s : State) : State :=
  let r := pushLog d flags s
  sendEvent evFAULT r.1 r.2

/-! ## The fault manager (R547-R550, R553) -/

/-- R550: a kind of unit of which none is unfenced, or two cave channels fenced. -/
def noneLeft (s : State) : Bool :=
  (List.range 16).all (s.isFenced siteVAT) || (List.range 64).all (s.isFenced siteTURNER) ||
    (List.range 16).all (s.isFenced siteDMA) || (List.range 8).all (s.isFenced siteCLUSTER) ||
    2 ≤ (s.flt.fenced.filter fun f => f.1 == siteCAVE).length

/-- R549, R550, R557: a unit fenced for a detection: the fence is logged as its own entry, and so are the clusters that
follow a stack without engines; a fence that R550 does not allow is a fatal stop. -/
def fenceFor (d : Det) (s : State) : State :=
  if s.isFenced d.site d.unit then s
  else
    let t := fenceUnit s d.site d.unit
    if noneLeft t then fatalStop d s
    else
      let t := logAndSend { d with action := actFENCED } 0 t
      if d.site != siteDMA then t
      else
        ((t.flt.fenced.filter fun f => f.1 == siteCLUSTER && !s.flt.fenced.contains f)).foldl (fun u f =>
          logAndSend { mkDet siteCLUSTER f.2 d.mech actFENCED with tick := d.tick } 4 u) t

/-- R547: the detections of a unit within 1 s up to a tick. -/
def recent (s : State) (site unit tick : Nat) : List (Nat × Nat × Nat) :=
  s.flt.history.filter fun e => e.1 == site && e.2.1 == unit && tick ≤ e.2.2 + 32768

/-- R467, R547: a detection is its unit's third within 1 s; a port whose detections are all CRC errors whose first retry
succeeded has none. -/
def isThird (s : State) (d : Det) : Bool :=
  if d.site = siteFABRIC then
    let ds := (portAt s d.unit).dets.filter fun x => d.tick ≤ x / 2 + 32768
    3 ≤ ds.length && ds.any fun x => x % 2 == 0
  else 3 ≤ (recent s d.site d.unit d.tick).length

/-- R553: FAULT_ENTRY_HANDLED: the head of the queue logged, counted and, where required, answered by a fence. -/
def handleEntry (d : Det) (s : State) : State :=
  let s := modFlt s fun f => { f with queue := f.queue.drop 1, history := f.history ++ [(d.site, d.unit, d.tick)] }
  let third := isThird s d
  let s := logAndSend d (b2n d.nested + 2 * b2n third) s
  if d.site = sitePEER then s
  else if third || (d.nested && d.site != siteFABRIC) then
    if unfenceable d.site then fatalStop d s else fenceFor d s
  else s

/-- R553: FAULT_ENTRY_HANDLED. -/
def execFaultEntryHandled (s : State) : Out :=
  .next (match s.flt.queue with
    | d :: _ => if serviceOn s then handleEntry d s else s
    | [] => s)

/-! ## Self-tests (R546, R604, R605) -/

/-- R546: a unit is no longer RECOVERING. -/
def recovered (s : State) (site unit : Nat) : State :=
  modFlt s fun f => { f with recovering := f.recovering.filter (· != (site, unit)) }

/-- R548: a failed self-test counts as a detection in a unit that is RECOVERING. -/
def testFailed (s : State) (site unit : Nat) : State := queueDet (mkDet site unit mechSELF_TEST actFENCED) s

/-- R124, R200: the state that an idle unit of domain `d` shows: IDLE, GATED or OFF. -/
def unitShown (s : State) (d : Nat) : Nat := if domState s d = 0 then 2 else if domState s d = 3 then 0 else 1

/-- R547, R604, R605: the fence and the detection history of a unit cleared. -/
def unfence (s : State) (site unit : Nat) : State :=
  let s := modFlt s fun f => { f with
    fenced := f.fenced.filter (· != (site, unit)), history := f.history.filter fun e => !(e.1 == site && e.2.1 == unit)
    recovering := f.recovering.filter (· != (site, unit)) }
  if site = siteVAT then s.modVat unit fun x => { x with state := unitShown s unit }
  else if site = siteTURNER then s.modTrn unit fun x => { x with
    state := unitShown s (16 + unit / 4), wasOff := x.wasOff || domState s (16 + unit / 4) == 3 }
  else s

/-- The units of a cluster: itself, its vats and its turners. -/
def unitsOf (c : Nat) : List (Nat × Nat) :=
  (siteCLUSTER, c) :: (List.range 2).map (fun i => (siteVAT, 2 * c + i)) ++ (List.range 8).map fun i => (siteTURNER, 8 * c + i)

/-- R125, R604: a unit whose self-test failed in a cluster reset is fenced, and shows it. -/
def fenceFailed (s : State) (u : Nat × Nat) : State :=
  let s := if s.isFenced u.1 u.2 then s else enterFence s u.1 u.2
  if u.1 = siteVAT then s.modVat u.2 fun x => { x with state := 6 }
  else if u.1 = siteTURNER then s.modTrn u.2 fun x => { x with state := 6 }
  else s

/-- R604: the self-tests of a cluster reset are done: its fences are cleared but for the units that failed, and the
command ends. -/
def endClusterReset (c : Nat) (s : State) : State :=
  let failed := s.pkg.clFailed
  let s := (unitsOf c).foldl (fun t u => if failed.contains u then t else unfence t u.1 u.2) s
  let s := (failed.filter (unitsOf c).contains).foldl fenceFailed s
  let asks := s.pkg.clReset.filter (·.1 == c)
  let s := { s with pkg := { s.pkg with
    clReset := s.pkg.clReset.filter (·.1 != c), clFailed := s.pkg.clFailed.filter fun u => !(unitsOf c).contains u,
    cntCluster := satAdd32 s.pkg.cntCluster 1 } }
  asks.foldl (fun t e => answer e.2.1 e.2.2 (Ans.ok 0) t) s

/-- R605: the first vat command that waits for vat `v`. -/
def vatCmd (s : State) (v : Nat) : Option (Bool × Nat × Port × Nat) := s.pkg.vatCmds.find? fun e => e.2.1 == v

/-- R605: a vat command that waits ends. -/
def endVatCmd (e : Bool × Nat × Port × Nat) (st : Nat) (s : State) : State :=
  answer e.2.2.1 e.2.2.2 (Ans.err st) { s with pkg := { s.pkg with
    vatCmds := s.pkg.vatCmds.erase e
    cntVfence := if st = stSTATE then s.pkg.cntVfence else satAdd32 s.pkg.cntVfence 1 } }

/-- R605: the self-test of a vat that VAT_UNFENCE asked for is done. -/
def endUnfence (e : Bool × Nat × Port × Nat) (pass : Bool) (s : State) : State :=
  let v := e.2.1
  if s.isFenced siteCLUSTER (clusterOfVat v) then endVatCmd e stSTATE s
  else endVatCmd e (if pass then stOK else stFENCED) (if pass then unfence s siteVAT v else testFailed s siteVAT v)

/-- R546: SELF_TEST_COMPLETE; for an engine or the root it stands for the end of the replay. -/
def execSelfTestComplete (site unit : Nat) (pass : Bool) (s : State) : Out :=
  .next (if !serviceOn s then s
    else if site == siteVAT && (vatCmd s unit).any (fun e => !e.1) then
      match vatCmd s unit with
      | some e => endUnfence e pass s
      | none => s
    else if s.pkg.clReset.any (fun e => (unitsOf e.1).contains (site, unit)) then
      let s := if pass then s
        else testFailed { s with pkg := { s.pkg with clFailed := s.pkg.clFailed ++ [(site, unit)] } } site unit
      if site = siteCLUSTER then endClusterReset unit s else s
    else if s.isRecovering site unit then if pass then recovered s site unit else testFailed s site unit
    else s)

/-! ## Stalls (R543) -/

/-- R213, R543: a task that has not started waits for no other task: it is about to be asked for, released or started. -/
def taskDue (x : Graph) (n : Inst) (k : TaskRef) : Bool :=
  (x.tasks[k.i]?).any fun d => d.kind != 3 && predsOK x n d k.i

/-- R543: an unended task that is running, ready, waiting for residency, for a load or the swap barrier (R213, R431), for a
transfer or for an edge of a member that has not been lost. -/
def taskMoves (s : State) (x : Graph) (n : Inst) (k : TaskRef) (r : Run) : Bool :=
  r.st == .running || r.st == .ready || r.st == .requested || r.st == .pinWait || (r.st == .idle && taskDue x n k) ||
    (r.st == .granted && (taskDue x n k || !allReady s k || !allResident s k r.cluster || atBarrier s k)) ||
    x.edges.zipIdx.any fun e => e.1.dstM == x.member && e.1.dstT == k.i && !(r.edges.any fun a => a.1 == e.2) &&
      !s.fab.lost.contains ((groupMembers s x.gnum).getD e.1.srcM 31)

/-- R543: INSTANCE_STALL. -/
def execInstanceStall (g : Nat) (s : State) : Out :=
  .next (match graphOf s g, instOf s g with
    | some x, some n =>
      let open_ := n.runs.zipIdx.filter fun e => e.1.st.status.isNone
      if !serviceOn s || s.pwr.coolStop || open_.isEmpty || open_.any (fun e => taskMoves s x n ⟨g, e.2⟩ e.1) then s
      else
        let d : Det := { mkDet siteGRAPH 0 mechSTALL actABORTED with
          coll := x.coll, graph := g, serial := n.serial, tick := s.tick }
        let s := (pushLog d 0 (modFlt s fun f => { f with stalls := satAdd32 f.stalls 1 })).2
        endEarly s g 4
    | _, _ => s)

end Sys2Proof.Machine
end

