-- ==== Sys2Proof/Machine/RegOps.lean ====
section
/-! DEFINITION. What a read of the control space returns (R593, R594 and the register maps of the owning chapters), and the
clearing of counters. -/

namespace Sys2Proof.Machine

open Sys2Proof

/-! ## Register maps -/

/-- Some words of a block: offset and value. -/
abbrev Words := List (Nat × Nat)

/-- A 32-bit register. -/
def reg (a v : Nat) : Words := [(a, v)]

/-- A 64-bit register: the low word first. -/
def reg64 (a v : Nat) : Words := [(a, v % 2 ^ 32), (a + 4, v / 2 ^ 32)]

/-- `n` registers, `d` bytes apart. -/
def regs (a d n : Nat) (f : Nat → Nat) : Words := (List.range n).map fun i => (a + d * i, f i)

/-- `n` 64-bit registers, 8 bytes apart. -/
def regs64 (a n : Nat) (f : Nat → Nat) : Words := (List.range n).flatMap fun i => reg64 (a + 8 * i) (f i)

/-- The words of a run of bytes. -/
def regBytes (a : Nat) (b : Bytes) : Words := regs a 4 (b.length / 4) fun w => bnum b (4 * w) 4

/-- The value of an offset; 0 where it is not listed (R593). -/
def wordAt (ws : Words) (a : Nat) : Nat := ((ws.find? fun w => w.1 == a).map (·.2)).getD 0

/-! ## ID, OWN, CHG (R594, R608) -/

/-- R594, R608: the ID block. -/
def idWords (s : State) : Words :=
  let p := s.pkg
  reg 0x0 0x2400 ++ reg 0x4 s.part.code ++ reg 0x8 (if s.part.code = 0 then 32 else 64) ++
    reg 0xC (if s.part.code = 0 then 256 else 512) ++ reg 0x10 s.part.usbIds ++
    reg 0x100 (p.strap % 4 + 4 * (p.mode % 4) + 16 * (s.sec.running % 2) + 32 * b2n (p.phase == .ready) + 64 * (p.step % 16) +
      1024 * min 2047 p.ms) ++
    reg 0x104 (p.cause % 8 + 8 * b2n p.afterFatal) ++ reg 0x108 p.cntWarm ++ reg 0x10C p.cntSoft ++ reg 0x110 p.cntCluster ++
    reg 0x114 p.cntVfence ++ reg 0x118 p.cntPort ++
    reg 0x124 (b2n s.mon.session + 2 * s.sec.level + 8 * b2n s.mon.trace)

/-- R594: the OWN block. -/
def ownWords (s : State) : Words :=
  let h := s.host
  reg 0x0 (portCode h.owner + 8 * h.ownState + 32 * portCode (h.target.map (·.1))) ++ reg 0x4 s.part.ownPrio ++
    reg 0xC h.denied ++ reg 0x10 h.changes

/-- R594: the value that CHG_STAGED shows. -/
def stagedAt (s : State) (a : Nat) : Nat :=
  match rsAt s a with
  | some r => tgetD s.host.staged a (r.value s)
  | none => 0

/-- R594 CHG_STATUS. -/
def chgStatus (s : State) : Nat :=
  let h := s.host
  let age := if h.staged.isEmpty then 0 else min 65535 ((s.tick - h.chgTick) * 10 / 32768)
  (if h.applying.isSome then 2 else b2n (!h.staged.isEmpty)) + 4 * h.staged.length + 65536 * age

/-- R594: the CHG block. -/
def chgWords (s : State) : Words :=
  let h := s.host
  let c := h.conflict
  reg 0x0 (chgStatus s) ++ reg 0x4 (c.1 % 2 ^ 24 + 2 ^ 24 * c.2.1 + 2 ^ 29 * c.2.2.2) ++ reg 0x8 c.2.2.1 ++ reg 0x10 h.chgSel ++
    reg 0x14 (stagedAt s h.chgSel) ++ reg 0x18 h.applied ++ reg 0x1C h.refused

/-! ## PWR, THR, NRG (R532-R534) -/

/-- R512, R532 PWR_PKG_STATE: the deepest state allowed; ACTIVE, its reset value, until the package is READY. -/
def deepestNow (s : State) : Nat := if s.pkg.phase = .ready then deepestState s else 0

/-- R532: PWR_CL_c. -/
def pwrCluster (s : State) (c : Nat) : Nat :=
  let l (xs : List Level) : Nat := ((xs[c]?).map (·.now)).getD 0
  l s.pwr.vatL + 16 * l s.pwr.trnL + 256 * s.pwr.temp.getD c 0

/-- R532: the PWR block. -/
def pwrWords (s : State) : Words :=
  let p := s.pwr
  regs 0x0 4 80 (votesOf s) ++ regs 0x140 4 3 (fun w => p.ownerVotes.getD w 0) ++
    regs 0x200 4 80 (fun d => domState s d + 16 * nget p.refuser d) ++ regs 0x400 8 80 (nget p.dref) ++
    regs 0x404 8 80 (nget p.dabt) ++ reg 0x700 (p.pkg + 8 * deepestNow s) ++ reg 0x704 p.latTol ++
    reg 0x71C s.part.minActive ++ regs 0x720 4 8 (pwrCluster s) ++ reg 0x740 p.ms.now ++ reg 0x744 p.vin ++ reg 0x748 p.mw ++
    reg 0x74C (b2n p.xt32 + 2 * b2n p.onRc + 4 * b2n p.xoEn + 8 * b2n p.coolOk + 16 * b2n p.coolStop) ++ reg 0x750 p.keepSeq

/-- R533: the THR block. -/
def thrWords (s : State) : Words :=
  let p := s.pwr
  (List.range 8).flatMap (fun r =>
    reg64 (16 * r) (p.thrDur.getD r 0) ++ reg (16 * r + 8) (p.thrEnt.getD r 0) ++ reg (16 * r + 12) (p.thrCause.getD r 0)) ++
    reg 0x80 (maskOf 8 fun r => p.thrOn.contains r)

/-- R534: the NRG block. -/
def nrgWords (s : State) : Words :=
  let p := s.pwr
  regs64 0x0 64 (nget p.nrgColl) ++ regs64 0x200 4 (nget p.nrgBand) ++ reg64 0x220 p.nrgUn ++ reg64 0x228 p.nrgTotal ++
    regs64 0x400 80 (nget p.nrgDom)

/-! ## FLT, SEC (R559, R502) -/

/-- R559: the fenced units of a site below `n` as a mask. -/
def fenceMask (s : State) (site n : Nat) : Nat := maskOf n fun u => s.isFenced site u

/-- R559 FLT_FENCED_COUNT. -/
def fencedCount (s : State) : Nat :=
  (s.flt.fenced.filter fun f => [siteVAT, siteTURNER, siteDMA, siteCLUSTER, siteFABRIC, siteCAVE].contains f.1).length

/-- R559 FLT_STATUS. -/
def fltStatus (s : State) : Nat := s.flt.queue.length + 32 * b2n s.flt.fatal + 64 * b2n (!s.flt.recovering.isEmpty)

/-- R559: the FLT block. -/
def fltWords (s : State) : Words :=
  let f := s.flt
  let t := fenceMask s siteTURNER 64
  reg 0x0 (fltStatus s) ++ reg 0x4 (fencedCount s) ++ reg 0x8 (fenceMask s siteVAT 16) ++ reg 0xC (fenceMask s siteCLUSTER 8) ++
    reg64 0x10 t ++ reg 0x18 (fenceMask s siteDMA 16) ++ reg 0x1C (fenceMask s siteFABRIC 6) ++
    reg 0x20 (fenceMask s siteCAVE 32) ++ reg64 0x28 f.detections ++ reg64 0x30 f.masked ++ reg64 0x38 f.corrected ++
    reg 0x40 f.hangs ++ reg 0x44 f.stalls ++ reg 0x48 f.dataLost ++ reg 0x4C f.head ++ reg 0x100 f.sel ++
    regBytes 0x140 (tgetD f.log f.sel []) ++ regBytes 0x200 f.fatalRec

/-- R502: the SEC block. -/
def secWords (s : State) : Words :=
  let x := s.sec
  reg 0x0 (x.lifecycle + 4 * b2n (hasIdentity x)) ++ reg 0x4 (x.level + 4 * b2n x.flag + 8 * (x.auth % 2)) ++
    reg 0x8 (x.active % 2 + 2 * b2n x.staged + 4 * b2n x.fallback + 8 * (x.svn.getD x.running 0 % 128) + 1024 * (x.rollback % 256)) ++
    reg 0xC x.epochPkg ++ regs 0x10 4 8 (fun c => x.epochCl.getD c 0) ++ reg 0x30 (b2n x.trngFail) ++
    regs 0x40 4 64 (fun c => ((tget x.keys c).map (·.state)).getD 0) ++ reg 0x140 x.attests ++ reg 0x144 x.unlocks ++
    reg 0x148 x.unlockFail ++ reg 0x14C x.nclosures ++ regs 0x160 4 12 fun w => s.part.serial.getD w 0

/-! ## GRA, ACC, KVE (R240, R404, R380) -/

/-- R240: the GRA block. -/
def graWords (s : State) : Words :=
  let g := s.gra
  let cap (n : Nat) : Nat := n % 2 ^ 14
  reg 0x0 g.graphs.length ++ reg 0x4 (16384 - total (g.graphs.map fun e => e.2.tasks.length)) ++
    reg 0x8 (4096 - total (g.graphs.map fun e => e.2.cntCount)) ++ reg64 0x10 g.instances ++ reg64 0x18 g.tasks ++
    reg 0x20 g.stealsSib ++ reg 0x24 g.stealsFar ++ reg 0x28 g.reexec ++ reg 0x2C g.hangs ++ reg 0x30 g.overB ++
    regs 0x40 4 8 fun c => cap (g.rqT.getD c []).length + 65536 * cap (g.rqV.getD c []).length

/-- R382: the 64 bytes of a service record. -/
def svcBytes (v : Svc) : Bytes :=
  leBytes 1 (b2n v.valid) ++ leBytes 1 v.dgraph ++ leBytes 1 v.pgraph ++ leBytes 1 v.cls ++ leBytes 2 v.batchMax ++ zeros 2 ++
    le4 v.prefillMax ++ le4 v.vocab ++ v.d.flatMap le4 ++ v.p.flatMap le4 ++ le4 v.dComp ++ le4 v.pComp ++ zeros 8

/-- R404: entries of the accession table in a state. -/
def accCount (s : State) (k : Nat) : Nat :=
  if k = 0 then 4096 - (s.acc.tab.filter fun e => e.2.state != 0).length else (s.acc.tab.filter fun e => e.2.state == k).length

/-- R404: the ACC block. -/
def accWords (s : State) : Words :=
  let a := s.acc
  regs 0x0 4 8 (accCount s) ++ reg 0x28 a.steps.length ++ reg 0x2C (b2n a.holdAll + 2 * b2n a.holdCool) ++ reg64 0x30 a.submitted ++
    reg64 0x38 a.nsteps ++ reg64 0x40 a.tokens ++ reg64 0x48 a.draftsProp ++ reg64 0x50 a.draftsAcc ++ reg 0x58 a.expired ++
    reg 0x5C a.lateTok ++ reg 0x60 a.cancels ++ reg 0x64 a.tooLate ++ regs 0x200 4 64 (nget a.deficit) ++
    a.svcs.flatMap fun e => regBytes (0x400 + 64 * e.1) (svcBytes e.2)

/-- R358: the 16 bytes of a hoop entry; all 0 where it is not VALID. -/
def hoopEntry (h : Hoop) : Bytes :=
  leBytes 2 (h.acc % 4096 + 32768) ++ leBytes 1 (h.cls + 4 * h.cluster + 32 * b2n h.pressing.isSome + 64 * b2n h.pageWait) ++
    leBytes 1 h.head ++ leBytes 1 h.commit ++ leBytes 1 h.step ++ leBytes 2 h.base ++ le4 h.basePos ++ zeros 4

/-- R346: the 16 bytes of a catalogue entry. A twin page kept for another package shows the index its accession has there. -/
def pageEntry (p : Page) : Bytes :=
  le4 (p.frame + 2 ^ 17 * p.cls) ++ le4 (p.next + 2 ^ 31 * b2n p.last) ++ leBytes 2 (p.acc % 4096) ++ leBytes 1 p.coll ++
    leBytes 1 p.state ++ leBytes 2 p.index ++ leBytes 1 (b2n p.twin + 2 * b2n p.twinDone) ++ zeros 1

/-- R380: the KVE block. -/
def kveWords (s : State) : Words :=
  let k := s.kve
  regs 0x20 4 4 (classFb s) ++ regs 0x30 4 4 (freeFrames s) ++ reg 0x68 k.hoops.length ++ reg 0x6C (accCount s 4) ++
    reg 0x70 k.lastFail ++ reg64 0xA0 k.pressings ++ reg 0xA8 k.pageWaits ++ reg 0xAC k.reclaims ++ reg 0xB0 k.truncated ++
    reg 0xB4 k.viewDenied ++ reg 0xB8 k.hoopWaits ++ reg 0xBC k.spanFull ++ regs 0x200 4 64 (collPages s) ++ reg 0x300 k.hsel ++
    regBytes 0x320 (((hoopAt s k.hsel).map hoopEntry).getD [])

/-! ## OBJ, CMP, WGT, ADP (R280, R340, R435) -/

/-- R436: the 16 bytes of an adapter slot. -/
def adapterEntry (s : State) (n : Nat) (x : Adapter) : Bytes :=
  [1] ++ leBytes 1 x.coll ++ leBytes 1 x.rank ++ zeros 1 ++ le4 x.handle ++ leBytes 2 x.alpha ++ leBytes 2 (adapterUsers s n) ++ zeros 4

/-- R435 WGT_STATE. -/
def wgtState (s : State) : Nat :=
  match s.wgt.repl with
  | none => 0
  | some r => (if r.stopped then 2 else 1) + 256 * (((List.range r.ngroup).find? fun g => !r.flippedG.contains g).getD r.ngroup % 256)

/-- R280, R340, R435: the block of the stores, tables and weights. -/
def objWords (s : State) : Words :=
  let o := s.obj
  let w := s.wgt
  reg 0x0 o.tab.length ++ reg 0x4 (32768 - o.tab.length) ++ reg64 0x8 (objectRegion s) ++ reg64 0x10 (mainReserved s) ++
    reg64 0x18 (mainCached s) ++ reg64 0x30 o.promotions ++ reg64 0x38 o.evictions ++ reg 0x40 o.spills ++ reg 0x44 o.collide ++
    reg 0x48 o.allocFail ++ reg 0x4C o.lastFail ++ reg 0x100 o.sel ++
    regBytes 0x120 (((objAt s o.sel).map (objEntry o.sel)).getD []) ++ regs 0x200 4 8 (fun c => nearFree s c / 4096) ++
    regs 0x400 8 8 (fun n => ((s.cmp.slots[n]?).map fun x => x.version % 65536 + 65536 * x.state).getD 0) ++
    regs 0x404 8 8 (slotRefs s) ++ reg 0x440 s.cmp.waits ++ reg 0x444 s.cmp.tableFail ++
    regs 0x500 4 16 (fun v => w.gens.getD v 0) ++ reg 0x540 (wgtState s) ++ reg 0x544 ((w.repl.map (·.svcs)).getD 0 % 65536) ++
    reg 0x548 w.held.length ++ reg 0x554 o.grants.length ++ reg64 0x558 w.wheels ++ reg 0x560 w.failed ++ reg 0x564 w.rereq ++
    reg 0x568 w.direct ++ reg 0x56C w.swaps ++ reg 0x570 w.duplicate ++ reg 0x580 w.sel ++
    regBytes 0x5A0 (((tget w.adapters w.sel).map (adapterEntry s w.sel)).getD [])

/-! ## CAVE, FAB (R317, R468) -/

/-- R318: the 32 bytes of a region entry. -/
def regionEntry (s : State) (n : Nat) (r : Region) : Bytes :=
  let moving := (s.cave.relocating ++ s.cave.copied).any fun x => r.sets.contains x.set
  let budget := if s.part.rdLimit = 0 then 255 else min 255 (100 * regionReads s r / s.part.rdLimit)
  leBytes 2 n ++ leBytes 1 r.state ++ leBytes 1 r.coll ++ leBytes 2 r.sets.length ++ leBytes 2 r.dir.length ++ leBytes 8 r.dataLen ++
    leBytes 1 budget ++
    leBytes 1 (b2n r.damaged + 2 * b2n r.sliceReq + 4 * b2n moving) ++
    leBytes 2 (s.cave.relocQ.filter fun b => r.sets.contains b.1).length ++ le4 r.sealSeq ++ zeros 8

/-- R314, R317 CAVE_STATE.MODE: OFF while every CV domain is OFF. -/
def caveMode (s : State) : Nat :=
  if s.cave.mounted && (List.range 4).all (fun g => s.pwr.dstate.getD (70 + g) 3 == 3) then 0 else s.cave.mode

/-- R317 CAVE_ERASE_MAX: the largest erase count of the blocks that are neither of the boot region, nor spare, nor retired. -/
def eraseMax (c : Cave) : Nat :=
  (c.erases.filter fun e =>
    let blk := e.1 / 32
    let ch := e.1 % 32
    6 ≤ blk && !(c.spares.getD ch []).contains blk && !(c.retired.getD ch []).contains blk).foldl (fun m e => max m e.2) 0

/-- R317: the CAVE block. -/
def caveWords (s : State) : Words :=
  let c := s.cave
  reg 0x0 (caveMode s + 8 * b2n c.mounted + 16 * b2n c.keepFound + 32 * b2n (c.slice.any (·.1))) ++ reg 0x4 (caveSets s) ++
    reg 0x8 (freeSets s).length ++ reg 0xC s.part.rdLimit ++ reg 0x14 (sliceLeft s) ++ reg64 0x18 c.nReads ++
    reg 0x20 c.retries ++ reg 0x24 c.rebuilds ++ reg 0x28 c.damaged ++ reg 0x2C c.relocs ++ reg 0x30 c.rdOver ++
    reg 0x34 (eraseMax c) ++ reg 0x38 c.repair.length ++ reg 0x100 c.sel ++
    regBytes 0x120 (((tget c.regions c.sel).map (regionEntry s c.sel)).getD []) ++
    regs 0x200 4 32 fun ch => (c.spares.getD ch []).length + 256 * b2n (s.isFenced siteCAVE ch) +
      65536 * (c.retired.getD ch []).length

/-- R468 FAB_ROUTE_d. -/
def routeWord (s : State) (q : Nat) : Nat :=
  if q = fabId s then 7
  else match routeTo s q with
    | some (p, hops, alt) => p + 8 * hops + 256 * b2n alt
    | none => 7

/-- R468 FAB_PACE_IN: the smallest standing RATE and its sender; 1,024 where none stands. -/
def paceIn (s : State) : Nat :=
  match argMin (fun n : PaceN => n.rate) s.fab.pace with
  | some n => n.rate + 2048 * n.src
  | none => 0x400

/-- R468: the FAB block. -/
def fabWords (s : State) : Words :=
  let f := s.fab
  reg 0x18 (maskOf 24 f.lost.contains) ++ reg 0x1C (maskOf 24 (reachable s).contains) ++
    regs 0x20 4 6 (fun p =>
      let x := portAt s p
      x.state + 8 * x.nbPkg + 256 * x.nbPort + 65536 * min 0xFFFF x.downs) ++
    regs 0x80 4 24 (routeWord s) ++ reg 0x100 (paceIn s) ++ reg 0x104 f.crcErr ++ reg 0x108 f.retries ++ reg 0x10C f.ttlDrop ++
    reg 0x110 f.resent ++ reg 0x114 f.paceSent ++ reg 0x118 f.paceRcvd ++ reg 0x11C f.twinPages ++ reg 0x120 f.twinResumed

/-! ## HOST, MGT, clusters (R594, R124, R154, R200, R339) -/

/-- R594: the HOST block. -/
def hostWords (s : State) : Words :=
  let h := s.host
  reg 0x0 (h.link + 8 * h.linkPm + 64 * b2n h.configured) ++ reg64 0x10 h.commands ++ reg64 0x18 h.records ++ reg 0x20 h.discarded

/-- R594: the MGT block but MGT_DATA. -/
def mgtWords (s : State) : Words :=
  reg 0x0 (b2n (!s.host.mgt.recs.isEmpty) + 2 * b2n (!s.host.mgt.evts.isEmpty) + 4 * b2n s.flt.fatal)

/-- R124, R154: the registers of a vat. -/
def vatWords (x : Vat) : Words :=
  reg 0x0 (x.state + 8 * x.mode + 32 * x.queue.length + 2048 * b2n x.bound.isSome) ++ reg64 0x8 x.passes ++ reg 0x10 x.chkDet ++
    reg 0x14 x.grantWait ++ reg 0x18 x.idleExits ++ reg 0x28 (maskOf 8 fun g => (x.held.getD g none).isSome) ++ reg 0x2C x.swaps ++
    reg 0x30 x.swapsForced

/-- R526: the STATE that a unit shows: a coolant stop holds the domains of vats, turners and engines GATED. -/
def gatedView (s : State) (state fenced : Nat) : Nat := if s.pwr.coolStop ∧ 2 ≤ state ∧ state ≠ fenced then 1 else state

/-- R200: the registers of a turner. -/
def trnWords (x : Turner) : Words :=
  let k := x.bound.getD ⟨0, 0⟩
  reg 0x0 (x.state + 8 * b2n x.bound.isSome + 16 * b2n x.vat.isSome + 512 * k.i + 2 ^ 23 * k.g) ++ reg64 0x8 x.retired ++
    reg 0x10 x.laneDet ++ reg 0x14 x.excLast ++ reg 0x18 x.tasks

/-- R339: the registers of a DMA engine. -/
def dxWords (x : Dx) : Words :=
  reg 0x0 (x.state + 8 * min (2 ^ 22 - 1) (x.queued / 256)) ++ reg64 0x8 x.bytesIn ++ reg64 0x10 x.bytesOut ++ reg 0x18 x.rawFrames ++
    reg 0x1C x.det ++ reg 0x20 x.stall ++ reg 0x24 x.moved

/-- A vat as its registers show it. -/
def seenVat (s : State) (v : Nat) : Vat := { s.vat v with state := gatedView s (s.vat v).state 6 }

/-- A turner as its registers show it. -/
def seenTrn (s : State) (t : Nat) : Turner := { s.trn t with state := gatedView s (s.trn t).state 6 }

/-- A DMA engine as its registers show it. -/
def seenDx (s : State) (e : Nat) : Dx :=
  let x := s.dx.getD e Dx.reset
  { x with state := gatedView s x.state 4 }

/-- R593: a word of the block of cluster `c`. -/
def clusterWord (s : State) (c off : Nat) : Nat :=
  if 0x4000 ≤ off ∧ off < 0x4200 then wordAt (vatWords (seenVat s (2 * c + (off - 0x4000) / 0x100))) (off % 0x100)
  else if 0x5000 ≤ off ∧ off < 0x5200 then wordAt (trnWords (seenTrn s (8 * c + (off - 0x5000) / 0x40))) (off % 0x40)
  else if c % 2 = 0 ∧ 0x6000 ≤ off ∧ off < 0x6100 then
    wordAt (dxWords (seenDx s (2 * c + (off - 0x6000) / 0x40))) (off % 0x40)
  else 0

/-- R593: the word at a multiple of 4 of the control space, without the effect of a read. MGT_REC and MGT_EVT are read by
MGT_REC and MGT_EVT only and read as 0 here (R595). -/
def csWord (s : State) (a : Nat) : Nat :=
  match rsAt s a with
  | some r => r.value s
  | none =>
    if a < 0x1000 then wordAt (idWords s) a
    else if a < 0x2000 then wordAt (ownWords s) (a - 0x1000)
    else if a < 0x10000 then wordAt (chgWords s) (a - 0x2000)
    else if a < 0x18000 then wordAt (pwrWords s) (a - 0x10000)
    else if a < 0x1C000 then wordAt (thrWords s) (a - 0x18000)
    else if a < 0x20000 then wordAt (nrgWords s) (a - 0x1C000)
    else if a < 0x30000 then wordAt (fltWords s) (a - 0x20000)
    else if a < 0x40000 then wordAt (secWords s) (a - 0x30000)
    else if a < 0x50000 then wordAt (graWords s) (a - 0x40000)
    else if a < 0x60000 then wordAt (accWords s) (a - 0x50000)
    else if a < 0x70000 then wordAt (kveWords s) (a - 0x60000)
    else if a < 0x80000 then wordAt (objWords s) (a - 0x70000)
    else if a < 0x90000 then wordAt (caveWords s) (a - 0x80000)
    else if a < 0xA0000 then wordAt (fabWords s) (a - 0x90000)
    else if a < 0xB0000 then wordAt (hostWords s) (a - 0xA0000)
    else if a < 0xB2000 then wordAt (mgtWords s) (a - 0xB0000)
    else if a < 0xB4000 then mnum s.host.mgtData (a - 0xB2000) 4
    else if 0x100000 ≤ a ∧ a < 0x180000 then clusterWord s ((a - 0x100000) / 0x10000) (a % 0x10000)
    else if 0x400000 ≤ a ∧ a < 0x440000 then
      ((accAt s ((a - 0x400000) / 64)).map fun x => bnum (accEntry x) (a % 64) 4).getD 0
    else if 0x800000 ≤ a ∧ a < 0xA00000 then
      ((tget s.kve.pages ((a - 0x800000) / 16)).map fun x => bnum (pageEntry x) (a % 16) 4).getD 0
    else 0

/-- R555: the word that a read returns: during a fatal stop only the FLT block can be read. -/
def readWord (s : State) (a : Nat) : Nat :=
  if s.flt.fatal && !(0x20000 ≤ a && a < 0x30000) then 0 else csWord s a

/-- `n` words from an address. -/
def readWords (s : State) (a n : Nat) : List Nat := (List.range n).map fun i => readWord s (a + 4 * i)

/-! ## Clearing counters -/

/-- R124 VAT_CNT_CLR. -/
def clearVat (v : Nat) (s : State) : State :=
  s.modVat v fun x => { x with passes := 0, chkDet := 0, grantWait := 0, idleExits := 0 }

/-- R200 TRN_CNT_CLR. -/
def clearTrn (t : Nat) (s : State) : State := s.modTrn t fun x => { x with retired := 0, laneDet := 0, excLast := 0, tasks := 0 }

/-- R240 GRA_CNT_CLR. -/
def clearGra (s : State) : State :=
  { s with gra := { s.gra with instances := 0, tasks := 0, stealsSib := 0, stealsFar := 0, reexec := 0, hangs := 0, overB := 0 } }

/-- R280 OBJ_CNT_CLR: offsets 0x030 to 0x048. -/
def clearObj (s : State) : State :=
  { s with obj := { s.obj with promotions := 0, evictions := 0, spills := 0, collide := 0, allocFail := 0 } }

/-- R317 CAVE_CNT_CLR. -/
def clearCave (s : State) : State :=
  { s with cave := { s.cave with nReads := 0, retries := 0, rebuilds := 0, damaged := 0, relocs := 0, rdOver := 0 } }

/-- R339 DX_CNT_CLR. -/
def clearDx (e : Nat) (s : State) : State :=
  s.modDx e fun x => { x with bytesIn := 0, bytesOut := 0, rawFrames := 0, det := 0, stall := 0, moved := 0 }

/-- R380 KVE_CNT_CLR. -/
def clearKve (s : State) : State :=
  { s with kve := { s.kve with
    pressings := 0, pageWaits := 0, reclaims := 0, truncated := 0, viewDenied := 0, hoopWaits := 0, spanFull := 0 } }

/-- R404 ACC_CNT_CLR. -/
def clearAcc (s : State) : State :=
  { s with acc := { s.acc with
    submitted := 0, nsteps := 0, tokens := 0, draftsProp := 0, draftsAcc := 0, expired := 0, lateTok := 0, cancels := 0, tooLate := 0 } }

/-- R435 WGT_CNT_CLR. -/
def clearWgt (s : State) : State :=
  { s with wgt := { s.wgt with wheels := 0, failed := 0, rereq := 0, direct := 0, swaps := 0, duplicate := 0 } }

/-- R468 FAB_CNT_CLR. -/
def clearFab (s : State) : State :=
  { s with fab := { s.fab with
    crcErr := 0, retries := 0, ttlDrop := 0, resent := 0, paceSent := 0, paceRcvd := 0, twinPages := 0, twinResumed := 0 } }

/-- R502 SEC_CNT_CLR. -/
def clearSec (s : State) : State :=
  { s with sec := { s.sec with attests := 0, unlocks := 0, unlockFail := 0, nclosures := 0 } }

/-- R559 FLT_CNT_CLR: offsets 0x028 to 0x048. -/
def clearFlt (s : State) : State :=
  { s with flt := { s.flt with detections := 0, masked := 0, corrected := 0, hangs := 0, stalls := 0, dataLost := 0 } }

/-- R532 PWR_CNT_CLR. -/
def clearPwr (s : State) : State := modPwr s fun p => { p with dref := [], dabt := [] }

/-- R533 THR_CLR: the three registers of each reason whose bit is set. -/
def clearThr (v : Nat) (s : State) : State :=
  let z (xs : List Nat) : List Nat := xs.zipIdx.map fun e => if bit v e.2 then 0 else e.1
  modPwr s fun p => { p with thrDur := z p.thrDur, thrEnt := z p.thrEnt, thrCause := z p.thrCause }

/-- R534 NRG_CLR. -/
def clearNrg (s : State) : State :=
  modPwr s fun p => { p with nrgColl := [], nrgBand := [], nrgUn := 0, nrgTotal := 0, nrgDom := [] }

end Sys2Proof.Machine
end

