-- ==== Sys2Proof/Machine/Own.lean ====
section
/-! DEFINITION. Ownership, change sets and the writes to the control space (R582-R595): the OWN and CHG commands, their
events, and every register that can be written. -/

namespace Sys2Proof.Machine

open Sys2Proof

/-! ## Claims, release, handover (R583, R586) -/

/-- R583: a claim answered: by a REPLY, by the monitor's reply to its claim command, or by nothing for OWN_CTRL. -/
def answerClaim (c : Port × Option Nat) (ok : Bool) (s : State) : State :=
  match c with
  | (.monitor, some _) => monSay (if ok then 0 else 2) "claim" [] s
  | (p, some tag) => answer p tag (Ans.err (if ok then stOK else stSTATE)) s
  | (_, none) => s

/-- R583: a claim: STATE while an owner exists, kept while an election is open, won at once after it. -/
def claimOwner (c : Port × Option Nat) (s : State) : Option Bool × State :=
  if s.host.owner.isSome then (some false, s)
  else if s.host.ownState = 1 then (none, { s with host := { s.host with claims := s.host.claims ++ [c] } })
  else (some true, becomeOwner c.1 s)

/-- R583: the effect of OWN_CLAIM. -/
def ownClaim (h : Hdr) : Effect := fun _ s =>
  let r := claimOwner (h.port, some h.tag) s
  (r.1.map fun ok => Ans.err (if ok then stOK else stSTATE), r.2)

/-- R583: OWN_CLAIM. -/
def execOwnClaim (h : Hdr) (s : State) : Out := .next (hostCmd h { anyone := true } (ownClaim h) (.ownClaim h) s)

/-- R586: the effect of OWN_RELEASE. -/
def ownRelease : Effect := fun _ s => (some (Ans.ok 0), loseOwner s)

/-- R586: OWN_RELEASE. -/
def execOwnRelease (h : Hdr) (s : State) : Out := .next (hostCmd h {} ownRelease (.ownRelease h) s)

/-- R594: the port of a code. -/
def portOf (n : Nat) : Option Port := [none, some Port.usb, some .mgt, some .fabric, some .monitor].getD n none

/-- R586: the effect of OWN_HANDOVER; it waits for OWN_ACCEPT. -/
def ownHandover (h : Hdr) (target : Nat) : Effect := fun _ s =>
  match portOf target with
  | none => (some (Ans.err stPARAM), s)
  | some p =>
    if p = h.port ∨ s.host.owner ≠ some h.port ∨ s.host.ownState = 3 then (some (Ans.err stSTATE), s)
    else (none, { s with host := { s.host with ownState := 3, target := some (p, h.tag) } })

/-- R586: OWN_HANDOVER. -/
def execOwnHandover (h : Hdr) (target : Nat) (s : State) : Out :=
  .next (hostCmd h {} (ownHandover h target) (.ownHandover h target) s)

/-- R586: the effect of OWN_ACCEPT: the target becomes owner and the OWN_HANDOVER ends OK. -/
def ownAccept (h : Hdr) : Effect := fun _ s =>
  match s.host.owner, s.host.target with
  | some o, some (p, tag) =>
    if s.host.ownState = 3 ∧ p = h.port then (some (Ans.ok 0), answer o tag (Ans.ok 0) (becomeOwner p s))
    else (some (Ans.err stSTATE), s)
  | _, _ => (some (Ans.err stSTATE), s)

/-- R586: OWN_ACCEPT. -/
def execOwnAccept (h : Hdr) (s : State) : Out := .next (hostCmd h { anyone := true } (ownAccept h) (.ownAccept h) s)

/-- R586: HANDOVER_TIMEOUT: no OWN_ACCEPT within 1 s. -/
def execHandoverTimeout (s : State) : Out := .next (if serviceOn s then endHandover s else s)

/-- R583: an election closes: the claimant of the highest rank becomes owner and its claim ends OK, the others STATE. -/
def closeElection (s : State) : State :=
  let cs := s.host.claims
  match argMin (fun c : Nat × (Port × Option Nat) => portRank s c.2.1) (cs.zipIdx.map fun e => (e.2, e.1)) with
  | none => { s with host := { s.host with ownState := 0 } }
  | some w =>
    (cs.zipIdx.map fun e => (e.2, e.1)).foldl (fun t c => answerClaim c.2 (c.1 == w.1) t) (becomeOwner w.2.1 s)

/-- R583: ELECTION_CLOSE. -/
def execElectionClose (s : State) : Out :=
  .next (if serviceOn s && s.host.ownState == 1 then closeElection s else s)

/-! ## Change sets (R589-R592) -/

/-- R590: the check of the staged set, its conflict kept. -/
def chgCheckNow (s : State) : Ans × State :=
  match checkSet s with
  | some c => (conflictAns c, noteConflict c s)
  | none => (Ans.ok 0, s)

/-- R590: the effect of CHG_CHECK. -/
def chgCheck : Effect := fun _ s =>
  let r := chgCheckNow s
  (some r.1, r.2)

/-- R590: CHG_CHECK. -/
def execChgCheck (h : Hdr) (s : State) : Out := .next (hostCmd h {} chgCheck (.chgCheck h) s)

/-- R591: the effect of CHG_APPLY. -/
def chgApply (h : Hdr) : Effect := fun _ s =>
  let r := askApply (some (h.port, h.tag)) s
  (r.1, tryApply r.2)

/-- R591: CHG_APPLY. -/
def execChgApply (h : Hdr) (s : State) : Out := .next (hostCmd h {} (chgApply h) (.chgApply h) s)

/-- R592: the effect of CHG_DISCARD; a pending apply is not discarded. -/
def chgDiscard : Effect := fun _ s =>
  if s.host.applying.isSome then (some (Ans.err stSTATE), s) else (some (Ans.ok 0), discardSet s)

/-- R592: CHG_DISCARD. -/
def execChgDiscard (h : Hdr) (s : State) : Out := .next (hostCmd h {} chgDiscard (.chgDiscard h) s)

/-- R592: CHG_DISCARDED: the set is 10 s old. -/
def execChgDiscarded (s : State) : Out := .next (if serviceOn s then discardSet s else s)

/-! ## Register writes (R578, R584, R589, R595) -/

/-- R584: a write by a port that is not the owner is discarded and counted. -/
def deny (s : State) : State := { s with host := { s.host with denied := satAdd32 s.host.denied 1 } }

/-- The port can write registers now: the package serves, and the monitor has a D2 session (R496, R585). The fabric carries
commands only. -/
def canWrite (p : Port) (s : State) : Bool :=
  serviceOn s && s.pwr.pkg != 3 && match p with
    | .usb => s.host.usb.attached
    | .mgt => s.host.mgt.attached && s.pkg.vio18 && !s.host.hdr
    | .fabric => false
    | .monitor => s.sec.level == 2

/-- A write that only the owner may make. -/
def ownerWrite (p : Port) (f : State → State) (s : State) : State :=
  if !canWrite p s then s else if s.host.owner == some p then f s else deny s

/-- R595: a write that any port may make. -/
def anyWrite (p : Port) (f : State → State) (s : State) : State := if canWrite p s then f s else s

/-- A write of 1 to bit 0 of a register, which no other value acts on. -/
def onOne (v : Nat) (f : State → State) (s : State) : State := if bit v 0 then f s else s

/-- R590: OWN_CTRL or CHG_CTRL has no reply. -/
def chgCtrlCheck (s : State) : State := (chgCheckNow s).2

/-- R591: APPLY written to CHG_CTRL. -/
def chgCtrlApply (s : State) : State := tryApply (askApply none s).2

/-- R592: DISCARD written to CHG_CTRL. -/
def chgCtrlDiscard (s : State) : State := if s.host.applying.isSome then s else discardSet s

/-- R583, R585: CLAIM written to OWN_CTRL. -/
def ownCtrlClaim (s : State) : State := (claimOwner (.monitor, none) s).2

/-- R585, R586: RELEASE written to OWN_CTRL. -/
def ownCtrlRelease (s : State) : State := if s.host.owner = some .monitor then loseOwner s else s

/-- R594: a write to OWN_CTRL, CLAIM before RELEASE. -/
def writeOwnCtrl (v : Nat) (s : State) : State :=
  let s := if bit v 0 then ownCtrlClaim s else s
  if bit v 1 then ownCtrlRelease s else s

/-- R594: a write to CHG_CTRL, CHECK before APPLY before DISCARD. -/
def writeChgCtrl (v : Nat) (s : State) : State :=
  let s := if bit v 0 then chgCtrlCheck s else s
  let s := if bit v 1 then chgCtrlApply s else s
  if bit v 2 then chgCtrlDiscard s else s

/-- R532: a write to PWR_OWNER_VOTE_w; bits above domain 79 are dropped. -/
def writeOwnerVote (w v : Nat) (s : State) : State :=
  modPwr s fun p => { p with ownerVotes := p.ownerVotes.set w (if w = 2 then v % 2 ^ 16 else v % 2 ^ 32) }

/-- R509: a latency tolerance set at once. -/
def writeLatTol (v : Nat) (s : State) : State := modPwr s fun p => { p with latTol := v % 2 ^ 32 }

/-- What an owner's write of `v` does at an address that is not an RS register; none where the address takes no write
(R578). -/
def ownerEffect (a v : Nat) : Option (State → State) :=
  if a = 0x200C then some (writeChgCtrl v)
  else if 0x10140 ≤ a ∧ a < 0x1014C then some (writeOwnerVote ((a - 0x10140) / 4) v)
  else if a = 0x10704 then some (writeLatTol v)
  else if a = 0x10754 then some (onOne v clearPwr)
  else if a = 0x18084 then some (clearThr v)
  else if a = 0x1C230 then some (onOne v clearNrg)
  else if a = 0x20050 then some (onOne v clearFlt)
  else if a = 0x20100 then some fun s => { s with flt := { s.flt with sel := v % 2 ^ 8 } }
  else if a = 0x30150 then some (onOne v clearSec)
  else if a = 0x40034 then some (onOne v clearGra)
  else if a = 0x50068 then some (onOne v clearAcc)
  else if a = 0x600C0 then some (onOne v clearKve)
  else if a = 0x60300 then some fun s => { s with kve := { s.kve with hsel := v % 2 ^ 12 } }
  else if a = 0x70050 then some (onOne v clearObj)
  else if a = 0x70100 then some fun s => { s with obj := { s.obj with sel := v % 2 ^ 15 } }
  else if a = 0x70574 then some (onOne v clearWgt)
  else if a = 0x70580 then some fun s => { s with wgt := { s.wgt with sel := v % 2 ^ 6 } }
  else if a = 0x8003C then some (onOne v clearCave)
  else if a = 0x80100 then some fun s => { s with cave := { s.cave with sel := v % 2 ^ 10 } }
  else if a = 0x90124 then some (onOne v clearFab)
  else if 0x100000 ≤ a ∧ a < 0x180000 then
    let c := (a - 0x100000) / 0x10000
    let o := a % 0x10000
    if o = 0x4020 ∨ o = 0x4120 then some (onOne v (clearVat (2 * c + (o - 0x4000) / 0x100)))
    else if 0x5000 ≤ o ∧ o < 0x5200 ∧ o % 0x40 = 0x20 then some (onOne v (clearTrn (8 * c + (o - 0x5000) / 0x40)))
    else if c % 2 = 0 ∧ 0x6000 ≤ o ∧ o < 0x6100 ∧ o % 0x40 = 0x28 then some (onOne v (clearDx (2 * c + (o - 0x6000) / 0x40)))
    else none
  else none

/-- R579, R595: a management write into the mailbox. -/
def mailboxWrite (a v : Nat) (s : State) : State :=
  if 0xB0040 ≤ a ∧ a < 0xB0080 then { s with host := { s.host with mgtCmd := mwrite s.host.mgtCmd (a - 0xB0040) (le4 v) } }
  else if 0xB2000 ≤ a ∧ a < 0xB4000 then { s with host := { s.host with mgtData := mwrite s.host.mgtData (a - 0xB2000) (le4 v) } }
  else s

/-- The address is one that the management port alone may write (R595). -/
def isMailbox (a : Nat) : Bool := a == 0xB0008 || (0xB0040 ≤ a && a < 0xB0080) || (0xB2000 ≤ a && a < 0xB4000)

/-- R578, R584, R585, R589, R595: a word written to the control space by a port, but for MGT_DOORBELL. A write to an
address that takes none has no effect; by a port that is not the owner it is counted. -/
def writeWord (p : Port) (a v : Nat) (s : State) : State :=
  let v := v % 2 ^ 32
  if a % 4 ≠ 0 then s
  else if a = 0x2010 then anyWrite p (fun s => { s with host := { s.host with chgSel := v % 2 ^ 24 } }) s
  else if a = 0x1008 ∧ p = .monitor then anyWrite p (writeOwnCtrl v) s
  else if isMailbox a ∧ p = .mgt then anyWrite p (mailboxWrite a v) s
  else
    ownerWrite p (fun s =>
      match rsAt s a with
      | some r => stageWrite r v s
      | none =>
        match ownerEffect a v with
        | some f => f s
        | none => s) s

/-- Words written from an address upwards. -/
def writeWords (p : Port) (a : Nat) : List Nat → State → State
  | [], s => s
  | v :: vs, s => writeWords p (a + 4) vs (writeWord p a v s)

/-! ## The rows -/

/-- R585: OWN_CTRL_CLAIM, by the monitor in a D2 session. -/
def execOwnCtrlClaim (s : State) : Out := .next (anyWrite .monitor ownCtrlClaim s)

/-- R585: OWN_CTRL_RELEASE. -/
def execOwnCtrlRelease (s : State) : Out := .next (anyWrite .monitor ownCtrlRelease s)

/-- R590: CHG_CTRL_CHECK. -/
def execChgCtrlCheck (port : Port) (s : State) : Out := .next (ownerWrite port chgCtrlCheck s)

/-- R591: CHG_CTRL_APPLY. -/
def execChgCtrlApply (port : Port) (s : State) : Out := .next (ownerWrite port chgCtrlApply s)

/-- R592: CHG_CTRL_DISCARD. -/
def execChgCtrlDiscard (port : Port) (s : State) : Out := .next (ownerWrite port chgCtrlDiscard s)

/-- R589: RS_STAGED_WRITE; an address without an RS register takes no staged write. -/
def execRsStagedWrite (port : Port) (addr val : Nat) (s : State) : Out :=
  .next (if (rsAt s addr).isSome then writeWord port addr val s else s)

/-- R507: PWR_OWNER_VOTE. -/
def execPwrOwnerVote (port : Port) (w val : Nat) (s : State) : Out :=
  .next (if w < 3 then ownerWrite port (writeOwnerVote w val) s else s)

/-- R509: PWR_LAT_TOL. -/
def execPwrLatTol (port : Port) (val : Nat) (s : State) : Out := .next (ownerWrite port (writeLatTol val) s)

/-- R124: VAT_CNT_CLR. -/
def execVatCntClr (port : Port) (v val : Nat) (s : State) : Out :=
  .next (if v < 16 then ownerWrite port (onOne val (clearVat v)) s else s)

/-- R200: TRN_CNT_CLR. -/
def execTrnCntClr (port : Port) (t val : Nat) (s : State) : Out :=
  .next (if t < 64 then ownerWrite port (onOne val (clearTrn t)) s else s)

/-- R240: GRA_CNT_CLR. -/
def execGraCntClr (port : Port) (val : Nat) (s : State) : Out := .next (ownerWrite port (onOne val clearGra) s)

/-- R280: OBJ_CNT_CLR. -/
def execObjCntClr (port : Port) (val : Nat) (s : State) : Out := .next (ownerWrite port (onOne val clearObj) s)

/-- R317: CAVE_CNT_CLR. -/
def execCaveCntClr (port : Port) (val : Nat) (s : State) : Out := .next (ownerWrite port (onOne val clearCave) s)

/-- R339: DX_CNT_CLR. -/
def execDxCntClr (port : Port) (e val : Nat) (s : State) : Out :=
  .next (if e < 16 then ownerWrite port (onOne val (clearDx e)) s else s)

/-- R380: KVE_CNT_CLR. -/
def execKveCntClr (port : Port) (val : Nat) (s : State) : Out := .next (ownerWrite port (onOne val clearKve) s)

/-- R404: ACC_CNT_CLR. -/
def execAccCntClr (port : Port) (val : Nat) (s : State) : Out := .next (ownerWrite port (onOne val clearAcc) s)

/-- R435: WGT_CNT_CLR. -/
def execWgtCntClr (port : Port) (val : Nat) (s : State) : Out := .next (ownerWrite port (onOne val clearWgt) s)

/-- R468: FAB_CNT_CLR. -/
def execFabCntClr (port : Port) (val : Nat) (s : State) : Out := .next (ownerWrite port (onOne val clearFab) s)

/-- R502: SEC_CNT_CLR. -/
def execSecCntClr (port : Port) (val : Nat) (s : State) : Out := .next (ownerWrite port (onOne val clearSec) s)

/-- R559, R560: FLT_CNT_CLR. -/
def execFltCntClr (port : Port) (val : Nat) (s : State) : Out := .next (ownerWrite port (onOne val clearFlt) s)

/-- R532: PWR_CNT_CLR. -/
def execPwrCntClr (port : Port) (val : Nat) (s : State) : Out := .next (ownerWrite port (onOne val clearPwr) s)

/-- R533: THR_CLR. -/
def execThrClr (port : Port) (val : Nat) (s : State) : Out := .next (ownerWrite port (clearThr val) s)

/-- R534: NRG_CLR. -/
def execNrgClr (port : Port) (val : Nat) (s : State) : Out := .next (ownerWrite port (onOne val clearNrg) s)

end Sys2Proof.Machine
end

