-- ==== Sys2Proof/Machine/Resets.lean ====
section
/-! DEFINITION. The reset commands (R602-R606), and the always-on tick. -/

namespace Sys2Proof.Machine

open Sys2Proof

/-! ## Package soft reset (R603) -/

/-- R603: the effect of RESET_PACKAGE: its REPLY is sent, then the root restarts. -/
def resetPackage (h : Hdr) : Effect := fun _ s => (none, softReset 3 (sendNow h.port (mkRec tyREPLY h.tag stOK (zeros 8)) s))

/-- R603, R601: RESET_PACKAGE. -/
def execResetPackage (h : Hdr) (s : State) : Out :=
  .next (hostCmd h { recovery := true } (resetPackage h) (.resetPackage h) s)

/-! ## Cluster reset (R604) -/

/-- R604, R607: a vat whose domain has been OFF and is ON again: what it held is lost; its swap counters restart (R154). -/
def Vat.restart (x : Vat) : Vat :=
  { Vat.reset with
    state := if x.state = 6 then 6 else 1, passes := x.passes, chkDet := x.chkDet, grantWait := x.grantWait, idleExits := x.idleExits }

/-- R604, R607: a turner whose domain has been OFF and is ON again: its scratch is zero. -/
def Turner.restart (x : Turner) : Turner :=
  { Turner.reset with
    state := if x.state = 6 then 6 else 1, retired := x.retired, laneDet := x.laneDet, excLast := x.excLast, tasks := x.tasks,
    halted := x.halted }

/-- R604 steps 1 to 6: the epoch rises, streams are swapped out, running tasks stopped and put back, near store spilled and
zeroed, the units restarted; their self-tests run. -/
def startClusterReset (c : Nat) (ask : Port × Nat) (s : State) : State :=
  let s := modSec s fun x => { x with epochCl := x.epochCl.modify c fun n => satAdd32 n 1 }
  let s := modCave s (Cave.note (.cluster c (s.sec.epochCl.getD c 0)))
  let s := { s with pkg := { s.pkg with clReset := s.pkg.clReset ++ [(c, ask)] } }
  let vs := [2 * c, 2 * c + 1]
  let s := vs.foldl (fun t v => swapAll t v (t.vat v).bound) s
  let s := ((liveTasks s).filter fun k => (runOf s k).any fun r =>
    r.st == .running && (s.vats.zipIdx.any (fun e => e.1.bound == some k && clusterOfVat e.2 == c) ||
      s.turners.zipIdx.any fun e => e.1.bound == some k && clusterOfTrn e.2 == c)).foldl stopTask s
  let s := replaceTasks (moveHoops (emptyNear s c) c) c fun _ => true
  let s := s.modNear c fun _ => []
  let s := grantsLeft (vs.foldl (fun t v => t.modVat v Vat.restart) s)
  (List.range 8).foldl (fun t i => t.modTrn (8 * c + i) Turner.restart) s

/-- R604: the effect of RESET_CLUSTER; it ends when the cluster's self-test has. -/
def resetCluster (h : Hdr) (c : Nat) : Effect := fun _ s =>
  if 7 < c then (some (Ans.err stPARAM), s)
  else if (List.range 8).all fun d => d == c || s.isFenced siteCLUSTER d then (some (Ans.err stSTATE), s)
  else if resetting s c then (some (Ans.err stBUSY), s)
  else (none, startClusterReset c (h.port, h.tag) s)

/-- R604: RESET_CLUSTER. -/
def execResetCluster (h : Hdr) (c : Nat) (s : State) : Out := .next (hostCmd h {} (resetCluster h c) (.resetCluster h c) s)

/-! ## Vat fence and unfence (R605) -/

/-- R605: a vat fenced by command, once nothing is bound to it: no detection, not logged. -/
def serveFence (s : State) (v : Nat) : State :=
  match vatCmd s v with
  | some e =>
    if !e.1 || (s.vat v).bound.isSome then s
    else if s.isFenced siteVAT v then endVatCmd e stOK s
    else if lastOfKind s siteVAT v then endVatCmd e stSTATE s
    else endVatCmd e stOK (fenceVat s v)
  | none => s

/-- R605: the vat commands that can take effect do. -/
def serveFences (s : State) : State :=
  if s.pkg.vatCmds.isEmpty || !serviceOn s then s else (List.range 16).foldl serveFence s

/-- R605: the effect of VAT_FENCE. -/
def vatFence (h : Hdr) (v : Nat) : Effect := fun _ s =>
  if 15 < v then (some (Ans.err stPARAM), s)
  else if lastOfKind s siteVAT v then (some (Ans.err stSTATE), s)
  else (none, serveFence { s with pkg := { s.pkg with vatCmds := s.pkg.vatCmds ++ [(true, v, h.port, h.tag)] } } v)

/-- R605: VAT_FENCE. -/
def execVatFence (h : Hdr) (v : Nat) (s : State) : Out := .next (hostCmd h {} (vatFence h v) (.vatFence h v) s)

/-- R605: the effect of VAT_UNFENCE; a vat that is not fenced needs no test. -/
def vatUnfence (h : Hdr) (v : Nat) : Effect := fun _ s =>
  if 15 < v then (some (Ans.err stPARAM), s)
  else if s.isFenced siteCLUSTER (clusterOfVat v) then (some (Ans.err stSTATE), s)
  else if !s.isFenced siteVAT v && (vatCmd s v).isNone then
    (some (Ans.ok 0), { s with pkg := { s.pkg with cntVfence := satAdd32 s.pkg.cntVfence 1 } })
  else (none, { s with pkg := { s.pkg with vatCmds := s.pkg.vatCmds ++ [(false, v, h.port, h.tag)] } })

/-- R605: VAT_UNFENCE. -/
def execVatUnfence (h : Hdr) (v : Nat) (s : State) : Out := .next (hostCmd h {} (vatUnfence h v) (.vatUnfence h v) s)

/-! ## Port reset (R606) -/

/-- R606: a port goes DOWN, its fence and detections are cleared, it trains. -/
def restartPort (p : Nat) (s : State) : State :=
  let s := if (portAt s p).state = 3 then linkDown s p else s
  let s := modFlt s fun f => { f with
    fenced := f.fenced.filter (· != (siteFABRIC, p)), recovering := f.recovering.filter (· != (siteFABRIC, p)),
    history := f.history.filter fun e => !(e.1 == siteFABRIC && e.2.1 == p) }
  let s := modFPort s p fun x => { FPort.reset with state := 2, downs := x.downs, wire := x.wire }
  let s := setDomain s (60 + p) 0
  { s with pkg := { s.pkg with cntPort := satAdd32 s.pkg.cntPort 1 } }

/-- R606: the effect of RESET_PORT; it ends with the training. -/
def resetPort (h : Hdr) (p : Nat) : Effect := fun _ s =>
  if 5 < p then (some (Ans.err stPARAM), s)
  else if !bit (rsv s 0x9000C 0) p then (some (Ans.err stSTATE), s)
  else (none, restartPort p { s with pkg := { s.pkg with portReset := s.pkg.portReset ++ [(p, h.port, h.tag)] } })

/-- R606: RESET_PORT. -/
def execResetPort (h : Hdr) (p : Nat) (s : State) : Out := .next (hostCmd h {} (resetPort h p) (.resetPort h p) s)

/-! ## The always-on tick (R11, R400) -/

/-- R400, R522: DEADLINE_COUNTDOWN: an always-on tick; a vat fence whose task has completed takes effect. -/
def execDeadlineCountdown (s : State) : Out := .next (serveFences (deadlineTick s))

end Sys2Proof.Machine
end

