-- ==== Sys2Proof/Machine/Security.lean ====
section
/-! DEFINITION. Collections, key slots, closure, firmware, provenance, lifecycle and debug (chapter 14). -/

namespace Sys2Proof.Machine

open Sys2Proof

/-! ## Collections and keys (R480-R483) -/

/-- R480, R494, R499: collections cannot be opened: no identity, a D2 session in PRODUCTION, or a move to RETURNED. -/
def noOpening (s : State) : Bool :=
  !hasIdentity s.sec || (s.sec.lifecycle == lcPRODUCTION && (s.sec.level == 2 || s.sec.pendingD2.isSome)) || s.sec.pendingLc.isSome

/-- R481: the effect of SEC_COLL_OPEN: both key pairs drawn from the TRNG. -/
def secCollOpen (coll : Nat) : Effect := fun _ s =>
  if 63 < coll then (some (Ans.err stPARAM), s)
  else if noOpening s || (tget s.sec.keys coll).isSome then (some (Ans.err stSTATE), s)
  else if s.sec.trngFail then (some (Ans.err stENTROPY), s)
  else
    let k : KeySlot :=
      { state := 1, xPriv := Config.trng s.fresh 32, kPriv := Config.trng (s.fresh + 1) 64, key := [], digest := none }
    (some (Ans.ok 0), modFab (setSlot (advance (advance s)) coll (some k)) fun b => { b with purged := b.purged.filter (· != coll) })

/-- R481: SEC_COLL_OPEN. -/
def execSecCollOpen (h : Hdr) (coll : Nat) (s : State) : Out := .next (hostCmd h {} (secCollOpen coll) (.secCollOpen h coll) s)

/-- R482: the wrapping key of a blob. -/
def wrapKey (k : KeySlot) (b : Bytes) (coll : Nat) : Bytes :=
  Config.hkdf (slice b 8 48) (Config.x25519 k.xPriv (slice b 56 32) ++ Config.kemDecap k.kPriv (slice b 88 1088))
    (ascii "ISCEN KEYWRAP 1" ++ leBytes 1 coll) 32

/-- R483: the effect of SEC_KEY_INSTALL. -/
def secKeyInstall (coll : Nat) : Effect := fun d s =>
  let b := d.take 1236
  if 63 < coll then (some (Ans.err stPARAM), s)
  else
    match tget s.sec.keys coll with
    | none => (some (Ans.err stSTATE), s)
    | some k =>
      if k.state != 1 then (some (Ans.err stSTATE), s)
      else if bnum b 0 4 != 0x5A524B57 || bnum b 4 1 != 1 || bnum b 6 2 != 0 || bnum b 5 1 != coll then
        (some (Ans.err stFORMAT), s)
      else if k.digest != some (slice b 8 48) then (some (Ans.err stDIGEST), s)
      else
        match Config.gcmOpen (wrapKey k b coll) (slice b 1176 12) (b.take 56) (slice b 1188 32) (slice b 1220 16) with
        | none => (some (Ans.err stAUTH), s)
        | some key =>
          (some (Ans.ok 0), setSlot s coll (some { state := 2, xPriv := [], kPriv := [], key := key, digest := none }))

/-- R482: SEC_KEY_INSTALL. -/
def execSecKeyInstall (h : Hdr) (coll : Nat) (s : State) : Out :=
  .next (hostCmd h { dlen := 1236 } (secKeyInstall coll) (.secKeyInstall h coll) s)

/-! ## Closure (R491) -/

/-- R491: the effect of SEC_COLL_CLOSE; the closure of a KEYED collection answers when it is complete. -/
def secCollClose (h : Hdr) (coll : Nat) : Effect := fun _ s =>
  if 63 < coll then (some (Ans.err stPARAM), s)
  else
    let st := keyState s coll
    if st = 0 then (some (Ans.err stSTATE), s)
    else if st = 3 then (some (Ans.err stALREADY), s)
    else if st = 1 then (some (Ans.ok 0), setSlot s coll none)
    else (none, startClosure coll 0 (some (h.port, h.tag)) s)

/-- R491: SEC_COLL_CLOSE. -/
def execSecCollClose (h : Hdr) (coll : Nat) (s : State) : Out :=
  .next (hostCmd h {} (secCollClose h coll) (.secCollClose h coll) s)

/-- R266, R491: a closure may scrub: its running tasks have reached their completion points, and nobody else pins an object of
the collection. -/
def mayScrub (s : State) (x : Closure) : Bool :=
  x.tasks.all (fun k => !(runOf s k).any fun r => r.st == .running) &&
    (objsOfColl ((s.obj.moves.filter fun m => m.coll == x.coll).foldl dropMove s) x.coll).all fun e => e.2.pins == 0

/-- R491: CLOSURE_SCRUB: what remains of the closure of a collection. -/
def execClosureScrub (coll : Nat) (s : State) : Out :=
  .next (match s.sec.closures.find? fun x => x.coll == coll with
    | some x => if serviceOn s && mayScrub s x then afterClosures (finishClosure s x) else s
    | none => s)

/-! ## Firmware (R479) -/

/-- R479: another SEC_FW_STAGE is in progress. -/
def stageBusy (s : State) : Bool :=
  [Port.usb, .mgt, .fabric].any fun p => (s.portq p).outst.any fun o => o.fail.isNone && match o.cmd with
    | .secFwStage _ => true
    | _ => false

/-- R478, R479: the slot that a new bundle is written to. -/
def inactiveSlot (x : Sec) : Nat := 1 - x.active % 2

/-- R479: the effect of SEC_FW_STAGE: the bundle written to the inactive slot, then verified. -/
def secFwStage : Effect := fun d s =>
  let k := inactiveSlot s.sec
  let ok := bundleOK s.sec d
  let s := modSec s fun x => { x with slots := x.slots.set k d, svn := x.svn.set k (bnum d 5 1), staged := ok }
  (some (if ok then Ans.ok 0 else Ans.err stREFUSED), s)

/-- R479: SEC_FW_STAGE. -/
def execSecFwStage (h : Hdr) (s : State) : Out :=
  .next (hostCmdPre h { recovery := true } (fun s =>
    if stageBusy s then some (Ans.err stBUSY)
    else if slotSize < h.dlen then some (Ans.err stSIZE)
    else if h.dlen = 0 then some (Ans.err stREFUSED)
    else none) secFwStage (.secFwStage h) s)

/-- R479: the effect of SEC_FW_DISCARD. -/
def secFwDiscard : Effect := fun _ s =>
    if s.sec.staged then (some (Ans.ok 0), modSec s fun x => { x with staged := false }) else (some (Ans.err stSTATE), s)

/-- R479: SEC_FW_DISCARD. -/
def execSecFwDiscard (h : Hdr) (s : State) : Out :=
  .next (hostCmd h {} secFwDiscard
    (.secFwDiscard h) s)

/-- R479: the effect of SEC_FW_COMMIT. -/
def secFwCommit : Effect := fun _ s =>
  let svn := s.sec.svn.getD s.sec.running 0
  if s.sec.staged || s.sec.fallback then (some (Ans.err stSTATE), s)
  else if 128 < svn then (some (Ans.err stLIMIT), s)
  else (some (Ans.ok 0), modSec s fun x => { x with rollback := max x.rollback svn })

/-- R479: SEC_FW_COMMIT. -/
def execSecFwCommit (h : Hdr) (s : State) : Out := .next (hostCmd h {} secFwCommit (.secFwCommit h) s)

/-- R478: FW_FALLBACK: the staged slot has not reached READY in time. -/
def execFwFallback (s : State) : Out :=
  .next (if (s.pkg.phase = .booting ∨ s.pkg.phase = .stuck) ∧ s.sec.staged then
      softReset 4 (modSec s fun x => { x with staged := false, fallback := true })
    else s)

/-! ## Lifecycle and debug (R494-R501) -/

/-- R495: the effect of SEC_LIFECYCLE: the closures of a move to RETURNED come first, then the move. -/
def secLifecycle (h : Hdr) : Effect := fun b s =>
  let st := lifecycleStatus s b
  let s := countAttempt (st == stOK) s
  if st != stOK then (some (Ans.err st), s)
  else
    let to_ := bnum b 7 1
    if to_ = lcRETURNED then
      (none, afterClosures (closeAll 0 (modSec s fun x => { x with pendingLc := some (to_, h.port, h.tag) })))
    else (none, moveLifecycle to_ h.port h.tag s)

/-- R495: SEC_LIFECYCLE. -/
def execSecLifecycle (h : Hdr) (s : State) : Out := .next (hostCmd h { dlen := 5453 } (secLifecycle h) (.secLifecycle h) s)

/-- R497: the effect of SEC_DEBUG_UNLOCK. -/
def secDebugUnlock (h : Hdr) : Effect := fun b s =>
  let r := tryUnlock b (some (h.port, h.tag)) s
  (r.1.map fun st => Ans.err st, r.2)

/-- R497: SEC_DEBUG_UNLOCK. -/
def execSecDebugUnlock (h : Hdr) (s : State) : Out :=
  .next (hostCmd h { dlen := 5453 } (secDebugUnlock h) (.secDebugUnlock h) s)

/-- R496: the effect of SEC_DEBUG_CLOSE. -/
def secDebugClose : Effect := fun _ s =>
    if s.sec.level = 2 then (some (Ans.ok 0), closeD2 s) else (some (Ans.err stSTATE), s)

/-- R496: SEC_DEBUG_CLOSE. -/
def execSecDebugClose (h : Hdr) (s : State) : Out :=
  .next (hostCmd h {} secDebugClose (.secDebugClose h) s)

/-- R496: D2_SESSION_EXPIRY. -/
def execD2SessionExpiry (s : State) : Out := .next (closeD2 s)

/-- R498: a fresh nonce, or the status with which it is refused. -/
def drawNonce (s : State) : Except Nat (Bytes × State) :=
  if s.sec.locked then .error stLOCKED
  else if s.sec.trngFail then .error stENTROPY
  else
    let n := Config.trng s.fresh 32
    .ok (n, modSec (advance s) fun x => { x with nonce := some n })

/-- R498: the effect of SEC_DEBUG_NONCE. -/
def secDebugNonce : Effect := fun _ s =>
  match drawNonce s with
  | .ok (n, t) => (some { small := n }, t)
  | .error st => (some (Ans.err st), s)

/-- R498: SEC_DEBUG_NONCE. -/
def execSecDebugNonce (h : Hdr) (s : State) : Out :=
  .next (hostCmd h { anyone := true, recovery := true } secDebugNonce (.secDebugNonce h) s)

/-- R498: NONCE_LAPSE. -/
def execNonceLapse (s : State) : Out := .next (modSec s fun x => { x with nonce := none })

/-- R498: NONCE_LOCK_END. -/
def execNonceLockEnd (s : State) : Out :=
  .next (modSec s fun x => if x.locked then { x with locked := false, fails := 0 } else x)

/-! ## Certificates and records (R474, R486-R490) -/

/-- R474: the effect of SEC_CERTS. -/
def secCerts : Effect := fun _ s =>
    if !hasIdentity s.sec then (some (Ans.err stNO_IDENTITY), s)
    else (some { rdata := some (Config.certs (publicKeys devSeeds ++ publicKeys (aliasSeeds s.sec))) }, s)

/-- R474: SEC_CERTS. -/
def execSecCerts (h : Hdr) (s : State) : Out :=
  .next (hostCmd h { anyone := true, recovery := true } secCerts (.secCerts h) s)

/-- R486: the effect of SEC_ATTEST: the nonce comes as data, before the four bytes that name the collection. -/
def secAttest (coll : Nat) : Effect := fun d s =>
  let nonce := d.take (d.length - 4)
  if nonce.length < 16 || 64 < nonce.length || (63 < coll && coll != 0xFF) then (some (Ans.err stPARAM), s)
  else if !s.sec.epochDurable then (some (Ans.err stBUSY), s)
  else if !hasIdentity s.sec then (some (Ans.err stNO_IDENTITY), s)
  else if coll != 0xFF && keyState s coll == 3 then (some (Ans.err stSTATE), s)
  else
    let p := recordPayload s nonce coll
    let s' := modSec s fun x =>
      { x with
        attests := satAdd32 x.attests 1
        keys := if coll = 0xFF then x.keys
          else tmod x.keys coll fun k => if k.state = 1 then { k with digest := some (Config.sha384 p) } else k }
    (some { rdata := some (signRecord s p) }, s')

/-- R486, R503: SEC_ATTEST; a port that is not the owner names no collection. -/
def execSecAttest (h : Hdr) (coll : Nat) (s : State) : Out :=
  .next (hostCmd h { anyone := coll == 0xFF, dlen := 20 } (secAttest coll) (.secAttest h coll) s)

end Sys2Proof.Machine
end

