-- ==== Sys2Proof/Machine/CmdOps.lean ====
section
/-! DEFINITION. Command records as bytes (R566-R568): the command that a record names, its effect on its data, and its running,
for the ports whose records arrive as bytes and for the data that arrive after a command. -/

namespace Sys2Proof.Machine

open Sys2Proof

/-! ## The record (R566, R567) -/

/-- The number in `k` bytes from byte `a` of a record's PAYLOAD. -/
def recNum (b : Bytes) (a k : Nat) : Nat := bnum b (16 + a) k

/-- R566: the envelope of a record whose parameters take the first `used` bytes of PAYLOAD. -/
def recHdr (port : Port) (b : Bytes) (used : Nat) : Hdr :=
  { port := port, tag := bnum b 4 4, flags := bnum b 2 1, stream := bnum b 3 1, dlen := bnum b 8 4, rsv := bnum b 12 4,
    tail := bnum b (16 + used) (48 - used) }

/-- R643: the PAYLOAD of ACC_SUBMIT. -/
def recSubmit (b : Bytes) : SubmitP :=
  let w (i : Nat) : Nat := recNum b (4 * i) 4
  { service := w 0, prompt := w 1, n := w 2, policy := w 3, adapter := w 4, stopset := w 5, topk := w 6, draftMax := w 7,
    temp := w 8, topp := w 9, deadline := w 10, maxnew := w 11 }

/-! ## Opcodes (R568) -/

/-- R567, R568: the OWN command of an opcode. -/
def recOwn (port : Port) (b : Bytes) (op : Nat) : Option Instr :=
  match op with
  | 0x0001 => some (.ownClaim (recHdr port b 0))
  | 0x0002 => some (.ownRelease (recHdr port b 0))
  | 0x0003 => some (.ownHandover (recHdr port b 4) (recNum b 0 4))
  | 0x0004 => some (.ownAccept (recHdr port b 0))
  | 0x0010 => some (.chgCheck (recHdr port b 0))
  | 0x0011 => some (.chgApply (recHdr port b 0))
  | 0x0012 => some (.chgDiscard (recHdr port b 0))
  | _ => none

/-- R567, R568: the GRAPH command of an opcode. -/
def recGraph (port : Port) (b : Bytes) (op : Nat) : Option Instr :=
  match op with
  | 0x0101 => some (.graphLoad (recHdr port b 12) (recNum b 0 4) (recNum b 4 4) (recNum b 8 4))
  | 0x0102 => some (.graphRun (recHdr port b 16) (recNum b 0 4) (recNum b 4 4) (recNum b 8 4) (recNum b 12 4))
  | 0x0103 => some (.graphAbort (recHdr port b 4) (recNum b 0 4))
  | 0x0104 => some (.graphDrop (recHdr port b 4) (recNum b 0 4))
  | _ => none

/-- R567, R568: the OBJ command of an opcode. -/
def recObj (port : Port) (b : Bytes) (op : Nat) : Option Instr :=
  match op with
  | 0x0201 =>
    some (.objCreate (recHdr port b 36) (recNum b 0 4) (recNum b 4 8) (recNum b 12 4) (recNum b 16 4) (recNum b 20 4) (recNum b 24 4)
      (recNum b 28 4) (recNum b 32 4))
  | 0x0202 => some (.objFree (recHdr port b 4) (recNum b 0 4))
  | 0x0203 => some (.objPromote (recHdr port b 8) (recNum b 0 4) (recNum b 4 4))
  | 0x0204 => some (.objEvict (recHdr port b 8) (recNum b 0 4) (recNum b 4 4))
  | 0x0205 => some (.objPlace (recHdr port b 8) (recNum b 0 4) (recNum b 4 4))
  | 0x0206 => some (.objQuery (recHdr port b 4) (recNum b 0 4))
  | 0x0210 => some (.fetchNack (recHdr port b 4) (recNum b 0 4))
  | _ => none

/-- R567, R568: the CAVE command of an opcode. -/
def recCave (port : Port) (b : Bytes) (op : Nat) : Option Instr :=
  match op with
  | 0x0301 => some (.caveOpen (recHdr port b 8) (recNum b 0 4) (recNum b 4 4))
  | 0x0302 =>
    -- R291: the stream of interface 1 that carries the wheels is the command's fourth parameter
    let h := recHdr port b 16
    some (.caveWrite (if port = .usb then { h with stream := recNum b 12 4 } else h) (recNum b 0 4) (recNum b 4 4) (recNum b 8 4))
  | 0x0303 => some (.caveSeal (recHdr port b 4) (recNum b 0 4))
  | 0x0304 => some (.caveRelease (recHdr port b 4) (recNum b 0 4))
  | 0x0305 => some (.caveSlice (recHdr port b 8) (recNum b 0 4) (recNum b 4 4))
  | 0x0306 => some (.caveScan (recHdr port b 4) (recNum b 0 4))
  | _ => none

/-- R567, R568: the TABLE command of an opcode. -/
def recTable (port : Port) (b : Bytes) (op : Nat) : Option Instr :=
  match op with
  | 0x0401 => some (.tableLoad (recHdr port b 0))
  | 0x0402 => some (.tableReplace (recHdr port b 4) (recNum b 0 4))
  | 0x0403 => some (.tableDrop (recHdr port b 4) (recNum b 0 4))
  | _ => none

/-- R567, R568: the ACC command of an opcode. -/
def recAcc (port : Port) (b : Bytes) (op : Nat) : Option Instr :=
  match op with
  | 0x0501 => some (.accService (recHdr port b 4) (recNum b 0 4))
  | 0x0502 => some (.accStopset (recHdr port b 4) (recNum b 0 4))
  | 0x0503 => some (.accSubmit (recHdr port b 48) (recSubmit b))
  | 0x0504 => some (.accCancel (recHdr port b 8) (recNum b 0 4) (recNum b 4 4))
  | 0x0505 => some (.accSuspend (recHdr port b 4) (recNum b 0 4))
  | 0x0506 => some (.accResume (recHdr port b 4) (recNum b 0 4))
  | 0x0507 => some (.accHoldAll (recHdr port b 0))
  | 0x0508 => some (.accResumeAll (recHdr port b 0))
  | _ => none

/-- R567, R568: the WGT command of an opcode. -/
def recWgt (port : Port) (b : Bytes) (op : Nat) : Option Instr :=
  match op with
  | 0x0601 => some (.wgtLoad (recHdr port b 24) (recNum b 0 4) (recNum b 4 4) (recNum b 8 4) (recNum b 12 4) (recNum b 16 4) (recNum b 20 4))
  | 0x0602 => some (.wgtExpect (recHdr port b 20) (recNum b 0 4) (recNum b 4 4) (recNum b 8 4) (recNum b 12 4) (recNum b 16 4))
  | 0x0603 => some (.wgtBcast (recHdr port b 20) (recNum b 0 4) (recNum b 4 4) (recNum b 8 4) (recNum b 12 4) (recNum b 16 4))
  | 0x0604 => some (.wgtGrant (recHdr port b 8) (recNum b 0 4) (recNum b 4 4))
  | 0x0605 => some (.wgtRevoke (recHdr port b 8) (recNum b 0 4) (recNum b 4 4))
  | 0x0606 => some (.wgtReplace (recHdr port b 4) (recNum b 0 4))
  | 0x0607 => some (.wgtResume (recHdr port b 4) (recNum b 0 4))
  | 0x0608 => some (.wgtAbandon (recHdr port b 0))
  | 0x0611 => some (.adpLoad (recHdr port b 8) (recNum b 0 4) (recNum b 4 4))
  | 0x0612 => some (.adpFree (recHdr port b 4) (recNum b 0 4))
  | 0x0613 => some (.adpPublish (recHdr port b 12) (recNum b 0 4) (recNum b 4 4) (recNum b 8 4))
  | 0x0614 => some (.adpExport (recHdr port b 4) (recNum b 0 4))
  | _ => none

/-- R567, R568: the SEC command of an opcode. -/
def recSec (port : Port) (b : Bytes) (data : Bytes) (op : Nat) : Option Instr :=
  match op with
  | 0x0701 => some (.secCollOpen (recHdr port b 4) (recNum b 0 4))
  | 0x0702 => some (.secKeyInstall (recHdr port b 4) (recNum b 0 4))
  | 0x0703 => some (.secCollClose (recHdr port b 4) (recNum b 0 4))
  | 0x0704 => some (.secFwStage (recHdr port b 0))
  | 0x0705 => some (.secFwDiscard (recHdr port b 0))
  | 0x0706 => some (.secFwCommit (recHdr port b 0))
  | 0x0707 => some (.secLifecycle (recHdr port b 0))
  | 0x0708 => some (.secDebugUnlock (recHdr port b 0))
  | 0x0709 => some (.secDebugClose (recHdr port b 0))
  | 0x070A => some (.secCerts (recHdr port b 0))
  | 0x070B => some (.secDebugNonce (recHdr port b 0))
  | 0x070C => some (.secAttest (recHdr port b 0) (bnum (data.drop (data.length - 4)) 0 4))
  | _ => none

/-- R567, R568: the PWR and reset command of an opcode. -/
def recPwr (port : Port) (b : Bytes) (op : Nat) : Option Instr :=
  match op with
  | 0x0801 => some (.pwrShutdown (recHdr port b 0))
  | 0x0810 => some (.resetPackage (recHdr port b 0))
  | 0x0811 => some (.resetCluster (recHdr port b 4) (recNum b 0 4))
  | 0x0812 => some (.vatFence (recHdr port b 4) (recNum b 0 4))
  | 0x0813 => some (.vatUnfence (recHdr port b 4) (recNum b 0 4))
  | 0x0814 => some (.resetPort (recHdr port b 4) (recNum b 0 4))
  | _ => none

/-- R568: a command of an opcode. -/
def recCmd (port : Port) (b data : Bytes) (op : Nat) : Option Instr :=
  recOwn port b op <|> recGraph port b op <|> recObj port b op <|> recCave port b op <|> recTable port b op <|> recAcc port b op <|>
    recWgt port b op <|> recSec port b data op <|> recPwr port b op

/-- R566, R568: the command that a record of 64 bytes names. COLL of SEC_ATTEST, which ends its data, is read from `data`. -/
def decodeRecord (port : Port) (b data : Bytes) : Instr :=
  (recCmd port b data (bnum b 0 2)).getD (.unassignedOpcode (recHdr port b 48) (bnum b 0 2))

/-! ## Effects and runs -/

/-- R568: an unassigned opcode ends OPCODE. -/
def badOpcode : Effect := fun _ s => (some (Ans.err stOPCODE), s)

/-- R568: UNASSIGNED_OPCODE. -/
def execUnassignedOpcode (h : Hdr) (opcode : Nat) (s : State) : Out :=
  .next (hostCmd h { anyone := true, recovery := true } badOpcode (.unassignedOpcode h opcode) s)

/-- The effect of a command on its data; none for what is not a command. -/
def effectOf (c : Instr) : Option Effect :=
  match c with
  | .ownClaim h => some (ownClaim h)
  | .ownRelease _ => some ownRelease
  | .ownHandover h target => some (ownHandover h target)
  | .ownAccept h => some (ownAccept h)
  | .chgCheck _ => some chgCheck
  | .chgApply h => some (chgApply h)
  | .chgDiscard _ => some chgDiscard
  | .graphLoad _ handle coll group => some (graphLoad handle coll group)
  | .graphRun h graph band comp binding => some (graphRun h graph band comp binding)
  | .graphAbort _ graph => some (graphAbort graph)
  | .graphDrop h graph => some (graphDrop h graph)
  | .objCreate _ kind size coll home place region entry aux => some (objCreate kind size coll home place region entry aux)
  | .objFree _ handle => some (objFree handle)
  | .objPromote h handle pos => some (migrate h handle pos false)
  | .objEvict h handle pos => some (migrate h handle pos true)
  | .objPlace _ handle place => some (objPlace handle place)
  | .objQuery _ handle => some (objQuery handle)
  | .fetchNack h fid => some (fetchNack h fid)
  | .caveOpen _ coll sets => some (caveOpen coll sets)
  | .caveWrite _ region entry count => some (caveWrite region entry count)
  | .caveSeal _ region => some (caveSeal region)
  | .caveRelease _ region => some (caveRelease region)
  | .caveSlice _ dur excl => some (caveSlice dur excl)
  | .caveScan _ mode => some (caveScan mode)
  | .tableLoad h => some (tableWrite h none)
  | .tableReplace h slot => some (tableWrite h (some slot))
  | .tableDrop _ slot => some (tableDrop slot)
  | .accService _ svc => some (accService svc)
  | .accStopset _ set => some (accStopset set)
  | .accSubmit h p => some (accSubmit h p)
  | .accCancel h a tag => some (accCancel h a tag)
  | .accSuspend _ a => some (accSuspend a)
  | .accResume _ a => some (accResume a)
  | .accHoldAll _ => some accHoldAll
  | .accResumeAll _ => some accResumeAll
  | .wgtLoad h handle fmt count stream whey widx => some (wgtLoad h handle fmt count stream whey widx)
  | .wgtExpect h handle objId fmt whey widx => some (wgtExpect h handle objId fmt whey widx)
  | .wgtBcast h group reader region entry mask => some (wgtBcast h group reader region entry mask)
  | .wgtGrant _ handle grantee => some (wgtGrant handle grantee)
  | .wgtRevoke _ handle grantee => some (wgtRevoke handle grantee)
  | .wgtReplace _ plan => some (wgtReplace plan)
  | .wgtResume _ plan => some (wgtResume plan)
  | .wgtAbandon _ => some wgtAbandon
  | .adpLoad _ slot handle => some (adpLoad slot handle)
  | .adpFree _ slot => some (adpFree slot)
  | .adpPublish _ train layout adapter => some (adpPublish train layout adapter)
  | .adpExport h handle => some (adpExport h handle)
  | .secCollOpen _ coll => some (secCollOpen coll)
  | .secKeyInstall _ coll => some (secKeyInstall coll)
  | .secCollClose h coll => some (secCollClose h coll)
  | .secFwStage _ => some secFwStage
  | .secFwDiscard _ => some secFwDiscard
  | .secFwCommit _ => some secFwCommit
  | .secLifecycle h => some (secLifecycle h)
  | .secDebugUnlock h => some (secDebugUnlock h)
  | .secDebugClose _ => some secDebugClose
  | .secCerts _ => some secCerts
  | .secDebugNonce _ => some secDebugNonce
  | .secAttest _ coll => some (secAttest coll)
  | .pwrShutdown _ => some pwrShutdown
  | .resetPackage h => some (resetPackage h)
  | .resetCluster h c => some (resetCluster h c)
  | .vatFence h v => some (vatFence h v)
  | .vatUnfence h v => some (vatUnfence h v)
  | .resetPort h p => some (resetPort h p)
  | .unassignedOpcode _ _ => some badOpcode
  | _ => none

/-- The outcome of a command; none for what is not a command. -/
def outcomeOf (c : Instr) (s : State) : Option Out :=
  match c with
  | .ownClaim h => some (execOwnClaim h s)
  | .ownRelease h => some (execOwnRelease h s)
  | .ownHandover h target => some (execOwnHandover h target s)
  | .ownAccept h => some (execOwnAccept h s)
  | .chgCheck h => some (execChgCheck h s)
  | .chgApply h => some (execChgApply h s)
  | .chgDiscard h => some (execChgDiscard h s)
  | .graphLoad h handle coll group => some (execGraphLoad h handle coll group s)
  | .graphRun h graph band comp binding => some (execGraphRun h graph band comp binding s)
  | .graphAbort h graph => some (execGraphAbort h graph s)
  | .graphDrop h graph => some (execGraphDrop h graph s)
  | .objCreate h kind size coll home place region entry aux => some (execObjCreate h kind size coll home place region entry aux s)
  | .objFree h handle => some (execObjFree h handle s)
  | .objPromote h handle pos => some (execObjPromote h handle pos s)
  | .objEvict h handle pos => some (execObjEvict h handle pos s)
  | .objPlace h handle place => some (execObjPlace h handle place s)
  | .objQuery h handle => some (execObjQuery h handle s)
  | .fetchNack h fid => some (execFetchNack h fid s)
  | .caveOpen h coll sets => some (execCaveOpen h coll sets s)
  | .caveWrite h region entry count => some (execCaveWrite h region entry count s)
  | .caveSeal h region => some (execCaveSeal h region s)
  | .caveRelease h region => some (execCaveRelease h region s)
  | .caveSlice h dur excl => some (execCaveSlice h dur excl s)
  | .caveScan h mode => some (execCaveScan h mode s)
  | .tableLoad h => some (execTableLoad h s)
  | .tableReplace h slot => some (execTableReplace h slot s)
  | .tableDrop h slot => some (execTableDrop h slot s)
  | .accService h svc => some (execAccService h svc s)
  | .accStopset h set => some (execAccStopset h set s)
  | .accSubmit h p => some (execAccSubmit h p s)
  | .accCancel h a tag => some (execAccCancel h a tag s)
  | .accSuspend h a => some (execAccSuspend h a s)
  | .accResume h a => some (execAccResume h a s)
  | .accHoldAll h => some (execAccHoldAll h s)
  | .accResumeAll h => some (execAccResumeAll h s)
  | .wgtLoad h handle fmt count stream whey widx => some (execWgtLoad h handle fmt count stream whey widx s)
  | .wgtExpect h handle objId fmt whey widx => some (execWgtExpect h handle objId fmt whey widx s)
  | .wgtBcast h group reader region entry mask => some (execWgtBcast h group reader region entry mask s)
  | .wgtGrant h handle grantee => some (execWgtGrant h handle grantee s)
  | .wgtRevoke h handle grantee => some (execWgtRevoke h handle grantee s)
  | .wgtReplace h plan => some (execWgtReplace h plan s)
  | .wgtResume h plan => some (execWgtResume h plan s)
  | .wgtAbandon h => some (execWgtAbandon h s)
  | .adpLoad h slot handle => some (execAdpLoad h slot handle s)
  | .adpFree h slot => some (execAdpFree h slot s)
  | .adpPublish h train layout adapter => some (execAdpPublish h train layout adapter s)
  | .adpExport h handle => some (execAdpExport h handle s)
  | .secCollOpen h coll => some (execSecCollOpen h coll s)
  | .secKeyInstall h coll => some (execSecKeyInstall h coll s)
  | .secCollClose h coll => some (execSecCollClose h coll s)
  | .secFwStage h => some (execSecFwStage h s)
  | .secFwDiscard h => some (execSecFwDiscard h s)
  | .secFwCommit h => some (execSecFwCommit h s)
  | .secLifecycle h => some (execSecLifecycle h s)
  | .secDebugUnlock h => some (execSecDebugUnlock h s)
  | .secDebugClose h => some (execSecDebugClose h s)
  | .secCerts h => some (execSecCerts h s)
  | .secDebugNonce h => some (execSecDebugNonce h s)
  | .secAttest h coll => some (execSecAttest h coll s)
  | .pwrShutdown h => some (execPwrShutdown h s)
  | .resetPackage h => some (execResetPackage h s)
  | .resetCluster h c => some (execResetCluster h c s)
  | .vatFence h v => some (execVatFence h v s)
  | .vatUnfence h v => some (execVatUnfence h v s)
  | .resetPort h p => some (execResetPort h p s)
  | .unassignedOpcode h op => some (execUnassignedOpcode h op s)
  | _ => none

/-- A command run. -/
def runCmd (c : Instr) (s : State) : State :=
  match outcomeOf c s with
  | some (.next t) => t
  | _ => s

end Sys2Proof.Machine
end

