-- ==== Sys2Proof/Machine/Host.lean ====
section
/-! DEFINITION. The USB link, command data, records sent, vendor requests, the management port and its bus (R561-R581, R587,
R588, R637). -/

namespace Sys2Proof.Machine

open Sys2Proof

/-! ## Command data (R570) -/

/-- The first command of a stream that waits for data. -/
def firstWaiting (p : Port) (stream : Nat) (s : State) : Option Outst :=
  (s.portq p).outst.find? fun o => o.waitData && o.stream == stream

/-- An outstanding command no longer waits for data. -/
def dataTaken (p : Port) (tag : Nat) (s : State) : State :=
  s.modPort p fun q => { q with outst := q.outst.map fun o =>
    if o.tag = tag ∧ o.fail.isNone then { o with waitData := false } else o }

/-- R569, R570: a refused command ends once its data have been taken, or are missing. -/
def endRefused (p : Port) (o : Outst) (f : Nat × Nat) (s : State) : State :=
  reply p o.tag o.stream (Ans.err f.1 f.2) (s.modPort p fun q => { q with outst := q.outst.erase o })

/-- R570: the commands of a stream take their data in the order of acceptance, each as soon as all of it is there. -/
def serveStream (p : Port) (stream : Nat) : Nat → State → State
  | 0, s => s
  | fuel + 1, s =>
    match firstWaiting p stream s with
    | none => s
    | some o =>
      if (streamBuf p stream s).length < o.dlen then s
      else
        let d := (streamBuf p stream s).take o.dlen
        let s := takeStream p stream o.dlen s
        serveStream p stream fuel (match o.fail with
          | some f => endRefused p o f s
          | none =>
            let s := dataTaken p o.tag s
            match effectOf o.cmd with
            | some eff => runEffect p o.tag eff d s
            | none => s)

/-- The USB link carries traffic: a host is attached, the link is not suspended and the package serves it. -/
def usbLive (s : State) : Bool := s.host.usb.attached && s.host.link != 0 && s.host.linkPm < 3 && s.pwr.pkg != 3

/-- R570: bytes arrive on a stream that carries command data. -/
def takeData (p : Port) (stream : Nat) (bs : Bytes) (s : State) : State :=
  let t := s.modPort p fun q => { q with sbuf := putBuf q.sbuf stream (tgetD q.sbuf stream [] ++ bs) }
  serveStream p stream (t.portq p).outst.length t

/-- R570: COMMAND_DATA; only USB has streams, and those enabled for fetches carry fetch answers. -/
def execCommandData (port : Port) (stream : Nat) (bytes : Bytes) (s : State) : Out :=
  .next (if port == .usb && usbLive s && !s.flt.fatal && (s.pkg.phase == .ready || s.pkg.phase == .recovery) &&
      1 ≤ stream && stream ≤ 32 && !bit (hostFetchStreams s) (stream - 1) then takeData port stream bytes s
    else s)

/-- R570: a command whose data have not arrived ends DATA; an accession entry held for it is FREE again, and the bytes that
have arrived for it are discarded. -/
def dataMissing (p : Port) (o : Outst) (s : State) : State :=
  let first := firstWaiting p o.stream s == some o
  let s := if first then s.modPort p fun q => { q with sbuf := terase q.sbuf o.stream } else s
  match o.fail with
  | some _ => endRefused p o (stDATA, 0) s
  | none =>
    answer p o.tag (Ans.err stDATA) (match s.acc.tab.find? fun e => e.2.arriving == 1 && e.2.port == p && e.2.tag == o.tag with
      | some e => freeAcc s e.1
      | none => s)

/-- R570: HOST_DATA_TMO_EXPIRY. -/
def execHostDataTmoExpiry (port : Port) (tag : Nat) (s : State) : Out :=
  .next (match (s.portq port).outst.find? fun o => o.tag == tag && o.waitData with
    | some o => if !s.flt.fatal then dataMissing port o s else s
    | none => s)

/-! ## Records sent (R571, R576, R579) -/

/-- R576: an event queue has room again: what was dropped is reported. -/
def reportLost (p : Port) (s : State) : State :=
  let n := (s.portq p).lostEv
  if n = 0 then s
  else pushEvt p (mkRec tyEVENT 0 evEVENTS_LOST (le4 n)) (s.modPort p fun q => { q with lostEv := 0 })

/-- The head of a port's record queue, or of its event queue, taken with its SEQ. -/
def popRec (p : Port) (isEvent : Bool) (s : State) : Option (Rec × State) :=
  let q := s.portq p
  if isEvent then
    q.evts.head?.map fun r => ({ r with seq := q.seq }, reportLost p (s.modPort p fun q =>
      { q with evts := q.evts.drop 1, seq := (q.seq + 1) % 2 ^ 32 }))
  else
    q.recs.head?.map fun r => ({ r with seq := q.seq }, s.modPort p fun q =>
      { q with recs := q.recs.drop 1, seq := (q.seq + 1) % 2 ^ 32 })

/-- R571, R594: a record sent on USB. -/
def sendUsb (isEvent : Bool) (s : State) : State :=
  match popRec .usb isEvent s with
  | none => s
  | some (r, t) =>
    let t := t.modPort .usb fun q => { q with sent := r :: q.sent }
    { t with host := { t.host with records := satAdd64 t.host.records 1 } }

/-- R576: RECORD_SEND on USB; the management port's records are read by MGT_REC and MGT_EVT, the fabric's go by CMD_REPLY. -/
def execRecordSend (port : Port) (isEvent : Bool) (s : State) : Out :=
  .next (if port == .usb && usbLive s && !s.flt.fatal && (s.pkg.phase == .ready || s.pkg.phase == .recovery) then
      sendUsb isEvent s
    else s)

/-! ## Vendor requests (R577, R578) -/

/-- R578: a request stalled. -/
def stall (s : State) : State := { s with host := { s.host with stalls := s.host.stalls + 1 } }

/-- R577: an address and a length that a request may name. -/
def rangeOK (addr len : Nat) : Bool :=
  addr % 4 == 0 && len % 4 == 0 && 4 ≤ len && len ≤ 4096 && addr / 4096 == (addr + len - 1) / 4096 && addr < 2 ^ 32

/-- R577: CS_READ. -/
def execCsRead (addr len : Nat) (s : State) : Out :=
  .next (if !usbLive s then s
    else if s.pkg.phase != .ready || !rangeOK addr len then stall s
    else { s with host := { s.host with csOut := readWords s addr (len / 4) :: s.host.csOut } })

/-- R577, R584: CS_WRITE. -/
def execCsWrite (addr : Nat) (words : List Nat) (s : State) : Out :=
  .next (if !usbLive s then s
    else if !serviceOn s || !rangeOK addr (4 * words.length) || s.host.owner != some .usb then stall s
    else writeWords .usb addr words s)

/-- R509, R577: SET_LAT_TOL. -/
def execSetLatTol (us : Nat) (s : State) : Out :=
  .next (if !usbLive s then s
    else if !serviceOn s || s.host.owner != some .usb then stall s
    else writeLatTol us s)

/-! ## The management port (R579, R580, R595) -/

/-- R579: a transfer reaches the management port: in SLEEP it is NACKed and wakes the package (R514). -/
def mgtAccess (f : State → State) (s : State) : State :=
  if !s.pkg.vio18 || s.host.hdr || s.pkg.phase != .ready then s
  else if s.pwr.pkg = 3 then wakePackage { s with host := { s.host with nacks := s.host.nacks + 1 } }
  else if s.host.mgt.attached then f s
  else s

/-- R579, R555: the command in MGT_CMD submitted; ignored during a fatal stop. -/
def submitMgt (s : State) : State :=
  if s.flt.fatal then s
  else runCmd (decodeRecord .mgt (mread s.host.mgtCmd 0 64) (mread s.host.mgtData 0 (min 8192 (mnum s.host.mgtCmd 8 4)))) s

/-- R579: MGT_DOORBELL. -/
def execMgtDoorbell (val : Nat) (s : State) : Out := .next (mgtAccess (onOne val submitMgt) s)

/-- R579, R595: the head of a management queue read and removed; an empty queue reads 0. -/
def readMgt (isEvent : Bool) (s : State) : State :=
  match (if s.flt.fatal then none else popRec .mgt isEvent s) with
  | some (r, t) => { t with host := { t.host with mgtOut := r :: t.host.mgtOut } }
  | none => { s with host := { s.host with mgtOut := default :: s.host.mgtOut } }

/-- R579: MGT_REC. -/
def execMgtRec (s : State) : Out := .next (mgtAccess (readMgt false) s)

/-- R579: MGT_EVT. -/
def execMgtEvt (s : State) : Out := .next (mgtAccess (readMgt true) s)

/-- R587: MGT_OWNERSHIP_LAPSE. -/
def execMgtOwnershipLapse (s : State) : Out :=
  .next (if serviceOn s && s.host.owner == some .mgt then loseOwner s else s)

/-- R578, R595: REGISTER_WRITE. -/
def execRegisterWrite (port : Port) (addr val : Nat) (s : State) : Out :=
  .next (match port with
    | .mgt => mgtAccess (if addr = 0xB0008 then onOne val submitMgt else writeWord .mgt addr val) s
    | p => writeWord p addr val s)

/-! ## The I3C bus (R637) -/

/-- The management port follows the bus now. -/
def busOn (s : State) : Bool := s.pkg.vio18 && s.pkg.phase == .ready && s.pwr.pkg != 3

/-- R637: a dynamic address given to a port that has none. -/
def giveAddress (addr : Nat) (s : State) : State :=
  if s.host.dynAddr.isNone && addr < 128 then { s with host := { s.host with dynAddr := some addr } } else s

/-- R637: ENTDAA. -/
def execEntdaa (addr : Nat) (s : State) : Out := .next (if busOn s && !s.host.hdr then giveAddress addr s else s)

/-- R637: SETDASA, on MGT_SADDR; in SLEEP it is a transfer to the port's address. -/
def execSetdasa (addr : Nat) (s : State) : Out := .next (mgtAccess (giveAddress addr) s)

/-- R637: RSTDAA. -/
def execRstdaa (s : State) : Out :=
  .next (if busOn s && !s.host.hdr then { s with host := { s.host with dynAddr := none } } else s)

/-- R637: HDR_ENTRY. -/
def execHdrEntry (s : State) : Out := .next (if busOn s then { s with host := { s.host with hdr := true } } else s)

/-- R637: HDR_EXIT_PATTERN. -/
def execHdrExitPattern (s : State) : Out := .next (if busOn s then { s with host := { s.host with hdr := false } } else s)

/-! ## The USB link (R561, R587, R588, R601) -/

/-- R561: the device connects once hub firmware, or the boot ROM in recovery, runs. -/
def usbConnects (s : State) : Bool :=
  !s.flt.fatal && (s.pkg.phase == .ready || s.pkg.phase == .recovery || s.pkg.phase == .booting || s.pkg.phase == .stuck)

/-- R514: the package wakes from SLEEP, where it serves. -/
def wakeReady (s : State) : State := if serviceOn s && s.pwr.pkg == 3 then wakePackage s else s

/-- A hexadecimal digit in upper case. -/
def hexDigit (n : Nat) : Byte := BitVec.ofNat 8 (if n < 10 then 48 + n else 55 + n)

/-- R562: the iSerialNumber string: bytes 0 to 15 of SEC_SERIAL, two digits each, the high one first. -/
def serialString (s : State) : Bytes :=
  ((s.part.serial.flatMap le4).take 16).flatMap fun b => [hexDigit (b.toNat / 16), hexDigit (b.toNat % 16)]

/-- R562, R563: the descriptors. -/
def usbDesc (s : State) : UsbDesc :=
  { bcdUsb := 0x0320, devClass := 0, vendor := bits s.part.usbIds 15 0, product := bits s.part.usbIds 31 16
    bcdDevice := s.sec.svn.getD s.sec.running 0, serial := serialString s, selfPowered := true, remoteWake := true
    maxPower := 0, lpm := true, u1 := 4, u2 := 400, plus := true, ifClass := (0xFF, 0x49)
    ends := [⟨0, 0x01, false, 0⟩, ⟨0, 0x81, false, 0⟩, ⟨0, 0x82, true, 0⟩, ⟨1, 0x03, false, 32⟩, ⟨1, 0x83, false, 32⟩] }

/-- R565: the link power states that the device requests, U1 and U2: each only while PWR_LAT_TOL exceeds its exit latency. -/
def linkRequests (s : State) : Bool × Bool :=
  (usbLive s && (usbDesc s).u1 < s.pwr.latTol, usbLive s && (usbDesc s).u2 < s.pwr.latTol)

/-- R561, R594, R601: the device is enumerated at a link speed; in recovery the port becomes owner without an election. -/
def attachUsb (link : Nat) (s : State) : State :=
  let s := wakeReady { s with host := { s.host with
    link := link, desc := some (usbDesc s), linkPm := 0, configured := true, usb := { s.host.usb with attached := true } } }
  if s.pkg.phase = .recovery then { s with host := { s.host with owner := some .usb, ownState := 2 } } else s

/-- R561: USB_ATTACH. -/
def execUsbAttach (link : Nat) (s : State) : Out :=
  .next (
    let s := { s with pkg := { s.pkg with vbus := true } }
    if 1 ≤ link && link ≤ 4 && s.host.link == 0 && usbConnects s then attachUsb link s else s)

/-- R386, R588: every accession submitted through USB ends CANCELLED, reason CANCEL; one whose step is in flight, when the
step commits or ends. -/
def cancelUsb (s : State) : State :=
  (s.acc.tab.filter fun e => e.2.port == .usb).foldl (fun t e =>
    if e.2.instep then modAcc t e.1 fun x => { x with gone := true } else
    let t := if e.2.arriving = 2 then modAcc t e.1 fun x => { x with arriving := 0, state := asQUEUED } else t
    endAcc t e.1 ocCANCELLED rsCANCEL) s

/-- R588: the records and events queued for USB, and its stream data, discarded. -/
def discardUsb (s : State) : State :=
  let n := s.host.usb.recs.length + s.host.usb.evts.length
  { s with host := { s.host with
    discarded := satAdd32 s.host.discarded n
    usb := { s.host.usb with attached := false, recs := [], evts := [], lostEv := 0, sbuf := [] } } }

/-- R278, R588: what USB leaves behind when it detaches from a package that serves. -/
def leaveUsb (s : State) : State :=
  let s := cancelUsb (discardUsb s)
  let s := s.obj.fetches.foldl failFetch s
  lapse .usb (retryLoads s)

/-- R588: the link is down. -/
def detachUsb (s : State) : State :=
  let s := { s with host := { s.host with link := 0, linkPm := 0, configured := false } }
  if !s.host.usb.attached then s
  else if serviceOn s then leaveUsb s
  else
    let s := discardUsb s
    if s.pkg.phase = .recovery then { s with host := { s.host with owner := none, ownState := 0 } } else s

/-- R588: USB_DETACH. -/
def execUsbDetach (s : State) : Out := .next (detachUsb { s with pkg := { s.pkg with vbus := false } })

/-- R587: USB_BUS_RESET. -/
def execUsbBusReset (s : State) : Out :=
  .next (if s.host.link = 0 then s
    else
      let s := wakeReady { s with host := { s.host with linkPm := 0 } }
      if serviceOn s then lapse .usb s else s)

/-- R512: USB_SUSPEND: U3, or USB 2.0 suspend. -/
def execUsbSuspend (s : State) : Out :=
  .next (if s.host.link = 0 then s else { s with host := { s.host with linkPm := if s.host.link = 1 then 5 else 3 } })

/-- R514: USB_RESUME. -/
def execUsbResume (s : State) : Out :=
  .next (if s.host.link = 0 then s else wakeReady { s with host := { s.host with linkPm := 0 } })

end Sys2Proof.Machine
end

