-- ==== Sys2Proof/Machine/Startup.lean ====
section
/-! DEFINITION. Supplies, resets by pin, the cold start and the boot (R477, R478, R596-R601, R603, R621, R624-R635), the thermal
trip (R641) and boundary scan (R614). -/

namespace Sys2Proof.Machine

open Sys2Proof

/-- The package's boot state changed. -/
def modPkg (s : State) (f : Pkg → Pkg) : State := { s with pkg := f s.pkg }

/-! ## The pins (R603, R621, R634, R635) -/

/-- R603, R634: RESET_N as the package takes it goes low: a warm reset, a wake of a package that is OFF, or nothing yet where a
cold start has not reached step 3. -/
def takeResetLow (s : State) : State :=
  if !s.pkg.vstby then s
  else
    match s.pkg.phase with
    | .unpowered | .tripped | .starting | .held => s
    | .off => coldReset 5 false s
    | _ =>
      let t := hubReset s false
      modPkg t fun p => { p with phase := .held, cause := 2, cntWarm := satAdd32 p.cntWarm 1 }

/-- R599, R603: RESET_N as the package takes it rises: a held reset goes on with the mode that the straps give. -/
def takeResetHigh (strap : Nat) (s : State) : State :=
  let s := modPkg s fun p => { p with chainDrives := false, highz := false }
  if s.pkg.phase = .held then modPkg s fun p => { p with phase := .booting, step := 3, strap := strap % 4, mode := bootMode s strap }
  else s

/-- R603: RESET_N. -/
def execResetN (s : State) : Out :=
  .next (if s.pkg.resetLow then s
    else
      let t := if s.pkg.vio18 then takeResetLow s else s
      modPkg t fun p => { p with resetLow := true })

/-- R603, R634: RESET_N_RISING_EDGE, with BOOT_MODE as it is then. -/
def execResetNRisingEdge (strap : Nat) (s : State) : Out :=
  .next (if !s.pkg.resetLow then s
    else
      let s := modPkg s fun p => { p with resetLow := false, straps := strap % 4 }
      if s.pkg.vio18 then takeResetHigh strap s else s)

/-- R621: VIO18_LOSS: the inputs are taken at fixed values, RESET_N inactive, BOOT_MODE 0 and COOLANT_OK low. -/
def execVio18Loss (s : State) : Out :=
  .next (if !s.pkg.vio18 then s
    else
      let s := modPwr (modPkg s fun p => { p with vio18 := false }) fun p => { p with coolOk := false }
      if s.pkg.resetLow then takeResetHigh 0 s else s)

/-- R621: VIO18_RETURN: the inputs are taken from their balls again. -/
def execVio18Return (s : State) : Out :=
  .next (if s.pkg.vio18 then s
    else
      let s := modPkg s fun p => { p with vio18 := true }
      if s.pkg.resetLow then takeResetLow s else s)

/-- R635: WAKE_N_DRIVE_END: the pin is sensed again; still low, it is a host wake. -/
def execWakeNDriveEnd (low : Bool) (s : State) : Out :=
  .next (if s.pkg.wakeDriven then
      let s := modPkg s fun p => { p with wakeDriven := false }
      if low then hostWake s else s
    else s)

/-! ## Supplies (R596, R624, R626) -/

/-- R596: VSTBY_VALID. -/
def execVstbyValid (s : State) : Out :=
  .next (if s.pkg.vstby then s
    else modPkg (coldReset 0 true (modPkg s fun p => { p with vstby := true })) fun p =>
      { p with strap := 0, mode := 0, afterFatal := false, offCause := 0, alert := [] })

/-- R626: VSTBY_INVALID; the trip is released (R641). -/
def execVstbyInvalid (s : State) : Out :=
  .next (if !s.pkg.vstby then s
    else modPkg (keepSequence 0 s) fun p =>
      { p with
        phase := .unpowered, vstby := false, tripPin := false, alert := [], wakeDriven := false, chgLost := false, ir := 1,
        chainDrives := false, highz := false })

/-- R596: VIN_FIRST_AT_6V. -/
def execVinFirstAt6v (s : State) : Out :=
  .next (if s.pkg.vin6 || !(s.pkg.phase == .unpowered || s.pkg.phase == .starting) then s
    else advance (modPwr (modPkg s fun p => { p with vin6 := true }) fun p => { p with vin := 6000 + drawn s % 14001 }))

/-- R641: THERMAL_TRIP: no keep record; the fatal record stays. -/
def execThermalTrip (sensor temp : Nat) (s : State) : Out :=
  .next (if temp < 115 || 12 < sensor || !aonOn s then s
    else
      let t := modPwr (dropAll s) fun p => { p with temp := p.temp.set sensor (min temp 255) }
      modPkg t fun p => { p with phase := .tripped, tripPin := true, alert := 2 :: s.pkg.alert.filter (· == 0) })

/-! ## Steps 3 to 5: slot, measurements (R475, R477, R478) -/

/-- R477, R478: the bundle in a slot is accepted; of a slot that holds nothing received here the boot reports it. -/
def slotAccepted (s : State) (b : BootOut) (i : Nat) : Bool :=
  match s.sec.slots.getD i [] with
  | [] => if i = 0 then b.slotA else b.slotB
  | img => bundleOK s.sec img

/-- R478: the slot that is run: the staged one, or else the active one, is tried first. -/
def chooseSlot (s : State) (b : BootOut) : Option Nat :=
  let first := if s.sec.staged then 1 - s.sec.active else s.sec.active
  if slotAccepted s b first then some first else if slotAccepted s b (1 - first) then some (1 - first) else none

/-- R471, R475: the OTP fields other than the UDS, as they are measured. -/
def otpBytes (s : State) : Bytes :=
  let auth (a : Nat) : Bytes := match Config.debugAuth a with
    | some d => d.1 ++ d.2
    | none => zeros 96
  leBytes 1 s.sec.lifecycle ++ leBytes 1 s.sec.rollback ++ Config.devSigner.1 ++ Config.devSigner.2 ++ auth 0 ++ auth 1 ++
    le4 s.part.usbIds ++ leBytes 1 s.part.fabId ++ leBytes 1 s.part.ownPrio

/-- R475: the measurements of the four stages of slot `i`; the images of a slot that holds nothing received here are not
known. -/
def measure (i : Nat) (s : State) : State :=
  let img := s.sec.slots.getD i []
  let stage (k : Nat) : Bytes := if img.isEmpty then freeBytes { s with fresh := s.fresh + 48 * k } 48 else Config.sha384 (bundleImage img k)
  modSec { s with fresh := s.fresh + 144 } fun x =>
    { x with running := i, meas := [stage 0, stage 1, stage 2, Config.sha384 (otpBytes s)] }

/-- R601: recovery: a host that is attached is the owner without an election. -/
def enterRecovery (s : State) : State :=
  let s := modPkg s fun p => { p with phase := .recovery, step := 4 }
  if s.host.usb.attached then { s with host := { s.host with owner := some .usb, ownState := 2 } } else s

/-- R598: the package cannot reach READY. -/
def getStuck (step : Nat) (s : State) : State :=
  modPkg s fun p => { p with phase := .stuck, step := step, alert := if p.alert.contains 0 then p.alert else 0 :: p.alert }

/-! ## Steps 6 to 10 (R315, R531, R596, R597) -/

/-- R315, R531: a keep record verifies. -/
def keepFound (s : State) (b : BootOut) : Bool := b.keepOk && s.pwr.keepSeq != 0

/-- R300, R315: the read counters after the mount: those of the newest keep record, or of the checkpoint where it is newer,
with what the journal holds after them; where that record is absent or fails its CRC, the checkpointed values plus 10 % of
CAVE_RD_LIMIT. A reset that keeps the firmware reserve (R607) has kept them. -/
def mountReads (s : State) (kept : Bool) (c : Cave) : Cave :=
  if !kept then c.loadReads c.ckpt c.ckptBase 0 (s.part.rdLimit / 10)
  else if !s.pkg.cold then c
  else
    match c.keepMark with
    | some m => c.loadReads s.pwr.keepReads s.pwr.keepBase m 0
    | none => c.loadReads c.ckpt c.ckptBase 0 0

/-- R295, R315: a region that was WRITING becomes ABANDONED. -/
def abandonRegions (c : Cave) : Cave :=
  (c.regions.filter fun e => e.2.state == 1).foldl (fun c e => c.note (.region e.1 4))
    { c with regions := c.regions.map fun e => (e.1, { e.2 with state := if e.2.state = 1 then 4 else e.2.state }) }

/-- R288, R302, R315, R487: the cave mounted: its counters restored, the increase of the epoch journaled, the regions that
were WRITING abandoned, 128 erased record stripes there, and the blocks that are due queued for relocation. -/
def mountCave (b : BootOut) (s : State) : State :=
  let kept := keepFound s b
  let s := modCave s fun c =>
    abandonRegions ({ mountReads s kept c.keepRoom with
      mode := if s.testMode then 4 else 2, mounted := true, keepFound := kept }.note (.epoch s.sec.epochPkg))
  modSec (queueWorn s) fun x => { x with epochDurable := true }

/-- R597: a unit whose self-test failed in step 8 is fenced, its fence logged. -/
def bootFence (s : State) (u : Nat × Nat) : State :=
  if s.isFenced u.1 u.2 then s
  else (pushLog { mkDet u.1 u.2 mechSELF_TEST actFENCED with tick := s.tick } 0 (fenceUnit s u.1 u.2)).2

/-- R596 step 8: the units whose self-tests run. -/
def selfTested (u : Nat × Nat) : Bool :=
  (u.1 == siteVAT && u.2 < 16) || (u.1 == siteTURNER && u.2 < 64) || (u.1 == siteDMA && u.2 < 16) || (u.1 == siteCLUSTER && u.2 < 8)

/-- R556, R559: the log index that follows the newest entry. -/
def logNext (log : Tab Bytes) : Nat :=
  match argMin (fun e : Nat × Bytes => 2 ^ 32 - bnum e.2 0 4) log with
  | some e => (e.1 + 1) % 256
  | none => 0

/-- R531, R607: the fault log and the energy counters of the keep record, at a cold start. -/
def restoreKeep (s : State) : State :=
  let n (i : Nat) : Nat := s.pwr.keepNrg.getD i 0
  { s with
    flt := { s.flt with log := s.pwr.keepLog, head := logNext s.pwr.keepLog }
    pwr := { s.pwr with
      nrgColl := (List.range 64).foldl (fun t c => nset t c (n c)) [], nrgBand := (List.range 4).foldl (fun t c => nset t c (n (64 + c))) [],
      nrgUn := n 68, nrgTotal := n 69 } }

/-- R531: a resume record: index, COLL, STATE, TAG, committed length, GEN. -/
def resumeBytes (r : List Nat) : Bytes :=
  leBytes 2 (r.getD 0 0) ++ leBytes 1 (r.getD 1 0) ++ leBytes 1 (r.getD 2 0) ++ le4 (r.getD 3 0) ++ le4 (r.getD 4 0) ++ le4 (r.getD 5 0)

/-- The events that a package owes when it reaches READY (R478, R515, R531, R592). -/
def readyEvents (kept xtal : Bool) (s : State) : State :=
  let s := if kept then s.pwr.keepAcc.foldl (fun t r => sendEvent evKEEP_REPORT (resumeBytes r) t) s else s
  let s := if xtal then s else sendEvent evXTAL_FAIL [] s
  let s := if s.pkg.cause = 4 then sendEvent evFW_FALLBACK [] s else s
  if s.pkg.chgLost then sendEvent evCHG_DISCARDED [] (modPkg s fun p => { p with chgLost := false }) else s

/-- R478, R597, R583: READY. -/
def reachReady (b : BootOut) (s : State) : State :=
  let kept := s.pkg.cold && keepFound s b
  let s := if kept then restoreKeep s else s
  let s := modPwr s fun p => if s.pkg.cold then { p with xt32 := b.xtal, onRc := !b.xtal } else p
  let s := modSec s fun x => if x.staged && x.running != x.active then { x with active := x.running, staged := false } else x
  let s := modPkg s fun p => { p with phase := .ready, step := 10, ms := min 2047 b.msToReady }
  let s := { s with host := { s.host with
    mgt := { s.host.mgt with attached := true }, fabric := { s.host.fabric with attached := true } } }
  takeAuto (askSlices (readyEvents kept (!s.pkg.cold || b.xtal) (openElection s)))

/-- R596 steps 6 to 10, with the failures of R598. -/
def bootOn (b : BootOut) (s : State) : State :=
  if s.pkg.cold && !b.trained then getStuck 6 s
  else if !b.mounted then getStuck 6 (modCave s fun c => { c with mode := 1 })
  else
    let t := (b.failed.filter selfTested).foldl bootFence (mountCave b s)
    if noneLeft t then getStuck 8 t
    else if s.sec.staged && s.sec.running != s.sec.active && 1500 < b.msToReady then modPkg t fun p => { p with step := 9 }
    else reachReady b t

/-- R596 step 3 on. -/
def boot (b : BootOut) (s : State) : State :=
  let s := if s.pkg.phase = .starting then
      let straps := if s.pkg.vio18 then s.pkg.straps else 0
      modPkg s fun p => { p with strap := straps, mode := bootMode s straps }
    else s
  let s := modPkg s fun p => { p with phase := .booting }
  if s.pkg.mode = 3 ∧ s.pkg.step = 5 then bootOn b s
  else if s.pkg.mode = 1 then enterRecovery s
  else
    match chooseSlot s b with
    | none => enterRecovery s
    | some i =>
      let s := modPkg (measure i s) fun p => { p with step := 5 }
      if s.pkg.mode = 3 then modPkg s fun p => { p with phase := .monHold } else bootOn b s

/-- R596: COLD_START: the steps from step 3 to READY, recovery, a hold or a stop, of a cold start or of a reset that restarts
the root. -/
def execColdStart (b : BootOut) (s : State) : Out :=
  .next (if s.pkg.vstby && s.pkg.vin6 &&
      (s.pkg.phase == .booting || (s.pkg.phase == .starting && !(s.pkg.resetLow && s.pkg.vio18))) then boot b s
    else s)

/-! ## Boundary scan (R614) -/

/-- R614: the TAP works. -/
def tapOn (s : State) : Bool := s.pkg.vstby && s.pkg.vio18

/-- R614: an instruction that takes effect only while RESET_N is low. -/
def tapWhileLow (ir : Nat) (chain highz : Bool) (s : State) : State :=
  if !tapOn s then s
  else modPkg s fun p => { p with ir := ir, chainDrives := chain && p.resetLow, highz := highz && p.resetLow, tdr := 0 }

/-- An instruction that leaves the pins to the package. -/
def tapPlain (ir tdr : Nat) (s : State) : State :=
  if !tapOn s then s else modPkg s fun p => { p with ir := ir, chainDrives := false, highz := false, tdr := tdr }

/-- R614: BYPASS. -/
def execBypass (s : State) : Out := .next (tapPlain 0 0 s)

/-- R614: what IDCODE reads; the revision and the manufacturer field are not the manual's. -/
def idcodeWord : BitVec 32 := Config.idcodeFields.1 ++ 0x2400#16 ++ Config.idcodeFields.2 ++ 1#1

/-- R614: IDCODE. -/
def execIdcode (s : State) : Out := .next (tapPlain 1 idcodeWord.toNat s)

/-- R614: SAMPLE/PRELOAD: the chain is loaded. -/
def execSamplePreload (chain : List Bool) (s : State) : Out :=
  .next (if tapOn s then modPkg (tapPlain 2 0 s) fun p => { p with chain := chain } else s)

/-- R614: EXTEST. -/
def execExtest (s : State) : Out := .next (tapWhileLow 3 true false s)

/-- R614: CLAMP. -/
def execClamp (s : State) : Out := .next (tapWhileLow 4 true false s)

/-- R614: HIGHZ. -/
def execHighz (s : State) : Out := .next (tapWhileLow 5 false true s)

end Sys2Proof.Machine
end

