-- ==== Sys2Proof/Machine/Monitor.lean ====
section
/-! DEFINITION. The Yilrad monitor (R609-R613). A row is one whole line received; the reply is the status and the numbers that its
data lines show. -/

namespace Sys2Proof.Machine

open Sys2Proof

/-! ## Sessions (R609, R613) -/

/-- R598, R599, R601, R613, R621: the monitor receives and answers lines. -/
def monOn (s : State) : Bool :=
  s.pkg.vio18 && s.pwr.pkg != 3 &&
    (s.pkg.phase == .ready || s.pkg.phase == .recovery || s.pkg.phase == .monHold || s.pkg.phase == .stuck)

/-- R609: the first character opens a session at D1. -/
def openSession (s : State) : State :=
  let s := { s with mon := { s.mon with session := true } }
  modSec s fun x => { x with level := max 1 x.level }

/-- R609, R587: the session ends. A D2 session that a token opened goes on until R496 closes it. -/
def endSession (s : State) : State :=
  let s := { s with mon := { s.mon with session := false, trace := false, unlocking := false } }
  let s := modSec s fun x => if x.level = 1 then { x with level := 0 } else x
  if serviceOn s then lapse .monitor s else s

/-- R613: the commands answered during a fatal stop. -/
def fatalWord (w : String) : Bool := w == "help" || w == "id" || w == "state" || w == "faults" || w == "log"

/-- R610, R611, R613: a command line: BUSY during a fatal stop, DENIED below the level it asks for, ERROR for arguments out of
range. -/
def monCmd (w : String) (d2 ok : Bool) (f : State → State) (s : State) : State :=
  if !monOn s then s
  else
    let s := openSession s
    let s := { s with mon := { s.mon with unlocking := false } }
    if s.flt.fatal && !fatalWord w then monSay 3 w [] s
    else if d2 && s.sec.level != 2 then monSay 2 w [] s
    else if !ok then monSay 1 w [] s
    else f s

/-- R609: MONITOR_SESSION_TIMEOUT. -/
def execMonitorSessionTimeout (s : State) : Out := .next (if s.mon.session then endSession s else s)

/-- R613: WAKE_CHARACTER. -/
def execWakeCharacter (s : State) : Out :=
  .next (if s.pkg.vio18 && serviceOn s && s.pwr.pkg == 3 then monSay 0 "wake" [] (wakePackage s) else s)

/-! ## Observing (R611) -/

/-- R611: the commands in the order of the rule, each with the debug level it asks for. -/
def monWords : List (String × Nat) :=
  [("help", 1), ("id", 1), ("state", 1), ("votes", 1), ("throttle", 1), ("energy", 1), ("faults", 1), ("log", 1),
   ("trace on, trace off", 1), ("trace halt, trace step, trace go", 2), ("peek", 2), ("poke", 2), ("dump", 2), ("claim", 1),
   ("release", 1), ("unlock", 1), ("wake", 1)]

/-- R611: the commands that a level allows, by their places in the rule's list. -/
def allowedWords (level : Nat) : List Nat := (monWords.zipIdx.filter fun e => e.1.2 ≤ level).map (·.2)

/-- R611: HELP. -/
def execHelp (s : State) : Out := .next (monCmd "help" false true (fun s => monSay 0 "help" (allowedWords s.sec.level) s) s)

/-- R611: the ID block, SVN, slot, lifecycle, FAB_ID and serial. -/
def idData (s : State) : List Nat :=
  (idWords s).map (·.2) ++ [s.sec.svn.getD s.sec.running 0, s.sec.running, s.sec.lifecycle, fabId s] ++ s.part.serial

/-- R611: ID. -/
def execId (s : State) : Out := .next (monCmd "id" false true (fun s => monSay 0 "id" (idData s) s) s)

/-- R611: package state, boot mode, READY, owner, change-set state, debug level, fenced count. -/
def stateData (s : State) : List Nat :=
  [s.pwr.pkg, s.pkg.mode, b2n (s.pkg.phase == .ready), portCode s.host.owner, chgStatus s % 4, s.sec.level, fencedCount s]

/-- R611: STATE. -/
def execState (s : State) : Out := .next (monCmd "state" false true (fun s => monSay 0 "state" (stateData s) s) s)

/-- R611: PWR_VOTE_d and PWR_DSTAT_d. -/
def voteData (s : State) (d : Nat) : List Nat := [votesOf s d, domState s d + 16 * nget s.pwr.refuser d]

/-- R611: VOTES. -/
def execVotes (d : Option Nat) (s : State) : Out :=
  .next (monCmd "votes" false (d.all fun d => d < 80) (fun s =>
    monSay 0 "votes" (match d with
      | some d => voteData s d
      | none => (List.range 80).flatMap (voteData s)) s) s)

/-- R611: THROTTLE. -/
def execThrottle (s : State) : Out :=
  .next (monCmd "throttle" false true (fun s => monSay 0 "throttle" ((thrWords s).map (·.2)) s) s)

/-- R611: ENERGY. -/
def execEnergy (s : State) : Out :=
  .next (monCmd "energy" false true (fun s => monSay 0 "energy" ((nrgWords s).map (·.2)) s) s)

/-- R15, R611: a unit as a dotted path, with its site: package, cluster (0xFF where the unit lies in none), unit. -/
def dottedPath (s : State) (site unit : Nat) : List Nat := [site, fabId s, clusterOfUnit site unit, unit]

/-- R611: the fields of FLT_STATUS, the fenced count, and every fenced unit as a dotted path. -/
def faultData (s : State) : List Nat :=
  [s.flt.queue.length, b2n s.flt.fatal, b2n (!s.flt.recovering.isEmpty), fencedCount s] ++
    s.flt.fenced.flatMap fun f => dottedPath s f.1 f.2

/-- R611: FAULTS. -/
def execFaults (s : State) : Out := .next (monCmd "faults" false true (fun s => monSay 0 "faults" (faultData s) s) s)

/-- R611: the newest `n` entries of the fault log, newest first. -/
def newestLog (s : State) (n : Nat) : List Bytes :=
  (List.range n).filterMap fun i => tget s.flt.log ((s.flt.head + 255 - i) % 256)

/-- R611: LOG. -/
def execLog (n : Nat) (s : State) : Out :=
  .next (monCmd "log" false (1 ≤ n && n ≤ 256) (fun s =>
    monSay 0 "log" ((newestLog s n).flatMap fun b => b.map BitVec.toNat) s) s)

/-- R611: trace on and off. -/
def setTrace (on : Bool) (s : State) : State := monSay 0 "trace" [] { s with mon := { s.mon with trace := on } }

/-- R611: TRACE_ON. -/
def execTraceOn (s : State) : Out := .next (monCmd "trace" false true (setTrace true) s)

/-- R611: TRACE_OFF. -/
def execTraceOff (s : State) : Out := .next (monCmd "trace" false true (setTrace false) s)

/-! ## Turners (R611, R612) -/

/-- R537, R612: a halt or a poke ends the guarantee. -/
def notePoke (s : State) : State := modFlt s fun f => { f with poked := true }

/-- R612: TRACE_HALT. -/
def execTraceHalt (t : Nat) (s : State) : Out :=
  .next (monCmd "trace" true (t < 64) (fun s =>
    monSay 0 "trace" [] (notePoke (s.modTrn t fun x => { x with halted := true }))) s)

/-- R611: TRACE_GO. -/
def execTraceGo (t : Nat) (s : State) : Out :=
  .next (monCmd "trace" true (t < 64) (fun s => monSay 0 "trace" [] (trnProceed (s.modTrn t fun x => { x with halted := false }) t)) s)

/-- A turner instruction executed. -/
def runTrn (c : Instr) (s : State) : Out :=
  match c with
  | .int t f => execInt t f s
  | .addi t f => execAddi t f s
  | .andi t f => execAndi t f s
  | .ori t f => execOri t f s
  | .xori t f => execXori t f s
  | .shli t f => execShli t f s
  | .shri t f => execShri t f s
  | .srai t f => execSrai t f s
  | .slti t f => execSlti t f s
  | .lsh15 t f => execLsh15 t f s
  | .beq t f => execBeq t f s
  | .bne t f => execBne t f s
  | .blt t f => execBlt t f s
  | .bge t f => execBge t f s
  | .bltu t f => execBltu t f s
  | .bgeu t f => execBgeu t f s
  | .jmp t f => execJmp t f s
  | .jmpr t f => execJmpr t f s
  | .ld t f => execLd t f s
  | .ldu t f => execLdu t f s
  | .st t f => execSt t f s
  | .vld t f => execVld t f s
  | .vst t f => execVst t f s
  | .vstm t f => execVstm t f s
  | .vldb t f => execVldb t f s
  | .varith t f => execVarith t f s
  | .vsarith t f => execVsarith t f s
  | .vcmp t f => execVcmp t f s
  | .vfma t f => execVfma t f s
  | .vcvt t f => execVcvt t f s
  | .vmove t f => execVmove t f s
  | .vred t f => execVred t f s
  | .vquant t f => execVquant t f s
  | .vspec t f => execVspec t f s
  | .vsel t f => execVsel t f s
  | .vrand t f => execVrand t f s
  | .vissue t f => execVissue t f s
  | .dissue t f => execDissue t f s
  | .swait t f => execSwait t f s
  | .ssig t f => execSsig t f s
  | .spoll t f => execSpoll t f s
  | .tend t f => execTend t f s
  | .tyield t f => execTyield t f s
  | .trap t f => execTrap t f s
  | .sysr t f => execSysr t f s
  | .trnIllegal t w => execTrnIllegal t w s
  | _ => .next s

/-- R198: the word of the native body at the turner's program counter; none past its end. -/
def wordAtPc (s : State) (t : Nat) : Option (BitVec 32) :=
  ((s.trn t).bound.bind (kernelOf s)).bind fun n =>
    if n.len < (s.trn t).pc.toNat + 4 then none
    else some (BitVec.ofNat 32 (mnum (s.nearOf (clusterOfTrn t)) (n.base + (s.trn t).pc.toNat) 4))

/-- R611: a halted turner executes the one instruction at its program counter. -/
def stepTurner (t : Nat) (s : State) : State :=
  let u := s.modTrn t fun x => { x with halted := false }
  let u := match wordAtPc s t with
    | some w =>
      match runTrn (decodeTrn t w) u with
      | .next v => v
      | _ => u
    | none =>
      match (s.trn t).bound with
      | some k => trnExc u t k xTRN_ADDR
      | none => u
  u.modTrn t fun x => { x with halted := true }

/-- R611: TRACE_STEP; a turner that is not halted is an error, one that has nothing to execute answers BUSY. -/
def execTraceStep (t : Nat) (s : State) : Out :=
  .next (monCmd "trace" true (t < 64 && (s.trn t).halted) (fun s =>
    if trnReady (s.modTrn t fun x => { x with halted := false }) t then monSay 0 "trace" [] (stepTurner t s)
    else monSay 3 "trace" [] s) s)

/-! ## Peek, poke, dump (R611) -/

/-- R242: the object whose range covers `n` bytes from a device address, with a copy in near store or main store, and the offset. -/
def devObject (s : State) (a n : Nat) : Option (Nat × Obj × Nat) :=
  (s.obj.tab.find? fun e => e.2.devBase ≤ a && a + n ≤ e.2.devBase + e.2.size && (copyOf s e.2).isSome).map fun e =>
    (e.1, e.2, a - e.2.devBase)

/-- The bytes at device addresses. -/
def devRead (s : State) (a n : Nat) : Option Bytes := (devObject s a n).bind fun x => objRead s x.2.1 x.2.2 n

/-- Words of four bytes. -/
def wordsOf (b : Bytes) : List Nat := (List.range (b.length / 4)).map fun i => bnum b (4 * i) 4

/-- R611: PEEK_CS. -/
def execPeekCs (a n : Nat) (s : State) : Out :=
  .next (monCmd "peek" true (a % 4 == 0 && 1 ≤ n && n ≤ 64) (fun s => monSay 0 "peek" (readWords s a n) s) s)

/-- R611: PEEK_DEV; an address that no object with a copy covers is an error. -/
def execPeekDev (a n : Nat) (s : State) : Out :=
  .next (monCmd "peek" true (a % 4 == 0 && 1 ≤ n && n ≤ 64) (fun s =>
    match devRead s a (4 * n) with
    | some b => monSay 0 "peek" (wordsOf b) s
    | none => monSay 1 "peek" [] s) s)

/-- R584, R585, R611: POKE_CS; DENIED where the monitor is not the owner. -/
def execPokeCs (a val : Nat) (s : State) : Out :=
  .next (monCmd "poke" true (a % 4 == 0 && val < 2 ^ 32) (fun s =>
    let ok := s.host.owner == some .monitor || a == 0x1008 || a == 0x2010
    monSay (if ok then 0 else 2) "poke" [] (notePoke (writeWord .monitor a val s))) s)

/-- R611: POKE_DEV. -/
def execPokeDev (a val : Nat) (s : State) : Out :=
  .next (monCmd "poke" true (a % 4 == 0 && val < 2 ^ 32) (fun s =>
    match devObject s a 4 with
    | some x => monSay 0 "poke" [] (notePoke (objWrite s x.1 x.2.2 (le4 val)))
    | none => monSay 1 "poke" [] s) s)

/-- R611: the bytes of a dump of the control space. -/
def dumpBytes (s : State) (a n : Nat) : List Nat := (List.range n).map fun i => readWord s ((a + i) / 4 * 4) / 256 ^ ((a + i) % 4) % 256

/-- R611: DUMP_CS. -/
def execDumpCs (a n : Nat) (s : State) : Out :=
  .next (monCmd "dump" true (1 ≤ n && n ≤ 65536) (fun s => monSay 0 "dump" (dumpBytes s a n) s) s)

/-- R611: DUMP_DEV. -/
def execDumpDev (a n : Nat) (s : State) : Out :=
  .next (monCmd "dump" true (1 ≤ n && n ≤ 65536) (fun s =>
    match devRead s a n with
    | some b => monSay 0 "dump" (b.map BitVec.toNat) s
    | none => monSay 1 "dump" [] s) s)

/-! ## Claim, release, unlock, wake (R583, R587, R497, R599) -/

/-- R583, R613: CLAIM; denied in recovery, BUSY where no election can be held; the answer comes with the election. -/
def execClaim (s : State) : Out :=
  .next (monCmd "claim" false true (fun s =>
    if s.pkg.phase = .recovery then monSay 2 "claim" [] s
    else if s.pkg.phase ≠ .ready then monSay 3 "claim" [] s
    else
      let r := claimOwner (.monitor, some 0) s
      match r.1 with
      | some ok => answerClaim (.monitor, some 0) ok r.2
      | none => r.2) s)

/-- R587, R611: RELEASE. -/
def execRelease (s : State) : Out :=
  .next (monCmd "release" false true (fun s => monSay 0 "release" [] (closeD2 (endSession s))) s)

/-- R498, R611: UNLOCK: a fresh nonce, and the token is awaited. -/
def execUnlock (s : State) : Out :=
  .next (monCmd "unlock" false true (fun s =>
    match drawNonce s with
    | .ok (n, t) => monSay 0 "unlock" (n.map BitVec.toNat) { t with mon := { t.mon with unlocking := true } }
    | .error st => monSay 2 "unlock" [st] s) s)

/-- R497, R611: UNLOCK_TOKEN: the token is judged; the reply of an accepted one follows the closures that it asks for. -/
def execUnlockToken (bytes : Bytes) (s : State) : Out :=
  .next (if !monOn s || !s.mon.unlocking || s.flt.fatal then s
    else
      let r := tryUnlock bytes none { s with mon := { s.mon with unlocking := false } }
      match r.1 with
      | some st => monSay 2 "unlock" [st] r.2
      | none => r.2)

/-- R599, R611: WAKE: a MONITOR_HOLD boot goes on at step 6; otherwise the package state. -/
def execWake (s : State) : Out :=
  .next (monCmd "wake" false true (fun s =>
    if s.pkg.phase = .monHold then monSay 0 "wake" [] (modPkg s fun p => { p with phase := .booting })
    else monSay 0 "wake" [s.pwr.pkg] s) s)

end Sys2Proof.Machine
end

