-- ==== Sys2Proof/Machine/Relay.lean ====
section
/-! DEFINITION. Flits that arrive: retry, credits, forwarding, frames delivered; command records relayed to and from a fabric
owner; domains and the package waking (R441-R447, R506, R511-R514, R585). -/

namespace Sys2Proof.Machine

open Sys2Proof

/-! ## A fabric owner's commands (R585) -/

/-- R585: a command record from the owner's package is submitted as one of the fabric port. -/
def takeRelay (m : Msg) (b : Bytes) (s : State) : State :=
  if fabricOwner s = some m.src then runCmd (decodeRecord .fabric (padTo 64 b) []) s else s

/-- R585: CMD_RELAY. -/
def execCmdRelay (m : Msg) (record : Bytes) (s : State) : Out := .next (ctlIn m (takeRelay m record) s)

/-- R571: the 128 bytes of a record. -/
def recBytes (r : Rec) : Bytes :=
  leBytes 1 r.ty ++ leBytes 1 r.flags ++ leBytes 2 (min 112 r.payload.length) ++ le4 r.tag ++ le4 r.seq ++ leBytes 2 r.code ++
    zeros 2 ++ padTo 112 r.payload

/-- R585: the head of the fabric port's records, or of its events, goes to the fabric owner's package. -/
def sendReply (s : State) : State :=
  match fabricOwner s with
  | none => s
  | some q =>
    match popRec .fabric (s.portq .fabric).recs.isEmpty s with
    | some (r, t) => sendCtl q 0x0E 0xFF ((recBytes r).map BitVec.toNat) t
    | none => s

/-- R585: CMD_REPLY. -/
def execCmdReply (s : State) : Out := .next (if serviceOn s then sendReply s else s)

/-! ## Frames for this package (R442, R445, R447) -/

/-- R447: the 4-byte item `i` of a control message's body. -/
def item (b : Bytes) (i : Nat) : Nat := bnum b (8 + 4 * i) 4

/-- R419, R447: REREQ, MISS and DIRECT share a code; the first item tells them apart (notes/assumptions/30.md). -/
def takeWheelMsg (m : Msg) (b : Bytes) (s : State) : State :=
  match item b 0 with
  | 0 => takeRereq m (item b 1) (item b 2) s
  | 1 => takeMiss (item b 1) (item b 2) s
  | 2 => takeDirect m (item b 1) (item b 2) s
  | _ => s

/-- R232, R420, R447: a REPORT carries an instance record, or the end of a member's part in a broadcast. -/
def takeReportMsg (m : Msg) (b : Bytes) (s : State) : State :=
  if item b 0 = max32 then takeReport s (item b 1) m.src (item b 2) (item b 3) else takeGroupReport m (slice b 8 64) s

/-- R463: a TWIN_STATE's entry, T and tokens; the accession index stands in the reserved bytes of the header. -/
def takeTwinMsg (m : Msg) (b : Bytes) (s : State) : State :=
  let n := b.length - 8
  if n < 68 then takeTwinAck (item b 0) (item b 1) s
  else
    takeTwinState m (bnum b 4 2) (slice b 8 64) (item b 16) ((List.range ((n - 68) / 4)).map fun i => item b (17 + i)) s

/-- R417: the manifest that a message carries. -/
def manItems (m : Msg) (b : Bytes) : Man :=
  { group := m.group, reader := item b 1, region := item b 2, entry := item b 3, objId := item b 4, count := item b 5,
    mask := item b 6 }

/-- R447, R585: what a control message does, by TYPE. -/
def takeCtl (m : Msg) (ty : Nat) (b : Bytes) (s : State) : State :=
  match ty with
  | 0x01 => takeStart m (item b 0) (item b 1) (item b 2) (item b 3) s
  | 0x02 => takeEdge m (item b 0) (item b 1) (item b 2 != 0) s
  | 0x03 => takeReportMsg m b s
  | 0x04 => takePace m (bnum b 8 1) (bnum b 10 2) (bnum b 12 4) (bnum b 16 4) s
  | 0x05 => takeManifestMsg m (item b 0) (manItems m b) s
  | 0x06 => takeLoadDone m (item b 0) s
  | 0x07 => takeWheelMsg m b s
  | 0x08 => takePeerCopy m (item b 0) (item b 1) (item b 2) s
  | 0x09 => takeWriteAck (item b 0) (item b 1) s
  | 0x0A => takeTwinMsg m b s
  | 0x0B => takePortDown (item b 0) (item b 1) s
  | 0x0D => takeRelay m (slice b 8 64) s
  | _ => s

/-- R447: a frame of VC 0. -/
def ctlFrame (src : Nat) (b : Bytes) (s : State) : State :=
  let m : Msg := { src := src, group := bnum b 1 1, serial := bnum b 2 2 }
  if b.length < 8 then s
  else if bnum b 0 1 = 0x0C then
    modFab s fun f => { f with ctl := f.ctl.filter fun c => !(c.dst == src && c.serial == item b 0) }
  else ctlIn m (takeCtl m (bnum b 0 1) b) s

/-- R312: a copy of wheel `k` that a promotion of object `i` waits for has come. -/
def takePeerWheel (i k : Nat) (o : Obj) (b : Bytes) (s : State) : State :=
  let s := { s with cave := { s.cave with peerGot := s.cave.peerGot ++ [(i, k, b)] } }
  if (missingWheels s i o).isEmpty then { s with cave := { s.cave with peerWait := s.cave.peerWait.filter (·.1 != i) } } else s

/-- R312, R418, R419: a frame of VC 1: a wheel that a promotion waits for, one that a member asked the reader for, or one of a
broadcast. -/
def wheelFrame (b : Bytes) (s : State) : State :=
  let k := wheelNum b
  let oid := bnum b 16 4
  let wants (e : Nat × List Nat) : Option (Nat × Obj) := (objAt s e.1).bind fun o =>
    if caveObjId s o == oid && (missingWheels s e.1 o).contains k then some (e.1, o) else none
  match (if wheelUsable s b then s.cave.peerWait.findSome? wants else none) with
  | some (i, o) => takePeerWheel i k o b s
  | none =>
    match s.wgt.mans.find? fun e => e.2.objId == oid with
    | none => s
    | some (load, _) =>
      match s.wgt.directs.find? fun d => d.1 == load && d.2.1 == k with
      | some d => if wheelUsable s b then modWgt (sendWheel k b s d.2.2) fun w => { w with directs := w.directs.erase d } else s
      | none => takeBroadcast s load k b

/-- R456, R461: a whole move or twin page of VC 2 or 3: tags below 65,536 are remote moves, the others twin pages. -/
def dataFrame (src coll : Nat) (b : Bytes) (s : State) : State :=
  if bnum b 0 4 < 65536 then receiveMove src (bnum b 4 4) (bnum b 8 4) coll (bnum b 12 8) (bnum b 0 4) (b.drop 20) s
  else
    receiveTwin src (bnum b 4 4) (bnum b 8 4) (bnum b 12 4) (bnum b 16 4) (bnum b 20 4) (bnum b 0 4) (b.drop 24) s

/-- R442, R456, R461: a frame of VC 2 or 3: a part of a move or page, which is taken when all its parts have come in order. -/
def takePart (src coll : Nat) (b : Bytes) (s : State) : State :=
  let key := src * 2 ^ 32 + bnum b 0 4
  let got := if bnum b 8 4 = 0 then [] else ((tget s.fab.parts key).map (·.2)).getD []
  let all := got ++ b.drop 12
  if got.length ≠ bnum b 8 4 then s
  else if all.length < bnum b 4 4 then modFab s fun f => { f with parts := tset f.parts key (coll, all) }
  else dataFrame src coll all (modFab s fun f => { f with parts := terase f.parts key })

/-- R442, R445, R491: a whole frame for this package; one of a purged collection is discarded. -/
def takeFrame (f : Flit) (b : Bytes) (s : State) : State :=
  if s.fab.purged.contains f.coll then s
  else if f.vc = 0 then ctlFrame f.src b s
  else if f.vc = 1 then wheelFrame b s
  else takePart f.src f.coll b s

/-- R442: a flit for this package joins its frame; LAST completes the frame. -/
def joinFrame (p : Nat) (f : Flit) (s : State) : State :=
  match (if f.first then some [] else tget (portAt s p).frames f.vc) with
  | none => s
  | some part =>
    let b := part ++ f.data
    if f.last then takeFrame f b (modFPort s p fun x => { x with frames := terase x.frames f.vc })
    else modFPort s p fun x => { x with frames := tset x.frames f.vc b }

/-! ## Flits in (R441, R443, R511) -/

/-- R441: a flit that is not for this package goes on, its TTL one lower; at 0 it is discarded. -/
def forwardFlit (p : Nat) (f : Flit) (s : State) : State :=
  if f.ttl ≤ 1 then modFab s fun b => { b with ttlDrop := satAdd32 b.ttlDrop 1 }
  else passFlit s p { f with ttl := f.ttl - 1 }

/-- R441, R445: a flit leaves its receive buffer: its credit is to be returned, and it is delivered or forwarded. -/
def deliverFlit (p : Nat) (f : Flit) (s : State) : State :=
  let k := vcKey f.dcl f.vc
  let s := modFPort s p fun x => { x with credit := nset x.credit k (min 128 (nget x.credit k + 1)) }
  if f.dst = fabId s then joinFrame p f s else forwardFlit p f s

/-- R511: the flits held in link-keep mode are delivered or forwarded, in order. -/
def deliverHeld (s : State) : State :=
  (List.range 6).foldl (fun t p =>
    (portAt t p).heldRx.foldl (fun u f => deliverFlit p f u) (modFPort t p fun x => { x with heldRx := [] })) s

/-- R441, R443, R511: a DATA flit in order: acknowledged, and held in link-keep mode. -/
def takeInOrder (p : Nat) (f : Flit) (s : State) : State :=
  let s := modFPort s p fun x => { x with rxSeq := (x.rxSeq + 1) % 4096, retry := false }
  if linkKeep s p then modFPort s p fun x => { x with heldRx := x.heldRx ++ [f] } else deliverFlit p f s

/-- R443: a NAK that names the last good flit. -/
def sendNak (p : Nat) (s : State) : State :=
  modFab (modFPort s p fun x => putFlit { x with retry := true } (bareHdr 2) []) fun b =>
    { b with retries := satAdd32 b.retries 1 }

/-- R467: a CRC error that needed a retry is a detection; the link stays UP. -/
def crcDetection (p : Nat) (s : State) : State :=
  let again := (portAt s p).retry
  linkStays p (portDetection s p mechCRC_RETRY (!again))

/-- R443: a flit with a bad CRC. -/
def damagedFlit (p : Nat) (s : State) : State :=
  sendNak p (crcDetection p (modFab s fun b => { b with crcErr := satAdd32 b.crcErr 1 }))

/-- R443: a DATA flit out of order: discarded, and NAKed where no NAK for the flit missed stands. -/
def outOfOrder (p : Nat) (s : State) : State :=
  let s := modFab s fun b => { b with crcErr := satAdd32 b.crcErr 1 }
  if (portAt s p).retry then s else sendNak p s

/-- R441, R443: a flit with a good CRC, by TYPE; the reserved types do nothing. -/
def goodFlit (p : Nat) (b : Bytes) (s : State) : State :=
  let h := flitHdr b
  let s := pumpPort (modFPort s p fun x => takeCredit x h) p
  if h.ty = 2 then
    let t := modFPort s p fun x => resendFrom x h.ack
    if 8 ≤ (portAt t p).nakRun then linkFault t p mechCRC_RETRY else t
  else
    let s := pumpPort (modFPort s p fun x => takeAck x h.ack) p
    if h.ty = 1 then if h.seq = (portAt s p).rxSeq then takeInOrder p (dataFlit h b) s else outOfOrder p s else s

/-- R443: FLIT_RECEIVE. -/
def execFlitReceive (p : Nat) (flit : Bytes) (s : State) : Out :=
  .next (if 5 < p || (portAt s p).state != 3 || !serviceOn s then s
    else if flitOK flit then goodFlit p flit s
    else damagedFlit p s)

/-! ## Domains and the package wake (R504-R514) -/

/-- R511, R514: flits held in link-keep mode have woken the package. -/
def wakeHeld (s : State) : State :=
  if s.pwr.pkg = 2 ∧ (s.fab.ports.any fun x => !x.heldRx.isEmpty) then wakePackage s else s

/-- R511: once the package has left NAP the held flits are delivered. -/
def afterNap (s : State) : State := if s.pwr.pkg = 2 ∨ s.pwr.pkg = 3 then s else deliverHeld s

/-- R512: PACKAGE_STATE_ENTRY. -/
def execPackageStateEntry (s : State) : Out :=
  .next (if serviceOn s then afterNap (enterPackage (afterNap (wakeHeld s))) else s)

/-- R506, R514: a domain woken by a vote; a vote for one that IDLE or NAP keeps below ON wakes the package. -/
def wakeDomain (d : Nat) (s : State) : State :=
  let out := (s.pwr.pkg == 1 || s.pwr.pkg == 2) && d < 80 && votedOn s d && deepestFor s s.pwr.pkg d != 0
  if s.pwr.pkg = 3 then s else domainWake (if out then afterNap (wakePackage s) else s) d

/-- R504: DOMAIN_WAKE_COMPLETE. -/
def execDomainWakeComplete (d : Nat) (s : State) : Out := .next (if serviceOn s then wakeDomain d s else s)

end Sys2Proof.Machine
end

