-- ==== Sys2Proof/Machine/Dispatch.lean ====
section
/-! DEFINITION. The dispatch: one arm per command, each a direct call of its meaning. -/

namespace Sys2Proof.Machine

open Sys2Proof

/-- What a command does to everything but the queue. -/
def exec (x : Instr) (s : State) : Host.Outcome State Fault Refusal :=
  match x with
  | .loadw v w => Sys2Proof.Machine.execLoadw v w s
  | .loadwT v w => Sys2Proof.Machine.execLoadwT v w s
  | .stream v w => Sys2Proof.Machine.execStream v w s
  | .drain v w => Sys2Proof.Machine.execDrain v w s
  | .clear v w => Sys2Proof.Machine.execClear v w s
  | .scan v w => Sys2Proof.Machine.execScan v w s
  | .carryIn v w => Sys2Proof.Machine.execCarryIn v w s
  | .carryOut v w => Sys2Proof.Machine.execCarryOut v w s
  | .check v w => Sys2Proof.Machine.execCheck v w s
  | .vatOpUnassigned v w => Sys2Proof.Machine.execVatOpUnassigned v w s
  | .residueComparison v row slice err => Sys2Proof.Machine.execResidueComparison v row slice err s
  | .vatIdleEntry v => Sys2Proof.Machine.execVatIdleEntry v s
  | .currentStepGrant v => Sys2Proof.Machine.execCurrentStepGrant v s
  | .vatFullWidth v => Sys2Proof.Machine.execVatFullWidth v s
  | .swapOutComplete v handle => Sys2Proof.Machine.execSwapOutComplete v handle s
  | .deferredSwap v handle => Sys2Proof.Machine.execDeferredSwap v handle s
  | .int t f => Sys2Proof.Machine.execInt t f s
  | .addi t f => Sys2Proof.Machine.execAddi t f s
  | .andi t f => Sys2Proof.Machine.execAndi t f s
  | .ori t f => Sys2Proof.Machine.execOri t f s
  | .xori t f => Sys2Proof.Machine.execXori t f s
  | .shli t f => Sys2Proof.Machine.execShli t f s
  | .shri t f => Sys2Proof.Machine.execShri t f s
  | .srai t f => Sys2Proof.Machine.execSrai t f s
  | .slti t f => Sys2Proof.Machine.execSlti t f s
  | .lsh15 t f => Sys2Proof.Machine.execLsh15 t f s
  | .beq t f => Sys2Proof.Machine.execBeq t f s
  | .bne t f => Sys2Proof.Machine.execBne t f s
  | .blt t f => Sys2Proof.Machine.execBlt t f s
  | .bge t f => Sys2Proof.Machine.execBge t f s
  | .bltu t f => Sys2Proof.Machine.execBltu t f s
  | .bgeu t f => Sys2Proof.Machine.execBgeu t f s
  | .jmp t f => Sys2Proof.Machine.execJmp t f s
  | .jmpr t f => Sys2Proof.Machine.execJmpr t f s
  | .ld t f => Sys2Proof.Machine.execLd t f s
  | .ldu t f => Sys2Proof.Machine.execLdu t f s
  | .st t f => Sys2Proof.Machine.execSt t f s
  | .vld t f => Sys2Proof.Machine.execVld t f s
  | .vst t f => Sys2Proof.Machine.execVst t f s
  | .vstm t f => Sys2Proof.Machine.execVstm t f s
  | .vldb t f => Sys2Proof.Machine.execVldb t f s
  | .varith t f => Sys2Proof.Machine.execVarith t f s
  | .vsarith t f => Sys2Proof.Machine.execVsarith t f s
  | .vcmp t f => Sys2Proof.Machine.execVcmp t f s
  | .vfma t f => Sys2Proof.Machine.execVfma t f s
  | .vcvt t f => Sys2Proof.Machine.execVcvt t f s
  | .vmove t f => Sys2Proof.Machine.execVmove t f s
  | .vred t f => Sys2Proof.Machine.execVred t f s
  | .vquant t f => Sys2Proof.Machine.execVquant t f s
  | .vspec t f => Sys2Proof.Machine.execVspec t f s
  | .vsel t f => Sys2Proof.Machine.execVsel t f s
  | .vrand t f => Sys2Proof.Machine.execVrand t f s
  | .vissue t f => Sys2Proof.Machine.execVissue t f s
  | .vissueResume t => Sys2Proof.Machine.execVissueResume t s
  | .dissue t f => Sys2Proof.Machine.execDissue t f s
  | .dissueResume t => Sys2Proof.Machine.execDissueResume t s
  | .swait t f => Sys2Proof.Machine.execSwait t f s
  | .swaitResume t => Sys2Proof.Machine.execSwaitResume t s
  | .ssig t f => Sys2Proof.Machine.execSsig t f s
  | .spoll t f => Sys2Proof.Machine.execSpoll t f s
  | .tend t f => Sys2Proof.Machine.execTend t f s
  | .tyield t f => Sys2Proof.Machine.execTyield t f s
  | .tyieldResume t g i => Sys2Proof.Machine.execTyieldResume t g i s
  | .trap t f => Sys2Proof.Machine.execTrap t f s
  | .sysr t f => Sys2Proof.Machine.execSysr t f s
  | .trnIllegal t w => Sys2Proof.Machine.execTrnIllegal t w s
  | .graphLoad h handle coll group => Sys2Proof.Machine.execGraphLoad h handle coll group s
  | .graphRun h graph band comp binding => Sys2Proof.Machine.execGraphRun h graph band comp binding s
  | .graphAbort h graph => Sys2Proof.Machine.execGraphAbort h graph s
  | .graphDrop h graph => Sys2Proof.Machine.execGraphDrop h graph s
  | .graphDropComplete g => Sys2Proof.Machine.execGraphDropComplete g s
  | .instanceStart g => Sys2Proof.Machine.execInstanceStart g s
  | .residencyRequest g i => Sys2Proof.Machine.execResidencyRequest g i s
  | .residencySpaceGrant c => Sys2Proof.Machine.execResidencySpaceGrant c s
  | .objSpaceWaitExpiry c => Sys2Proof.Machine.execObjSpaceWaitExpiry c s
  | .taskRelease g i => Sys2Proof.Machine.execTaskRelease g i s
  | .taskDispatch isVat u => Sys2Proof.Machine.execTaskDispatch isVat u s
  | .taskSteal isVat u => Sys2Proof.Machine.execTaskSteal isVat u s
  | .taskComplete g i => Sys2Proof.Machine.execTaskComplete g i s
  | .overBudget g i => Sys2Proof.Machine.execOverBudget g i s
  | .budgetHang g i => Sys2Proof.Machine.execBudgetHang g i s
  | .objCreate h kind size coll home place region entry aux => Sys2Proof.Machine.execObjCreate h kind size coll home place region entry aux s
  | .objFree h handle => Sys2Proof.Machine.execObjFree h handle s
  | .objectRelease idx => Sys2Proof.Machine.execObjectRelease idx s
  | .objPromote h handle pos => Sys2Proof.Machine.execObjPromote h handle pos s
  | .objEvict h handle pos => Sys2Proof.Machine.execObjEvict h handle pos s
  | .objPlace h handle place => Sys2Proof.Machine.execObjPlace h handle place s
  | .objQuery h handle => Sys2Proof.Machine.execObjQuery h handle s
  | .promotionComplete idx pos => Sys2Proof.Machine.execPromotionComplete idx pos s
  | .evictionComplete idx pos => Sys2Proof.Machine.execEvictionComplete idx pos s
  | .pinGrant idx => Sys2Proof.Machine.execPinGrant idx s
  | .moveStart id e => Sys2Proof.Machine.execMoveStart id e s
  | .moveComplete id => Sys2Proof.Machine.execMoveComplete id s
  | .fetchPost id => Sys2Proof.Machine.execFetchPost id s
  | .fetchAnswer stream bytes => Sys2Proof.Machine.execFetchAnswer stream bytes s
  | .objFetchTmoExpiry fid => Sys2Proof.Machine.execObjFetchTmoExpiry fid s
  | .fetchCancelHoldEnd stream => Sys2Proof.Machine.execFetchCancelHoldEnd stream s
  | .fetchNack h fid => Sys2Proof.Machine.execFetchNack h fid s
  | .caveOpen h coll sets => Sys2Proof.Machine.execCaveOpen h coll sets s
  | .caveWrite h region entry count => Sys2Proof.Machine.execCaveWrite h region entry count s
  | .caveSeal h region => Sys2Proof.Machine.execCaveSeal h region s
  | .caveRelease h region => Sys2Proof.Machine.execCaveRelease h region s
  | .caveSlice h dur excl => Sys2Proof.Machine.execCaveSlice h dur excl s
  | .caveScan h mode => Sys2Proof.Machine.execCaveScan h mode s
  | .caveProgramFail set ch => Sys2Proof.Machine.execCaveProgramFail set ch s
  | .cavePageRead set stripe ch ok => Sys2Proof.Machine.execCavePageRead set stripe ch ok s
  | .readRetry set stripe ch ok => Sys2Proof.Machine.execReadRetry set stripe ch ok s
  | .caveRebuild set stripe ch ok => Sys2Proof.Machine.execCaveRebuild set stripe ch ok s
  | .peerCopyTimeout idx => Sys2Proof.Machine.execPeerCopyTimeout idx s
  | .sliceEnd => Sys2Proof.Machine.execSliceEnd s
  | .relocationDone set ch => Sys2Proof.Machine.execRelocationDone set ch s
  | .mapFlip set ch => Sys2Proof.Machine.execMapFlip set ch s
  | .eraseComplete region => Sys2Proof.Machine.execEraseComplete region s
  | .readCounterCheckpoint => Sys2Proof.Machine.execReadCounterCheckpoint s
  | .tableLoad h => Sys2Proof.Machine.execTableLoad h s
  | .tableReplace h slot => Sys2Proof.Machine.execTableReplace h slot s
  | .tableDrop h slot => Sys2Proof.Machine.execTableDrop h slot s
  | .tableSlotFree n => Sys2Proof.Machine.execTableSlotFree n s
  | .stepAdmission => Sys2Proof.Machine.execStepAdmission s
  | .stepCommit g => Sys2Proof.Machine.execStepCommit g s
  | .pressingComplete hoop => Sys2Proof.Machine.execPressingComplete hoop s
  | .pageWaitServed cls => Sys2Proof.Machine.execPageWaitServed cls s
  | .reclaim a => Sys2Proof.Machine.execReclaim a s
  | .accService h svc => Sys2Proof.Machine.execAccService h svc s
  | .accStopset h set => Sys2Proof.Machine.execAccStopset h set s
  | .accSubmit h p => Sys2Proof.Machine.execAccSubmit h p s
  | .promptWritten a => Sys2Proof.Machine.execPromptWritten a s
  | .accCancel h a tag => Sys2Proof.Machine.execAccCancel h a tag s
  | .accSuspend h a => Sys2Proof.Machine.execAccSuspend h a s
  | .accResume h a => Sys2Proof.Machine.execAccResume h a s
  | .accHoldAll h => Sys2Proof.Machine.execAccHoldAll h s
  | .accResumeAll h => Sys2Proof.Machine.execAccResumeAll h s
  | .deadlineCountdown => Sys2Proof.Machine.execDeadlineCountdown s
  | .finalRecordSent a => Sys2Proof.Machine.execFinalRecordSent a s
  | .wgtLoad h handle fmt count stream whey widx => Sys2Proof.Machine.execWgtLoad h handle fmt count stream whey widx s
  | .wheelArrival load bytes => Sys2Proof.Machine.execWheelArrival load bytes s
  | .wgtHostTmoExpiry load => Sys2Proof.Machine.execWgtHostTmoExpiry load s
  | .wgtExpect h handle objId fmt whey widx => Sys2Proof.Machine.execWgtExpect h handle objId fmt whey widx s
  | .wgtBcast h group reader region entry mask => Sys2Proof.Machine.execWgtBcast h group reader region entry mask s
  | .broadcastWheel load k bytes => Sys2Proof.Machine.execBroadcastWheel load k bytes s
  | .wgtWheelTmoExpiry load k => Sys2Proof.Machine.execWgtWheelTmoExpiry load k s
  | .directRequestTimeout load k => Sys2Proof.Machine.execDirectRequestTimeout load k s
  | .broadcastMemberReport load src rereq direct => Sys2Proof.Machine.execBroadcastMemberReport load src rereq direct s
  | .wgtGrant h handle grantee => Sys2Proof.Machine.execWgtGrant h handle grantee s
  | .wgtRevoke h handle grantee => Sys2Proof.Machine.execWgtRevoke h handle grantee s
  | .adpLoad h slot handle => Sys2Proof.Machine.execAdpLoad h slot handle s
  | .adpFree h slot => Sys2Proof.Machine.execAdpFree h slot s
  | .adpPublish h train layout adapter => Sys2Proof.Machine.execAdpPublish h train layout adapter s
  | .adpExport h handle => Sys2Proof.Machine.execAdpExport h handle s
  | .wgtReplace h plan => Sys2Proof.Machine.execWgtReplace h plan s
  | .groupStaged k => Sys2Proof.Machine.execGroupStaged k s
  | .flip k => Sys2Proof.Machine.execFlip k s
  | .wgtResume h plan => Sys2Proof.Machine.execWgtResume h plan s
  | .wgtAbandon h => Sys2Proof.Machine.execWgtAbandon h s
  | .trainingComplete p lanes sysid nbPkg nbPort => Sys2Proof.Machine.execTrainingComplete p lanes sysid nbPkg nbPort s
  | .trainingRetry p => Sys2Proof.Machine.execTrainingRetry p s
  | .flitReceive p flit => Sys2Proof.Machine.execFlitReceive p flit s
  | .nak p ack => Sys2Proof.Machine.execNak p ack s
  | .linkNoProgress p => Sys2Proof.Machine.execLinkNoProgress p s
  | .idleFlitSend p => Sys2Proof.Machine.execIdleFlitSend p s
  | .keepaliveTimeout p => Sys2Proof.Machine.execKeepaliveTimeout p s
  | .portDown m pkg port nb => Sys2Proof.Machine.execPortDown m pkg port nb s
  | .cack m acked => Sys2Proof.Machine.execCack m acked s
  | .controlResend dst serial => Sys2Proof.Machine.execControlResend dst serial s
  | .start m gid inst band gen => Sys2Proof.Machine.execStart m gid inst band gen s
  | .edge m inst edge ok => Sys2Proof.Machine.execEdge m inst edge ok s
  | .report m record => Sys2Proof.Machine.execReport m record s
  | .pace m reason rate extra valid => Sys2Proof.Machine.execPace m reason rate extra valid s
  | .paceResend => Sys2Proof.Machine.execPaceResend s
  | .paceLapse src => Sys2Proof.Machine.execPaceLapse src s
  | .manifest m load reader region entry objId count mask => Sys2Proof.Machine.execManifest m load reader region entry objId count mask s
  | .loadDone m load => Sys2Proof.Machine.execLoadDone m load s
  | .rereq m load k => Sys2Proof.Machine.execRereq m load k s
  | .miss m load k => Sys2Proof.Machine.execMiss m load k s
  | .direct m load k => Sys2Proof.Machine.execDirect m load k s
  | .peerCopy m objId first count => Sys2Proof.Machine.execPeerCopy m objId first count s
  | .remoteMoveReceive src vc dstH gid coll off mtag data => Sys2Proof.Machine.execRemoteMoveReceive src vc dstH gid coll off mtag data s
  | .writeAck m mtag status => Sys2Proof.Machine.execWriteAck m mtag status s
  | .remoteMoveRetry id => Sys2Proof.Machine.execRemoteMoveRetry id s
  | .remoteMoveTimeout id => Sys2Proof.Machine.execRemoteMoveTimeout id s
  | .twinPageReceive src acc coll la hh k mtag data => Sys2Proof.Machine.execTwinPageReceive src acc coll la hh k mtag data s
  | .twinState m acc entry tpages tokens => Sys2Proof.Machine.execTwinState m acc entry tpages tokens s
  | .twinAck m acc status => Sys2Proof.Machine.execTwinAck m acc status s
  | .cmdRelay m record => Sys2Proof.Machine.execCmdRelay m record s
  | .cmdReply => Sys2Proof.Machine.execCmdReply s
  | .secCollOpen h coll => Sys2Proof.Machine.execSecCollOpen h coll s
  | .secKeyInstall h coll => Sys2Proof.Machine.execSecKeyInstall h coll s
  | .secCollClose h coll => Sys2Proof.Machine.execSecCollClose h coll s
  | .closureScrub coll => Sys2Proof.Machine.execClosureScrub coll s
  | .secFwStage h => Sys2Proof.Machine.execSecFwStage h s
  | .secFwDiscard h => Sys2Proof.Machine.execSecFwDiscard h s
  | .secFwCommit h => Sys2Proof.Machine.execSecFwCommit h s
  | .secLifecycle h => Sys2Proof.Machine.execSecLifecycle h s
  | .secDebugUnlock h => Sys2Proof.Machine.execSecDebugUnlock h s
  | .secDebugClose h => Sys2Proof.Machine.execSecDebugClose h s
  | .secCerts h => Sys2Proof.Machine.execSecCerts h s
  | .secDebugNonce h => Sys2Proof.Machine.execSecDebugNonce h s
  | .secAttest h coll => Sys2Proof.Machine.execSecAttest h coll s
  | .nonceLapse => Sys2Proof.Machine.execNonceLapse s
  | .nonceLockEnd => Sys2Proof.Machine.execNonceLockEnd s
  | .d2SessionExpiry => Sys2Proof.Machine.execD2SessionExpiry s
  | .fwFallback => Sys2Proof.Machine.execFwFallback s
  | .domainWakeComplete d => Sys2Proof.Machine.execDomainWakeComplete d s
  | .domainFall d => Sys2Proof.Machine.execDomainFall d s
  | .packageStateEntry => Sys2Proof.Machine.execPackageStateEntry s
  | .wakeN => Sys2Proof.Machine.execWakeN s
  | .i3cTransferInSleep => Sys2Proof.Machine.execI3cTransferInSleep s
  | .xtalStable => Sys2Proof.Machine.execXtalStable s
  | .xtalFail => Sys2Proof.Machine.execXtalFail s
  | .governorLevelChange kind c level reason cause => Sys2Proof.Machine.execGovernorLevelChange kind c level reason cause s
  | .levelStep kind c => Sys2Proof.Machine.execLevelStep kind c s
  | .regulatorSettle kind c => Sys2Proof.Machine.execRegulatorSettle kind c s
  | .gradientStepDown c => Sys2Proof.Machine.execGradientStepDown c s
  | .supplyLow => Sys2Proof.Machine.execSupplyLow s
  | .energyInterval d uj shares => Sys2Proof.Machine.execEnergyInterval d uj shares s
  | .coolantLost => Sys2Proof.Machine.execCoolantLost s
  | .coolantRestored => Sys2Proof.Machine.execCoolantRestored s
  | .keepSequence => Sys2Proof.Machine.execKeepSequence s
  | .pwrShutdown h => Sys2Proof.Machine.execPwrShutdown h s
  | .vinReturn => Sys2Proof.Machine.execVinReturn s
  | .faultDetection site unit mech addr detail => Sys2Proof.Machine.execFaultDetection site unit mech addr detail s
  | .faultEntryHandled => Sys2Proof.Machine.execFaultEntryHandled s
  | .selfTestComplete site unit pass => Sys2Proof.Machine.execSelfTestComplete site unit pass s
  | .watchdogExpiry site unit => Sys2Proof.Machine.execWatchdogExpiry site unit s
  | .instanceStall g => Sys2Proof.Machine.execInstanceStall g s
  | .usbAttach link => Sys2Proof.Machine.execUsbAttach link s
  | .usbDetach => Sys2Proof.Machine.execUsbDetach s
  | .usbBusReset => Sys2Proof.Machine.execUsbBusReset s
  | .usbSuspend => Sys2Proof.Machine.execUsbSuspend s
  | .usbResume => Sys2Proof.Machine.execUsbResume s
  | .unassignedOpcode h opcode => Sys2Proof.Machine.execUnassignedOpcode h opcode s
  | .commandData port stream bytes => Sys2Proof.Machine.execCommandData port stream bytes s
  | .hostDataTmoExpiry port tag => Sys2Proof.Machine.execHostDataTmoExpiry port tag s
  | .recordSend port isEvent => Sys2Proof.Machine.execRecordSend port isEvent s
  | .csRead addr len => Sys2Proof.Machine.execCsRead addr len s
  | .csWrite addr words => Sys2Proof.Machine.execCsWrite addr words s
  | .setLatTol us => Sys2Proof.Machine.execSetLatTol us s
  | .mgtDoorbell val => Sys2Proof.Machine.execMgtDoorbell val s
  | .mgtRec => Sys2Proof.Machine.execMgtRec s
  | .mgtEvt => Sys2Proof.Machine.execMgtEvt s
  | .mgtOwnershipLapse => Sys2Proof.Machine.execMgtOwnershipLapse s
  | .entdaa addr => Sys2Proof.Machine.execEntdaa addr s
  | .setdasa addr => Sys2Proof.Machine.execSetdasa addr s
  | .rstdaa => Sys2Proof.Machine.execRstdaa s
  | .ownClaim h => Sys2Proof.Machine.execOwnClaim h s
  | .ownRelease h => Sys2Proof.Machine.execOwnRelease h s
  | .ownHandover h target => Sys2Proof.Machine.execOwnHandover h target s
  | .ownAccept h => Sys2Proof.Machine.execOwnAccept h s
  | .handoverTimeout => Sys2Proof.Machine.execHandoverTimeout s
  | .electionClose => Sys2Proof.Machine.execElectionClose s
  | .ownCtrlClaim => Sys2Proof.Machine.execOwnCtrlClaim s
  | .ownCtrlRelease => Sys2Proof.Machine.execOwnCtrlRelease s
  | .chgCheck h => Sys2Proof.Machine.execChgCheck h s
  | .chgApply h => Sys2Proof.Machine.execChgApply h s
  | .chgDiscard h => Sys2Proof.Machine.execChgDiscard h s
  | .chgCtrlCheck port => Sys2Proof.Machine.execChgCtrlCheck port s
  | .chgCtrlApply port => Sys2Proof.Machine.execChgCtrlApply port s
  | .chgCtrlDiscard port => Sys2Proof.Machine.execChgCtrlDiscard port s
  | .chgDiscarded => Sys2Proof.Machine.execChgDiscarded s
  | .rsStagedWrite port addr val => Sys2Proof.Machine.execRsStagedWrite port addr val s
  | .registerWrite port addr val => Sys2Proof.Machine.execRegisterWrite port addr val s
  | .pwrOwnerVote port w val => Sys2Proof.Machine.execPwrOwnerVote port w val s
  | .pwrLatTol port val => Sys2Proof.Machine.execPwrLatTol port val s
  | .vatCntClr port v val => Sys2Proof.Machine.execVatCntClr port v val s
  | .trnCntClr port t val => Sys2Proof.Machine.execTrnCntClr port t val s
  | .graCntClr port val => Sys2Proof.Machine.execGraCntClr port val s
  | .objCntClr port val => Sys2Proof.Machine.execObjCntClr port val s
  | .caveCntClr port val => Sys2Proof.Machine.execCaveCntClr port val s
  | .dxCntClr port e val => Sys2Proof.Machine.execDxCntClr port e val s
  | .kveCntClr port val => Sys2Proof.Machine.execKveCntClr port val s
  | .accCntClr port val => Sys2Proof.Machine.execAccCntClr port val s
  | .wgtCntClr port val => Sys2Proof.Machine.execWgtCntClr port val s
  | .fabCntClr port val => Sys2Proof.Machine.execFabCntClr port val s
  | .secCntClr port val => Sys2Proof.Machine.execSecCntClr port val s
  | .fltCntClr port val => Sys2Proof.Machine.execFltCntClr port val s
  | .pwrCntClr port val => Sys2Proof.Machine.execPwrCntClr port val s
  | .thrClr port val => Sys2Proof.Machine.execThrClr port val s
  | .nrgClr port val => Sys2Proof.Machine.execNrgClr port val s
  | .vstbyValid => Sys2Proof.Machine.execVstbyValid s
  | .coldStart b => Sys2Proof.Machine.execColdStart b s
  | .vstbyInvalid => Sys2Proof.Machine.execVstbyInvalid s
  | .resetN => Sys2Proof.Machine.execResetN s
  | .resetPackage h => Sys2Proof.Machine.execResetPackage h s
  | .resetCluster h c => Sys2Proof.Machine.execResetCluster h c s
  | .vatFence h v => Sys2Proof.Machine.execVatFence h v s
  | .vatUnfence h v => Sys2Proof.Machine.execVatUnfence h v s
  | .resetPort h p => Sys2Proof.Machine.execResetPort h p s
  | .monitorSessionTimeout => Sys2Proof.Machine.execMonitorSessionTimeout s
  | .wakeCharacter => Sys2Proof.Machine.execWakeCharacter s
  | .help => Sys2Proof.Machine.execHelp s
  | .id => Sys2Proof.Machine.execId s
  | .state => Sys2Proof.Machine.execState s
  | .votes d => Sys2Proof.Machine.execVotes d s
  | .throttle => Sys2Proof.Machine.execThrottle s
  | .energy => Sys2Proof.Machine.execEnergy s
  | .faults => Sys2Proof.Machine.execFaults s
  | .log n => Sys2Proof.Machine.execLog n s
  | .traceOn => Sys2Proof.Machine.execTraceOn s
  | .traceOff => Sys2Proof.Machine.execTraceOff s
  | .traceHalt t => Sys2Proof.Machine.execTraceHalt t s
  | .traceStep t => Sys2Proof.Machine.execTraceStep t s
  | .traceGo t => Sys2Proof.Machine.execTraceGo t s
  | .peekCs a n => Sys2Proof.Machine.execPeekCs a n s
  | .peekDev a n => Sys2Proof.Machine.execPeekDev a n s
  | .pokeCs a val => Sys2Proof.Machine.execPokeCs a val s
  | .pokeDev a val => Sys2Proof.Machine.execPokeDev a val s
  | .dumpCs a n => Sys2Proof.Machine.execDumpCs a n s
  | .dumpDev a n => Sys2Proof.Machine.execDumpDev a n s
  | .claim => Sys2Proof.Machine.execClaim s
  | .release => Sys2Proof.Machine.execRelease s
  | .unlock => Sys2Proof.Machine.execUnlock s
  | .unlockToken bytes => Sys2Proof.Machine.execUnlockToken bytes s
  | .wake => Sys2Proof.Machine.execWake s
  | .thermalTrip sensor temp => Sys2Proof.Machine.execThermalTrip sensor temp s
  | .bypass => Sys2Proof.Machine.execBypass s
  | .idcode => Sys2Proof.Machine.execIdcode s
  | .samplePreload chain => Sys2Proof.Machine.execSamplePreload chain s
  | .extest => Sys2Proof.Machine.execExtest s
  | .clamp => Sys2Proof.Machine.execClamp s
  | .highz => Sys2Proof.Machine.execHighz s
  | .resetNRisingEdge strap => Sys2Proof.Machine.execResetNRisingEdge strap s
  | .vinFirstAt6v => Sys2Proof.Machine.execVinFirstAt6v s
  | .vio18Loss => Sys2Proof.Machine.execVio18Loss s
  | .vio18Return => Sys2Proof.Machine.execVio18Return s
  | .wakeNDriveEnd low => Sys2Proof.Machine.execWakeNDriveEnd low s
  | .hdrEntry => Sys2Proof.Machine.execHdrEntry s
  | .hdrExitPattern => Sys2Proof.Machine.execHdrExitPattern s

end Sys2Proof.Machine
end

