-- ==== Sys2Proof/WellFormed.lean ====
section
/-! DEFINITION. Which commands are well formed: every operand lies in the range that the manual gives its field, a vat command
carries its own OP (R99, R100), and a turner instruction is a legal word of its own row (R163, R164). -/

namespace Sys2Proof

open Sys2Proof.Machine

/-! ## The checks -/

/-- R77: sixteen vats. -/
def okVat (v : Nat) : Bool := v < 16
/-- R155: sixty-four turners. -/
def okTrn (t : Nat) : Bool := t < 64
/-- R77: eight clusters. -/
def okCluster (c : Nat) : Bool := c < 8
/-- R319: sixteen DMA engines. -/
def okEngine (e : Nat) : Bool := e < 16
/-- R438: six fabric ports. -/
def okFabPort (p : Nat) : Bool := p < 6
/-- R504: eighty power domains. -/
def okDom (d : Nat) : Bool := d < 80
/-- R441: a package or port number fits in five bits. -/
def okPkg (p : Nat) : Bool := p < 32
/-- R217: a vat's or a turner's number. -/
def okUnit (isVat : Bool) (u : Nat) : Bool := if isVat then u < 16 else u < 64
/-- R441: a 12-bit SEQ or ACK. -/
def ok12 (x : Nat) : Bool := x < 4096
/-- R447: a 16-bit SERIAL. -/
def ok16 (x : Nat) : Bool := x < 2 ^ 16
/-- R566: a parameter of 4 bytes. -/
def ok32 (x : Nat) : Bool := x < 2 ^ 32
/-- R642: a parameter of 8 bytes. -/
def ok64 (x : Nat) : Bool := x < 2 ^ 64
/-- R577, R463: words of 4 bytes. -/
def ok32s (xs : List Nat) : Bool := xs.all ok32
/-- R566: the envelope of a command record. -/
def okHdr (h : Hdr) : Bool := h.tag < 2 ^ 32 && h.flags < 256 && h.stream < 256 && h.dlen < 2 ^ 32 && h.rsv < 2 ^ 32
/-- R447: the header of a control message. -/
def okMsg (m : Msg) : Bool := m.src < 32 && m.group < 256 && m.serial < 2 ^ 16
/-- R643: the words of ACC_SUBMIT. -/
def okSubmit (p : SubmitP) : Bool :=
  ok32s [p.service, p.prompt, p.n, p.policy, p.adapter, p.stopset, p.topk, p.draftMax, p.temp, p.topp, p.deadline, p.maxnew]
/-- R100: a vat command carries the OP of its row. -/
def okVatOp (w : BitVec 128) (op : Nat) : Bool := vOP w == op
/-- R164: an instruction of format S carries the FN of its row. -/
def okSel (f : FmtS) (fn : Nat) : Bool := f.fn.toNat == fn
/-- R163: the word has no meaning. -/
def okIllegal (w : BitVec 32) : Bool := !wordLegal w
/-- R441: a flit is 256 bytes. -/
def okFlit (b : Bytes) : Bool := b.length == 256
/-- R232, R384, R566: a record or an entry of 64 bytes. -/
def okRecord (b : Bytes) : Bool := b.length == 64
/-- R523: the shares of an energy interval name collections and bands. -/
def okShares (xs : List Share) : Bool := xs.all fun x => x.coll < 64 && x.band < 4 && x.cycles < 2 ^ 32
/-- R596: a boot's failed units. -/
def okBoot (b : BootOut) : Bool := b.failed.all fun e => e.1 < 32 && e.2 < 64

/-- A command is well formed. -/
def wellFormed : Instr → Bool
  | .loadw v w => okVat v && okVatOp w 1
  | .loadwT v w => okVat v && okVatOp w 2
  | .stream v w => okVat v && okVatOp w 3
  | .drain v w => okVat v && okVatOp w 4
  | .clear v w => okVat v && okVatOp w 5
  | .scan v w => okVat v && okVatOp w 6
  | .carryIn v w => okVat v && okVatOp w 7
  | .carryOut v w => okVat v && okVatOp w 8
  | .check v w => okVat v && okVatOp w 9
  | .vatOpUnassigned v w => okVat v && vatOpUnassigned (vOP w)
  | .residueComparison v row slice err => okVat v && ok32 row && ok32 slice && ok32 err
  | .vatIdleEntry v => okVat v
  | .currentStepGrant v => okVat v
  | .vatFullWidth v => okVat v
  | .swapOutComplete v handle => okVat v && ok32 handle
  | .deferredSwap v handle => okVat v && ok32 handle
  | .int t f => okTrn t && trnLegal (.int t f)
  | .addi t f => okTrn t && trnLegal (.addi t f)
  | .andi t f => okTrn t && trnLegal (.andi t f)
  | .ori t f => okTrn t && trnLegal (.ori t f)
  | .xori t f => okTrn t && trnLegal (.xori t f)
  | .shli t f => okTrn t && trnLegal (.shli t f)
  | .shri t f => okTrn t && trnLegal (.shri t f)
  | .srai t f => okTrn t && trnLegal (.srai t f)
  | .slti t f => okTrn t && trnLegal (.slti t f)
  | .lsh15 t f => okTrn t && trnLegal (.lsh15 t f)
  | .beq t f => okTrn t && trnLegal (.beq t f)
  | .bne t f => okTrn t && trnLegal (.bne t f)
  | .blt t f => okTrn t && trnLegal (.blt t f)
  | .bge t f => okTrn t && trnLegal (.bge t f)
  | .bltu t f => okTrn t && trnLegal (.bltu t f)
  | .bgeu t f => okTrn t && trnLegal (.bgeu t f)
  | .jmp t f => okTrn t && trnLegal (.jmp t f)
  | .jmpr t f => okTrn t && trnLegal (.jmpr t f)
  | .ld t f => okTrn t && trnLegal (.ld t f)
  | .ldu t f => okTrn t && trnLegal (.ldu t f)
  | .st t f => okTrn t && trnLegal (.st t f)
  | .vld t f => okTrn t && trnLegal (.vld t f)
  | .vst t f => okTrn t && trnLegal (.vst t f)
  | .vstm t f => okTrn t && trnLegal (.vstm t f)
  | .vldb t f => okTrn t && trnLegal (.vldb t f)
  | .varith t f => okTrn t && trnLegal (.varith t f)
  | .vsarith t f => okTrn t && trnLegal (.vsarith t f)
  | .vcmp t f => okTrn t && trnLegal (.vcmp t f)
  | .vfma t f => okTrn t && trnLegal (.vfma t f)
  | .vcvt t f => okTrn t && trnLegal (.vcvt t f)
  | .vmove t f => okTrn t && trnLegal (.vmove t f)
  | .vred t f => okTrn t && trnLegal (.vred t f)
  | .vquant t f => okTrn t && trnLegal (.vquant t f)
  | .vspec t f => okTrn t && trnLegal (.vspec t f)
  | .vsel t f => okTrn t && trnLegal (.vsel t f)
  | .vrand t f => okTrn t && trnLegal (.vrand t f)
  | .vissue t f => okTrn t && trnLegal (.vissue t f)
  | .vissueResume t => okTrn t
  | .dissue t f => okTrn t && trnLegal (.dissue t f)
  | .dissueResume t => okTrn t
  | .swait t f => okTrn t && trnLegal (.swait t f) && okSel f 0
  | .swaitResume t => okTrn t
  | .ssig t f => okTrn t && trnLegal (.ssig t f) && okSel f 1
  | .spoll t f => okTrn t && trnLegal (.spoll t f) && okSel f 2
  | .tend t f => okTrn t && trnLegal (.tend t f) && okSel f 0
  | .tyield t f => okTrn t && trnLegal (.tyield t f) && okSel f 1
  | .tyieldResume t g i => okTrn t && ok32 g && ok32 i
  | .trap t f => okTrn t && trnLegal (.trap t f) && okSel f 2
  | .sysr t f => okTrn t && trnLegal (.sysr t f) && okSel f 3
  | .trnIllegal t w => okTrn t && okIllegal w
  | .graphLoad h handle coll group => okHdr h && ok32 handle && ok32 coll && ok32 group
  | .graphRun h graph band comp binding => okHdr h && ok32 graph && ok32 band && ok32 comp && ok32 binding
  | .graphAbort h graph => okHdr h && ok32 graph
  | .graphDrop h graph => okHdr h && ok32 graph
  | .graphDropComplete g => ok32 g
  | .instanceStart g => ok32 g
  | .residencyRequest g i => ok32 g && ok32 i
  | .residencySpaceGrant c => okCluster c
  | .objSpaceWaitExpiry c => okCluster c
  | .taskRelease g i => ok32 g && ok32 i
  | .taskDispatch isVat u => okUnit isVat u
  | .taskSteal isVat u => okUnit isVat u
  | .taskComplete g i => ok32 g && ok32 i
  | .overBudget g i => ok32 g && ok32 i
  | .budgetHang g i => ok32 g && ok32 i
  | .objCreate h kind size coll home place region entry aux => okHdr h && ok32 kind && ok64 size && ok32 coll && ok32 home && ok32 place && ok32 region && ok32 entry && ok32 aux
  | .objFree h handle => okHdr h && ok32 handle
  | .objectRelease idx => ok32 idx
  | .objPromote h handle pos => okHdr h && ok32 handle && ok32 pos
  | .objEvict h handle pos => okHdr h && ok32 handle && ok32 pos
  | .objPlace h handle place => okHdr h && ok32 handle && ok32 place
  | .objQuery h handle => okHdr h && ok32 handle
  | .promotionComplete idx pos => ok32 idx && ok32 pos
  | .evictionComplete idx pos => ok32 idx && ok32 pos
  | .pinGrant idx => ok32 idx
  | .moveStart id e => ok32 id && okEngine e
  | .moveComplete id => ok32 id
  | .fetchPost id => ok32 id
  | .fetchAnswer stream _ => ok32 stream
  | .objFetchTmoExpiry fid => ok32 fid
  | .fetchCancelHoldEnd stream => ok32 stream
  | .fetchNack h fid => okHdr h && ok32 fid
  | .caveOpen h coll sets => okHdr h && ok32 coll && ok32 sets
  | .caveWrite h region entry count => okHdr h && ok32 region && ok32 entry && ok32 count
  | .caveSeal h region => okHdr h && ok32 region
  | .caveRelease h region => okHdr h && ok32 region
  | .caveSlice h dur excl => okHdr h && ok32 dur && ok32 excl
  | .caveScan h mode => okHdr h && ok32 mode
  | .caveProgramFail set ch => ok32 set && ok32 ch
  | .cavePageRead set stripe ch _ => ok32 set && ok32 stripe && ok32 ch
  | .readRetry set stripe ch _ => ok32 set && ok32 stripe && ok32 ch
  | .caveRebuild set stripe ch _ => ok32 set && ok32 stripe && ok32 ch
  | .peerCopyTimeout idx => ok32 idx
  | .sliceEnd => true
  | .relocationDone set ch => ok32 set && ok32 ch
  | .mapFlip set ch => ok32 set && ok32 ch
  | .eraseComplete region => ok32 region
  | .readCounterCheckpoint => true
  | .tableLoad h => okHdr h
  | .tableReplace h slot => okHdr h && ok32 slot
  | .tableDrop h slot => okHdr h && ok32 slot
  | .tableSlotFree n => ok32 n
  | .stepAdmission => true
  | .stepCommit g => ok32 g
  | .pressingComplete hoop => ok32 hoop
  | .pageWaitServed cls => ok32 cls
  | .reclaim a => ok32 a
  | .accService h svc => okHdr h && ok32 svc
  | .accStopset h set => okHdr h && ok32 set
  | .accSubmit h p => okHdr h && okSubmit p
  | .promptWritten a => ok32 a
  | .accCancel h a tag => okHdr h && ok32 a && ok32 tag
  | .accSuspend h a => okHdr h && ok32 a
  | .accResume h a => okHdr h && ok32 a
  | .accHoldAll h => okHdr h
  | .accResumeAll h => okHdr h
  | .deadlineCountdown => true
  | .finalRecordSent a => ok32 a
  | .wgtLoad h handle fmt count stream whey widx => okHdr h && ok32 handle && ok32 fmt && ok32 count && ok32 stream && ok32 whey && ok32 widx
  | .wheelArrival load _ => ok32 load
  | .wgtHostTmoExpiry load => ok32 load
  | .wgtExpect h handle objId fmt whey widx => okHdr h && ok32 handle && ok32 objId && ok32 fmt && ok32 whey && ok32 widx
  | .wgtBcast h group reader region entry mask => okHdr h && ok32 group && ok32 reader && ok32 region && ok32 entry && ok32 mask
  | .broadcastWheel load k _ => ok32 load && ok32 k
  | .wgtWheelTmoExpiry load k => ok32 load && ok32 k
  | .directRequestTimeout load k => ok32 load && ok32 k
  | .broadcastMemberReport load src rereq direct => ok32 load && okPkg src && ok32 rereq && ok32 direct
  | .wgtGrant h handle grantee => okHdr h && ok32 handle && ok32 grantee
  | .wgtRevoke h handle grantee => okHdr h && ok32 handle && ok32 grantee
  | .adpLoad h slot handle => okHdr h && ok32 slot && ok32 handle
  | .adpFree h slot => okHdr h && ok32 slot
  | .adpPublish h train layout adapter => okHdr h && ok32 train && ok32 layout && ok32 adapter
  | .adpExport h handle => okHdr h && ok32 handle
  | .wgtReplace h plan => okHdr h && ok32 plan
  | .groupStaged k => ok32 k
  | .flip k => ok32 k
  | .wgtResume h plan => okHdr h && ok32 plan
  | .wgtAbandon h => okHdr h
  | .trainingComplete p _ sysid nbPkg nbPort => okFabPort p && ok32 sysid && okPkg nbPkg && okPkg nbPort
  | .trainingRetry p => okFabPort p
  | .flitReceive p flit => okFabPort p && okFlit flit
  | .nak p ack => okFabPort p && ok12 ack
  | .linkNoProgress p => okFabPort p
  | .idleFlitSend p => okFabPort p
  | .keepaliveTimeout p => okFabPort p
  | .portDown m pkg port nb => okMsg m && okPkg pkg && okPkg port && okPkg nb
  | .cack m acked => okMsg m && ok32 acked
  | .controlResend dst serial => okPkg dst && ok16 serial
  | .start m gid inst band gen => okMsg m && ok32 gid && ok32 inst && ok32 band && ok32 gen
  | .edge m inst edge _ => okMsg m && ok32 inst && ok32 edge
  | .report m record => okMsg m && okRecord record
  | .pace m reason rate extra valid => okMsg m && ok32 reason && ok32 rate && ok32 extra && ok32 valid
  | .paceResend => true
  | .paceLapse src => okPkg src
  | .manifest m load reader region entry objId count mask => okMsg m && ok32 load && okPkg reader && ok32 region && ok32 entry && ok32 objId && ok32 count && ok32 mask
  | .loadDone m load => okMsg m && ok32 load
  | .rereq m load k => okMsg m && ok32 load && ok32 k
  | .miss m load k => okMsg m && ok32 load && ok32 k
  | .direct m load k => okMsg m && ok32 load && ok32 k
  | .peerCopy m objId first count => okMsg m && ok32 objId && ok32 first && ok32 count
  | .remoteMoveReceive src vc dstH gid coll off mtag _ => okPkg src && ok32 vc && ok32 dstH && ok32 gid && ok32 coll && ok64 off && ok32 mtag
  | .writeAck m mtag status => okMsg m && ok32 mtag && ok32 status
  | .remoteMoveRetry id => ok32 id
  | .remoteMoveTimeout id => ok32 id
  | .twinPageReceive src acc coll la hh k mtag _ => okPkg src && ok32 acc && ok32 coll && ok32 la && ok32 hh && ok32 k && ok32 mtag
  | .twinState m acc entry tpages tokens => okMsg m && ok32 acc && okRecord entry && ok32 tpages && ok32s tokens
  | .twinAck m acc status => okMsg m && ok32 acc && ok32 status
  | .cmdRelay m record => okMsg m && okRecord record
  | .cmdReply => true
  | .secCollOpen h coll => okHdr h && ok32 coll
  | .secKeyInstall h coll => okHdr h && ok32 coll
  | .secCollClose h coll => okHdr h && ok32 coll
  | .closureScrub coll => ok32 coll
  | .secFwStage h => okHdr h
  | .secFwDiscard h => okHdr h
  | .secFwCommit h => okHdr h
  | .secLifecycle h => okHdr h
  | .secDebugUnlock h => okHdr h
  | .secDebugClose h => okHdr h
  | .secCerts h => okHdr h
  | .secDebugNonce h => okHdr h
  | .secAttest h coll => okHdr h && ok32 coll
  | .nonceLapse => true
  | .nonceLockEnd => true
  | .d2SessionExpiry => true
  | .fwFallback => true
  | .domainWakeComplete d => okDom d
  | .domainFall d => okDom d
  | .packageStateEntry => true
  | .wakeN => true
  | .i3cTransferInSleep => true
  | .xtalStable => true
  | .xtalFail => true
  | .governorLevelChange kind c level reason cause => ok32 kind && okCluster c && ok32 level && ok32 reason && ok32 cause
  | .levelStep kind c => ok32 kind && okCluster c
  | .regulatorSettle kind c => ok32 kind && okCluster c
  | .gradientStepDown c => okCluster c
  | .supplyLow => true
  | .energyInterval d uj shares => okDom d && ok64 uj && okShares shares
  | .coolantLost => true
  | .coolantRestored => true
  | .keepSequence => true
  | .pwrShutdown h => okHdr h
  | .vinReturn => true
  | .faultDetection site unit mech addr detail => ok32 site && ok32 unit && ok32 mech && ok32 addr && ok32 detail
  | .faultEntryHandled => true
  | .selfTestComplete site unit _ => ok32 site && ok32 unit
  | .watchdogExpiry site unit => ok32 site && ok32 unit
  | .instanceStall g => ok32 g
  | .usbAttach link => ok32 link
  | .usbDetach => true
  | .usbBusReset => true
  | .usbSuspend => true
  | .usbResume => true
  | .unassignedOpcode h opcode => okHdr h && ok32 opcode
  | .commandData _ stream _ => ok32 stream
  | .hostDataTmoExpiry _ tag => ok32 tag
  | .recordSend _ _ => true
  | .csRead addr len => ok32 addr && ok32 len
  | .csWrite addr words => ok32 addr && ok32s words
  | .setLatTol us => ok32 us
  | .mgtDoorbell val => ok32 val
  | .mgtRec => true
  | .mgtEvt => true
  | .mgtOwnershipLapse => true
  | .entdaa addr => ok32 addr
  | .setdasa addr => ok32 addr
  | .rstdaa => true
  | .ownClaim h => okHdr h
  | .ownRelease h => okHdr h
  | .ownHandover h target => okHdr h && ok32 target
  | .ownAccept h => okHdr h
  | .handoverTimeout => true
  | .electionClose => true
  | .ownCtrlClaim => true
  | .ownCtrlRelease => true
  | .chgCheck h => okHdr h
  | .chgApply h => okHdr h
  | .chgDiscard h => okHdr h
  | .chgCtrlCheck _ => true
  | .chgCtrlApply _ => true
  | .chgCtrlDiscard _ => true
  | .chgDiscarded => true
  | .rsStagedWrite _ addr val => ok32 addr && ok32 val
  | .registerWrite _ addr val => ok32 addr && ok32 val
  | .pwrOwnerVote _ w val => ok32 w && ok32 val
  | .pwrLatTol _ val => ok32 val
  | .vatCntClr _ v val => okVat v && ok32 val
  | .trnCntClr _ t val => okTrn t && ok32 val
  | .graCntClr _ val => ok32 val
  | .objCntClr _ val => ok32 val
  | .caveCntClr _ val => ok32 val
  | .dxCntClr _ e val => okEngine e && ok32 val
  | .kveCntClr _ val => ok32 val
  | .accCntClr _ val => ok32 val
  | .wgtCntClr _ val => ok32 val
  | .fabCntClr _ val => ok32 val
  | .secCntClr _ val => ok32 val
  | .fltCntClr _ val => ok32 val
  | .pwrCntClr _ val => ok32 val
  | .thrClr _ val => ok32 val
  | .nrgClr _ val => ok32 val
  | .vstbyValid => true
  | .coldStart b => okBoot b
  | .vstbyInvalid => true
  | .resetN => true
  | .resetPackage h => okHdr h
  | .resetCluster h c => okHdr h && ok32 c
  | .vatFence h v => okHdr h && ok32 v
  | .vatUnfence h v => okHdr h && ok32 v
  | .resetPort h p => okHdr h && ok32 p
  | .monitorSessionTimeout => true
  | .wakeCharacter => true
  | .help => true
  | .id => true
  | .state => true
  | .votes d => d.all okDom
  | .throttle => true
  | .energy => true
  | .faults => true
  | .log n => ok32 n
  | .traceOn => true
  | .traceOff => true
  | .traceHalt t => okTrn t
  | .traceStep t => okTrn t
  | .traceGo t => okTrn t
  | .peekCs a n => ok32 a && ok32 n
  | .peekDev a n => ok32 a && ok32 n
  | .pokeCs a val => ok32 a && ok32 val
  | .pokeDev a val => ok32 a && ok32 val
  | .dumpCs a n => ok32 a && ok32 n
  | .dumpDev a n => ok32 a && ok32 n
  | .claim => true
  | .release => true
  | .unlock => true
  | .unlockToken _ => true
  | .wake => true
  | .thermalTrip sensor temp => ok32 sensor && ok32 temp
  | .bypass => true
  | .idcode => true
  | .samplePreload _ => true
  | .extest => true
  | .clamp => true
  | .highz => true
  | .resetNRisingEdge strap => ok32 strap
  | .vinFirstAt6v => true
  | .vio18Loss => true
  | .vio18Return => true
  | .wakeNDriveEnd _ => true
  | .hdrEntry => true
  | .hdrExitPattern => true

end Sys2Proof
end

