-- ==== Sys2Proof/Safety.lean ====
section
/-! DEFINITION. The terms in which the statements speak of runs: a command that completes, a command record that is accepted,
an owner that may write, a vat or a turner that can execute. -/

namespace Sys2Proof.Machine

open Sys2Proof

/-- The command completes on `s` with the next state `t`: neither a fault nor a refusal. -/
abbrev Runs (c : Instr) (s t : State) : Prop := exec c s = .next t

/-- R566-R570, R584: a command record that brings no data is taken and accepted. -/
structure Accepted (h : Hdr) (n : Need) (s : State) : Prop where
  /-- the port's record is taken -/
  taken : takes h.port s = true
  /-- no check of acceptance refuses it -/
  fine : refusal h n s = none
  /-- it brings no data -/
  bare : h.dlen = 0

/-- R569: the state in which an accepted command has its effect: the record is counted and outstanding. -/
def entered (h : Hdr) (c : Instr) (s : State) : State := addOut h false c (countCommand h.port s)

/-- R571, R573: what an accepted command leaves that has the effect `f` and ends OK with the value `v`. -/
def replied (h : Hdr) (c : Instr) (s : State) (v : Nat) (f : State → State) : State :=
  answer h.port h.tag (Ans.ok v) (f (entered h c s))

/-- R566-R570, R580: a command record that brings data is taken and accepted, and its data `d` are there: in MGT_DATA, or at the
front of its stream. -/
structure AcceptedData (h : Hdr) (n : Need) (s : State) (d : Bytes) : Prop where
  /-- the port's record is taken -/
  taken : takes h.port s = true
  /-- no check of acceptance refuses it -/
  fine : refusal h n s = none
  /-- it brings data -/
  some : h.dlen ≠ 0
  /-- where the data are -/
  here : h.port = .mgt ∧ d = mread s.host.mgtData 0 h.dlen ∨
    h.port ≠ .mgt ∧ streamBusy h.port h.stream s = false ∧ h.dlen ≤ (streamBuf h.port h.stream s).length ∧
      d = (streamBuf h.port h.stream s).take h.dlen

/-- R569, R570: the state in which an accepted command has its effect on data that are there. -/
def enteredData (h : Hdr) (c : Instr) (s : State) : State :=
  if h.port = .mgt then entered h c s else takeStream h.port h.stream h.dlen (entered h c s)

/-- R571, R573: what an accepted command with data leaves that has the effect `f` and ends OK with the value `v`. -/
def repliedData (h : Hdr) (c : Instr) (s : State) (v : Nat) (f : State → State) : State :=
  answer h.port h.tag (Ans.ok v) (f (enteredData h c s))

/-- R584, R595: the port is the owner, and it can write registers now. -/
structure OwnerWrites (p : Port) (s : State) : Prop where
  /-- the port reaches the control space -/
  able : canWrite p s = true
  /-- it is the owner -/
  owner : s.host.owner = some p

/-- R112, R113: vat `v` executes the command `w` of code `op` for task `k`, and no common condition ends it. -/
structure VatRuns (v : Nat) (w : BitVec 128) (op : Nat) (s : State) (k : TaskRef) : Prop where
  /-- the command is at the head of a running vat -/
  ready : vatReady s v w op = true
  /-- the vat's task -/
  bound : (s.vat v).bound = some k
  /-- R113: no common condition ends it -/
  fine : vatCommon (popCmd s v) k w = none

/-- R99, R191: the signal with which a command of vat `v` that completes ends; the turner that waits for the vat's work
goes on. -/
def vatSignal (v : Nat) (w : BitVec 128) (k : TaskRef) (t : State) : State :=
  goOn (if vSIG w then settle (taskSignal t k (vSYNC w)) k.g else t) v

/-- R158, R163: turner `t` executes an instruction for task `k`. -/
structure TrnRuns (t : Nat) (s : State) (k : TaskRef) : Prop where
  /-- clocks run, and the turner is bound, running, not waiting and not halted -/
  ready : trnReady s t = true
  /-- the turner's task -/
  bound : (s.trn t).bound = some k

/-- R155, R200: an instruction of turner `t` that changes its turner by `f` and retires. -/
def done (t : Nat) (f : Turner → Turner) (s : State) : State := retire (s.modTrn t f) t ((s.trn t).pc + 4)

/-- R156: the byte at a window lies among the `n` bytes from the window `w`. -/
def Win.covers (w : Win) (n : Nat) (b : Win) : Bool :=
  match w, b with
  | .scratch o, .scratch a => o ≤ a && a < o + n
  | .near o, .near a => o ≤ a && a < o + n
  | _, _ => false

/-- R447, R466: a control message that is acted on: its sender is known, neither lost nor barred, and it is not a repeat. -/
structure Heard (m : Msg) (s : State) : Prop where
  /-- the package is in service -/
  able : serviceOn s = true
  /-- the sender is a package number -/
  named : m.src < 24
  /-- the sender has not been lost -/
  kept : s.fab.lost.contains m.src = false
  /-- the sender may speak -/
  admitted : s.fab.barred.contains m.src = false
  /-- R447: its SERIAL has not been acted on -/
  fresh : s.fab.seen.contains (m.src, m.serial) = false

/-- R447: the state in which a control message has its effect: its SERIAL is noted and its CACK is sent. -/
def heard (m : Msg) (s : State) : State :=
  let older := s.fab.seen.filter fun e => e.1 != m.src || (m.serial + 65536 - e.2) % 65536 < 32768
  sendCack (modFab s fun b => { b with seen := (m.src, m.serial) :: older }) m

end Sys2Proof.Machine
end

