-- ==== Sys2Proof/Certificates/Slice0/Obligations.lean ====
section
/-! DEFINITION. The statements about the model, one definition each: what each family of commands does, from the numbered rules of
spec/. -/

open Sys2Proof
open Sys2Proof.Machine

/-- The queue is first in, first out: a step takes the command at its front and runs it on the state with the rest; on an
empty queue the package idles (the model's choice, notes/assumptions/2.md). -/
def Obligations.StepTakesFront : Prop :=
  (∀ (s : State) (c : Instr), step { s with pending := c :: s.pending } = exec c s) ∧
    ∀ s : State, s.pending = [] → step s = .next s

/-- R124, R200, R240, R242-R246, R280, R317, R339, R340, R380, R404, R435, R468, R502, R532-R534, R559, R593, R594: the
registers of every block read their stated reset values after reset, and nothing waits. after reset the stores list no
byte, which is their canonical form, and a step on the empty queue leaves the machine as it is. -/
def Obligations.ResetLeavesTheStatedValues : Prop :=
  (let s := State.reset
  s.pending = [] ∧ s.host.owner = none ∧ s.sec.keys = [] ∧ s.sec.level = 0 ∧ s.flt.fenced = [] ∧ s.acc.tab = [] ∧
  (∀ i, objAt s i = none) ∧ (∀ g, graphOf s g = none) ∧
  (∀ e ∈ [(0x00000, 0x2400), (0x01000, 0), (0x0100C, 0), (0x01010, 0), (0x02000, 0), (0x02018, 0), (0x0201C, 0)],
    readWord s e.1 = e.2) ∧
  (∀ e ∈ [(0x10000, 0), (0x10140, 0), (0x10700, 0), (0x10704, 150), (0x10708, 300), (0x1070C, 0x677), (0x10710, 100), (0x10714, 150),
    (0x10718, 0), (0x10740, 6), (0x10748, 0), (0x18000, 0), (0x18008, 0), (0x1800C, 0), (0x18080, 0)], readWord s e.1 = e.2) ∧
  (∀ e ∈ [(0x20000, 0), (0x20004, 0), (0x20008, 0), (0x20028, 0), (0x20040, 0), (0x2004C, 0), (0x30004, 0), (0x30030, 0), (0x30040, 0),
    (0x30140, 0), (0x3014C, 0)], readWord s e.1 = e.2) ∧
  (∀ e ∈ [(0x40000, 0), (0x40004, 16384), (0x40008, 4096), (0x40010, 0), (0x40034, 0), (0x40040, 0), (0x50000, 4096), (0x50004, 0),
    (0x50020, 4), (0x50024, 256), (0x50028, 0), (0x5002C, 0), (0x50100, 1), (0x50200, 0)], readWord s e.1 = e.2) ∧
  (∀ e ∈ [(0x60000, 0), (0x60010, 0), (0x60060, 64), (0x60064, 50), (0x60068, 0), (0x6006C, 0), (0x60100, 131072), (0x60200, 0),
    (0x60300, 0)], readWord s e.1 = e.2) ∧
  (∀ e ∈ [(0x70000, 0), (0x70004, 32768), (0x70010, 0), (0x70020, 4), (0x70024, 10), (0x70028, 500), (0x7004C, 0), (0x70100, 0),
    (0x70500, 1), (0x7053C, 1), (0x70540, 0), (0x7054C, 20), (0x70550, 1000), (0x70554, 0), (0x70580, 0)], readWord s e.1 = e.2) ∧
  (∀ e ∈ [(0x80000, 0), (0x80010, 200), (0x80014, 0), (0x80038, 0), (0x80100, 0), (0x90004, 0), (0x90008, 0), (0x9000C, 0), (0x90010, 31),
    (0x90014, 3), (0x90018, 0), (0x9001C, 0), (0x90020, 0), (0x90100, 0x400)], readWord s e.1 = e.2) ∧
  (∀ e ∈ [(0xA0000, 0), (0xA0004, 0), (0xA0008, 1000), (0xA0010, 0), (0xB0000, 0), (0xB0004, 0x4C)], readWord s e.1 = e.2) ∧
  ∀ e ∈ [(0x104000, 1), (0x104008, 0), (0x10402C, 0), (0x105000, 1), (0x105014, 0), (0x106000, 1), (0x106008, 0), (0x174100, 1)],
    readWord s e.1 = e.2) ∧
  (State.reset.main.wf = true ∧ (∀ m ∈ State.reset.near, Memory.wf m = true) ∧ State.reset.kve.frames.wf = true ∧
  State.reset.near.length = 8 ∧ State.reset.wgt.repl = none ∧ ∀ s : State, s.pending = [] → step s = .next s)

/-- R242-R246, R342, R428: the bytes of main store, of the near stores, of the page frames and of staged contents keep the
one canonical form in which this model holds memory (addresses rising, no zero byte listed), whatever command runs. -/
def Obligations.StoresStayCanonical : Prop :=
  ∀ s t : State,
    s.main.wf = true → (∀ m ∈ s.near, Memory.wf m = true) → s.kve.frames.wf = true →
    (∀ r, s.wgt.repl = some r → ∀ e ∈ r.plan, e.data.wf = true) → step s = .next t →
      t.main.wf = true ∧ (∀ m ∈ t.near, Memory.wf m = true) ∧ t.kve.frames.wf = true ∧
      ∀ r, t.wgt.repl = some r → ∀ e ∈ r.plan, e.data.wf = true

/-- R124, R200, R240, R280, R317, R339, R380, R404, R435, R468, R502, R507, R509, R532-R534, R559, R589: what an owner's
write does to the registers that take effect at once, and to an RS register, whose staged copy alone changes. a write
of 1 by the owner to a clear register sets the counters of its block to 0 and changes nothing else. -/
def Obligations.RegisterWritesTakeEffect : Prop :=
  (∀ (p : Port) (val : Nat) (s : State), OwnerWrites p s → val < 2 ^ 32 →
    Runs (.pwrLatTol p val) s { s with pwr := { s.pwr with latTol := val } } ∧
    (∀ w, w < 2 → Runs (.pwrOwnerVote p w val) s { s with pwr := { s.pwr with ownerVotes := s.pwr.ownerVotes.set w val } }) ∧
    Runs (.pwrOwnerVote p 2 val) s { s with pwr := { s.pwr with ownerVotes := s.pwr.ownerVotes.set 2 (val % 2 ^ 16) } } ∧
    (∃ t, Runs (.thrClr p val) s t ∧ t = { s with pwr := t.pwr } ∧ ∀ r, r < 8 →
      (t.pwr.thrDur.getD r 0, t.pwr.thrEnt.getD r 0, t.pwr.thrCause.getD r 0) =
        if bit val r then (0, 0, 0) else (s.pwr.thrDur.getD r 0, s.pwr.thrEnt.getD r 0, s.pwr.thrCause.getD r 0)) ∧
    (∀ (a : Nat) (r : RsReg), rsAt s a = some r → a % 4 = 0 → a ≠ 0x2010 → a ≠ 0x1008 → isMailbox a = false →
      s.host.applying = none → Runs (.rsStagedWrite p a val) s { s with host := { s.host with
        chgTick := if s.host.staged.isEmpty then s.tick else s.host.chgTick
        staged := tset s.host.staged r.addr (r.mask val) } }) ∧
    Runs (.registerWrite p 0x20100 val) s { s with flt := { s.flt with sel := val % 2 ^ 8 } } ∧
    ∀ q, q ≠ p → canWrite q s = true →
      Runs (.registerWrite q 0x20100 val) s { s with host := { s.host with denied := satAdd32 s.host.denied 1 } }) ∧
  (∀ (p : Port) (val : Nat) (s : State), OwnerWrites p s → bit val 0 = true →
    (∀ v, v < 16 → Runs (.vatCntClr p v val) s (s.modVat v fun x =>
      { x with passes := 0, chkDet := 0, grantWait := 0, idleExits := 0 })) ∧
    (∀ t, t < 64 → Runs (.trnCntClr p t val) s (s.modTrn t fun x =>
      { x with retired := 0, laneDet := 0, excLast := 0, tasks := 0 })) ∧
    Runs (.graCntClr p val) s { s with gra := { s.gra with
      instances := 0, tasks := 0, stealsSib := 0, stealsFar := 0, reexec := 0, hangs := 0, overB := 0 } } ∧
    Runs (.objCntClr p val) s { s with obj := { s.obj with
      promotions := 0, evictions := 0, spills := 0, collide := 0, allocFail := 0 } } ∧
    Runs (.caveCntClr p val) s { s with cave := { s.cave with
      nReads := 0, retries := 0, rebuilds := 0, damaged := 0, relocs := 0, rdOver := 0 } } ∧
    (∀ e, e < 16 → Runs (.dxCntClr p e val) s (s.modDx e fun x =>
      { x with bytesIn := 0, bytesOut := 0, rawFrames := 0, det := 0, stall := 0, moved := 0 })) ∧
    Runs (.kveCntClr p val) s { s with kve := { s.kve with
      pressings := 0, pageWaits := 0, reclaims := 0, truncated := 0, viewDenied := 0, hoopWaits := 0, spanFull := 0 } } ∧
    Runs (.accCntClr p val) s { s with acc := { s.acc with
      submitted := 0, nsteps := 0, tokens := 0, draftsProp := 0, draftsAcc := 0, expired := 0, lateTok := 0, cancels := 0,
      tooLate := 0 } } ∧
    Runs (.wgtCntClr p val) s { s with wgt := { s.wgt with
      wheels := 0, failed := 0, rereq := 0, direct := 0, swaps := 0, duplicate := 0 } } ∧
    Runs (.fabCntClr p val) s { s with fab := { s.fab with
      crcErr := 0, retries := 0, ttlDrop := 0, resent := 0, paceSent := 0, paceRcvd := 0, twinPages := 0, twinResumed := 0 } } ∧
    Runs (.secCntClr p val) s { s with sec := { s.sec with attests := 0, unlocks := 0, unlockFail := 0, nclosures := 0 } } ∧
    Runs (.fltCntClr p val) s { s with flt := { s.flt with
      detections := 0, masked := 0, corrected := 0, hangs := 0, stalls := 0, dataLost := 0 } } ∧
    Runs (.pwrCntClr p val) s { s with pwr := { s.pwr with dref := [], dabt := [] } } ∧
    Runs (.nrgClr p val) s { s with pwr := { s.pwr with nrgColl := [], nrgBand := [], nrgUn := 0, nrgTotal := 0, nrgDom := [] } })

/-- R582, R583, R585-R587: an OWN_CLAIM ends STATE while the package has an owner; it waits for the close of an open
election; otherwise the port becomes owner at once. at the close of an election the claimant of the highest rank is
owner; with no claim there is no owner. release, handover, lapse and the monitor's claim and release. -/
def Obligations.OwnershipIsClaimedElectedAndMoved : Prop :=
  (∀ (h : Hdr) (s : State), Accepted h { anyone := true } s →
    (s.host.owner.isSome = true →
      Runs (.ownClaim h) s (answer h.port h.tag (Ans.err stSTATE) (entered h (.ownClaim h) s))) ∧
    (s.host.owner = none → s.host.ownState = 1 →
      ∃ t, Runs (.ownClaim h) s t ∧ t = { entered h (.ownClaim h) s with host := t.host } ∧
        t.host = { (entered h (.ownClaim h) s).host with claims := s.host.claims ++ [(h.port, some h.tag)] }) ∧
    (s.host.owner = none → s.host.ownState ≠ 1 →
      Runs (.ownClaim h) s (replied h (.ownClaim h) s 0 (becomeOwner h.port)))) ∧
  (∀ s : State, serviceOn s = true → s.host.ownState = 1 → s.host.owner = none →
    (s.host.claims = [] → Runs .electionClose s { s with host := { s.host with ownState := 0 } }) ∧
    ∀ c ∈ s.host.claims, (∀ d ∈ s.host.claims, portRank s c.1 ≤ portRank s d.1) →
      ∃ t, Runs .electionClose s t ∧ t.host.owner = some c.1 ∧ t.host.ownState = 2 ∧ t.host.claims = [] ∧
        t.host.changes = satAdd32 s.host.changes 1 ∧ t.vats = s.vats ∧ t.acc = s.acc ∧ t.rs = s.rs) ∧
  ((∀ (h : Hdr) (s : State), Accepted h {} s →
    s.host.owner = some h.port ∧
    Runs (.ownRelease h) s (replied h (.ownRelease h) s 0 loseOwner) ∧
    ∀ (code : Nat) (p : Port), portOf code = some p → p ≠ h.port → s.host.ownState ≠ 3 →
      ∃ t, Runs (.ownHandover h code) s t ∧ t = { entered h (.ownHandover h code) s with host := t.host } ∧
        t.host = { (entered h (.ownHandover h code) s).host with ownState := 3, target := some (p, h.tag) }) ∧
  (∀ (h : Hdr) (s : State) (o : Port) (tag : Nat), Accepted h { anyone := true } s → s.host.owner = some o →
    s.host.ownState = 3 → s.host.target = some (h.port, tag) →
      Runs (.ownAccept h) s (replied h (.ownAccept h) s 0 fun u => answer o tag (Ans.ok 0) (becomeOwner h.port u))) ∧
  (∀ (s : State) (o p : Port) (tag : Nat), serviceOn s = true → s.host.owner = some o → s.host.ownState = 3 →
    s.host.target = some (p, tag) →
      Runs .handoverTimeout s
        (answer o tag (Ans.err stSTATE) { s with host := { s.host with ownState := 2, target := none } })) ∧
  (∀ s : State, canWrite .monitor s = true → s.host.owner = none →
    Runs .ownCtrlClaim s (if s.host.ownState = 1 then
        { s with host := { s.host with claims := s.host.claims ++ [(.monitor, none)] } }
      else becomeOwner .monitor s)) ∧
  (∀ s : State, canWrite .monitor s = true → s.host.owner = some .monitor → Runs .ownCtrlRelease s (loseOwner s)) ∧
  (∀ s : State, serviceOn s = true → s.host.owner = some .mgt → Runs .mgtOwnershipLapse s (loseOwner s)) ∧
  ∀ (s : State) (p : Port),
    ((becomeOwner p s).host.owner = some p ∧ (becomeOwner p s).host.ownState = 2 ∧ (becomeOwner p s).host.claims = []) ∧
    (loseOwner s).host.owner = none ∧ (loseOwner s).host.ownState = 1 ∧ (loseOwner s).host.claims = [])

/-- R590, R592: CHG_CHECK answers OK or the conflict of the lowest address, which CHG_CONFLICT then shows; CHG_DISCARD,
like a set of 10 s, empties the staged set; CHG_CTRL does the same without a reply. -/
def Obligations.ChangeSetsAreCheckedAndDiscarded : Prop :=
  (∀ (h : Hdr) (s : State), Accepted h {} s →
    (checkSet s = none → Runs (.chgCheck h) s (replied h (.chgCheck h) s 0 id)) ∧
    (∀ c, checkSet s = some c →
      Runs (.chgCheck h) s (answer h.port h.tag (conflictAns c) (noteConflict c (entered h (.chgCheck h) s)))) ∧
    (s.host.applying = none → Runs (.chgDiscard h) s (replied h (.chgDiscard h) s 0 discardSet))) ∧
  (∀ (p : Port) (s : State), OwnerWrites p s →
    Runs (.chgCtrlCheck p) s (match checkSet s with | some c => noteConflict c s | none => s) ∧
    (s.host.applying = none → Runs (.chgCtrlDiscard p) s (discardSet s))) ∧
  (∀ s : State, serviceOn s = true → Runs .chgDiscarded s (discardSet s)) ∧
  ∀ s : State, s.host.applying = none → s.host.staged ≠ [] →
    (discardSet s).host.staged = [] ∧ (discardSet s).rs = s.rs

/-- R591: an apply whose set has no conflict is pending while a step is in flight and else takes effect in one instant:
every RS register has its staged value, where it has one, and its applied value otherwise, and the set is empty. -/
def Obligations.ApplyTakesEffectAtOnce : Prop :=
  (∀ (h : Hdr) (s : State), Accepted h {} s → checkSet s = none → mapBusy s = false → s.host.applying = none →
    s.host.staged ≠ [] →
      (s.acc.steps ≠ [] → ∃ t, Runs (.chgApply h) s t ∧ t = { entered h (.chgApply h) s with host := t.host } ∧
        t.host = { (entered h (.chgApply h) s).host with applying := some (some (h.port, h.tag)) }) ∧
      (s.acc.steps = [] → ∃ t, Runs (.chgApply h) s t ∧ t.host.applying = none ∧ t.host.staged = [] ∧
        t.host.applied = satAdd32 s.host.applied 1 ∧ t.rs = (overlay s s.host.staged).rs)) ∧
  (∀ (p : Port) (s : State), OwnerWrites p s → checkSet s = none → mapBusy s = false → s.host.applying = none →
    s.host.staged ≠ [] →
      (s.acc.steps ≠ [] → Runs (.chgCtrlApply p) s { s with host := { s.host with applying := some none } }) ∧
      (s.acc.steps = [] → ∃ t, Runs (.chgCtrlApply p) s t ∧ t.host.applying = none ∧ t.host.staged = [] ∧
        t.host.applied = satAdd32 s.host.applied 1 ∧ t.rs = (overlay s s.host.staged).rs)) ∧
  ∀ (s : State) (a : Nat) (r : RsReg), rsAt s a = some r → s.host.staged.Pairwise (fun x y => x.1 < y.1) →
    r.value (overlay s s.host.staged) = (tget s.host.staged a).getD (r.value s)

/-- R575, R576, R635: an event is queued on each attached port of USB and management; where the queue holds 256 events it
is dropped and counted; in SLEEP the package drives WAKE_N. -/
def Obligations.EventsReachAttachedPorts : Prop :=
  ∀ (code : Nat) (payload : Bytes) (s : State),
    (∀ q, (q = Port.usb ∨ q = Port.mgt) → (s.portq q).attached = true →
      ((s.portq q).evts.length < 256 →
        ((sendEvent code payload s).portq q).evts = (s.portq q).evts ++ [mkRec tyEVENT 0 code payload]) ∧
      (256 ≤ (s.portq q).evts.length →
        ((sendEvent code payload s).portq q).evts = (s.portq q).evts ∧
          ((sendEvent code payload s).portq q).lostEv = (s.portq q).lostEv + 1)) ∧
    (∀ q, (s.portq q).attached = false → s.host.owner ≠ some q → (sendEvent code payload s).portq q = s.portq q) ∧
    (s.pwr.pkg = 3 → (sendEvent code payload s).pkg.wakeDriven = true) ∧
    (s.pwr.pkg ≠ 3 → (sendEvent code payload s).pkg = s.pkg)

/-- R566, R567, R569-R573, R584, R588, R601: a command record that the port cannot take is NAKed; one that is taken and
refused ends with its status and no effect, at once, or once its data have been taken from its stream; the refusals of a record without data by its TAG, the mode and the
owner. the answer of an outstanding command is a REPLY at the end of its port's record queue, and the command is no
longer outstanding; a REPLY for a detached USB is discarded and counted. -/
def Obligations.RecordsAreTakenAndAnswered : Prop :=
  ((∀ (h : Hdr) (n : Need) (eff : Effect) (c : Instr) (s : State),
    (takes h.port s = false → hostCmd h n eff c s = s.modPort h.port fun q => { q with naks := q.naks + 1 }) ∧
    ∀ st, takes h.port s = true → refusal h n s = some st →
      (drains h n s = false → hostCmd h n eff c s = reply h.port h.tag h.stream (Ans.err st) (countCommand h.port s)) ∧
      (drains h n s = true → streamBusy h.port h.stream s = false → h.dlen ≤ (streamBuf h.port h.stream s).length →
        hostCmd h n eff c s =
          reply h.port h.tag h.stream (Ans.err st) (takeStream h.port h.stream h.dlen (countCommand h.port s))) ∧
      (drains h n s = true → streamBusy h.port h.stream s = true ∨ (streamBuf h.port h.stream s).length < h.dlen →
        hostCmd h n eff c s = addOut h true c (countCommand h.port s) (some (st, 0)))) ∧
  (∀ (h : Hdr) (n : Need) (s : State), (s.portq h.port).outst.any (·.tag == h.tag) = true → refusal h n s = some stPARAM) ∧
  (∀ (h : Hdr) (n : Need) (s : State), (s.portq h.port).outst.any (·.tag == h.tag) = false → h.flags = 0 → h.stream = 0 → h.dlen = 0 →
    h.rsv = 0 → h.tail = 0 → n.dlen = 0 →
      (s.pkg.phase = .recovery → n.recovery = false → refusal h n s = some stMODE) ∧
      (s.pkg.phase ≠ .recovery → n.anyone = false → s.host.owner ≠ some h.port → refusal h n s = some stNOT_OWNER) ∧
      (s.pkg.phase ≠ .recovery → (n.anyone = true ∨ s.host.owner = some h.port) → refusal h n s = none)) ∧
  ∀ (h : Hdr) (op : Nat) (s : State), Accepted h { anyone := true, recovery := true } s →
    Runs (.unassignedOpcode h op) s
      (answer h.port h.tag (Ans.err stOPCODE) (entered h (.unassignedOpcode h op) s))) ∧
  (∀ (p : Port) (tag : Nat) (a : Ans) (s : State), (findOut p tag s).isSome = true → a.rdata = none →
    ((s.portq p).attached = true →
      ((answer p tag a s).portq p).recs =
          (s.portq p).recs ++ [mkRec tyREPLY tag a.status (le4 a.value ++ le4 a.detail ++ a.small)] ∧
        ((answer p tag a s).portq p).outst = (s.portq p).outst.filter (fun o => !(o.tag == tag && o.fail.isNone))) ∧
    (p = .usb → (s.portq p).attached = false →
      (answer p tag a s).host.discarded = satAdd32 s.host.discarded 1 ∧ ((answer p tag a s).portq p).recs = (s.portq p).recs))

/-- R570, R571, R576: data of a stream on which no command waits is kept; a command whose data do not arrive ends DATA; a
record sent carries the next SEQ and counts. -/
def Obligations.DataAndRecordsPassThePorts : Prop :=
  (∀ (stream : Nat) (bs : Bytes) (s : State), usbLive s = true → serviceOn s = true → 1 ≤ stream → stream ≤ 32 →
    bit (hostFetchStreams s) (stream - 1) = false → streamBusy .usb stream s = false →
      ∃ t, Runs (.commandData .usb stream bs) s t ∧ t = { s with host := t.host } ∧
        t.host = { s.host with usb := { s.host.usb with sbuf := putBuf s.host.usb.sbuf stream (streamBuf .usb stream s ++ bs) } }) ∧
  (∀ (p : Port) (tag : Nat) (o : Outst) (s : State), s.flt.fatal = false →
    (s.portq p).outst.find? (fun o => o.tag == tag && o.waitData) = some o →
    (s.acc.tab.all fun e => e.2.arriving != 1) = true → (s.portq p).attached = true →
      ∃ t, Runs (.hostDataTmoExpiry p tag) s t ∧ (o.fail = none → findOut p tag t = none) ∧
        (o.fail ≠ none → (t.portq p).outst = (s.portq p).outst.erase o) ∧
        (t.portq p).recs = (s.portq p).recs ++ [mkRec tyREPLY tag stDATA (zeros 8)] ∧ t.acc = s.acc ∧ t.obj = s.obj) ∧
  (∀ (r : Rec) (rs : List Rec) (s : State), usbLive s = true → serviceOn s = true → s.host.usb.recs = r :: rs →
    Runs (.recordSend .usb false) s { s with host := { s.host with
      records := satAdd64 s.host.records 1
      usb := { s.host.usb with
        recs := rs, seq := (s.host.usb.seq + 1) % 2 ^ 32, sent := { r with seq := s.host.usb.seq } :: s.host.usb.sent } } }) ∧
  ∀ (r : Rec) (rs : List Rec) (s : State), usbLive s = true → serviceOn s = true → s.host.usb.evts = r :: rs →
    s.host.usb.lostEv = 0 →
      Runs (.recordSend .usb true) s { s with host := { s.host with
        records := satAdd64 s.host.records 1
        usb := { s.host.usb with
          evts := rs, seq := (s.host.usb.seq + 1) % 2 ^ 32, sent := { r with seq := s.host.usb.seq } :: s.host.usb.sent } } }

/-- R509, R512, R514, R561, R577, R578, R584, R587, R588, R601: what attaching, suspending, resuming, resetting and
detaching the USB link do. the vendor requests: a read returns the words of the control space, a write is the owner's,
and one that is not allowed stalls and changes nothing else. -/
def Obligations.UsbLinkAndVendorRequests : Prop :=
  ((∀ (link : Nat) (s : State), 1 ≤ link → link ≤ 4 → s.host.link = 0 → usbConnects s = true →
    ∃ t, Runs (.usbAttach link) s t ∧ t.host.link = link ∧ t.host.linkPm = 0 ∧ t.host.configured = true ∧
      t.host.desc = some (usbDesc s) ∧ t.host.usb = { s.host.usb with attached := true } ∧ t.pkg = { s.pkg with vbus := true } ∧
      (t.host.owner, t.host.ownState) =
        (if s.pkg.phase = .recovery then (some Port.usb, 2) else (s.host.owner, s.host.ownState))) ∧
  (∀ s : State, s.host.link ≠ 0 →
    Runs .usbSuspend s { s with host := { s.host with linkPm := if s.host.link = 1 then 5 else 3 } } ∧
    (s.pwr.pkg ≠ 3 → Runs .usbResume s { s with host := { s.host with linkPm := 0 } }) ∧
    (serviceOn s = true → s.pwr.pkg = 3 →
      Runs .usbResume s (wakePackage { s with host := { s.host with linkPm := 0 } })) ∧
    (serviceOn s = true → s.pwr.pkg ≠ 3 → s.host.owner = some .usb →
      Runs .usbBusReset s (loseOwner { s with host := { s.host with linkPm := 0 } })) ∧
    (serviceOn s = true → s.pwr.pkg ≠ 3 → s.host.owner ≠ some .usb →
      Runs .usbBusReset s { s with host := { s.host with
        linkPm := 0, claims := s.host.claims.filter fun c => c.1 != Port.usb } })) ∧
  ∀ s : State, serviceOn s = true → s.host.usb.attached = true → s.host.ownState ≠ 3 → s.acc.tab = [] →
    s.obj.fetches = [] → (∀ p, (s.portq p).outst = []) →
      ∃ t, Runs .usbDetach s t ∧ t.host.link = 0 ∧ t.host.configured = false ∧ t.pkg.vbus = false ∧
        t.host.usb.attached = false ∧ t.host.usb.recs = [] ∧ t.host.usb.evts = [] ∧ t.host.usb.sbuf = [] ∧
        t.host.discarded = satAdd32 s.host.discarded (s.host.usb.recs.length + s.host.usb.evts.length) ∧
        t.host.owner = (if s.host.owner = some .usb then none else s.host.owner)) ∧
  (∀ s : State, usbLive s = true →
    (∀ addr len, s.pkg.phase = .ready → rangeOK addr len = true →
      Runs (.csRead addr len) s { s with host := { s.host with csOut := readWords s addr (len / 4) :: s.host.csOut } }) ∧
    (∀ addr len, (s.pkg.phase ≠ .ready ∨ rangeOK addr len = false) →
      Runs (.csRead addr len) s { s with host := { s.host with stalls := s.host.stalls + 1 } }) ∧
    (∀ addr words, serviceOn s = true → rangeOK addr (4 * words.length) = true → s.host.owner = some .usb →
      Runs (.csWrite addr words) s (writeWords .usb addr words s)) ∧
    (∀ addr words, (serviceOn s = false ∨ rangeOK addr (4 * words.length) = false ∨ s.host.owner ≠ some .usb) →
      Runs (.csWrite addr words) s { s with host := { s.host with stalls := s.host.stalls + 1 } }) ∧
    (∀ us, us < 2 ^ 32 → serviceOn s = true → s.host.owner = some .usb →
      Runs (.setLatTol us) s { s with pwr := { s.pwr with latTol := us } }) ∧
    (∀ us, s.host.owner ≠ some .usb →
      Runs (.setLatTol us) s { s with host := { s.host with stalls := s.host.stalls + 1 } }) ∧
    (s.flt.fatal = false → readWords s 0x0 2 = [0x2400, s.part.code] ∧
      readWords s 0x1000 1 = [portCode s.host.owner + 8 * s.host.ownState + 32 * portCode (s.host.target.map (·.1))] ∧
      readWords s 0x100C 2 = [s.host.denied, s.host.changes] ∧
      readWords s 0x2018 2 = [s.host.applied, s.host.refused]))

/-- R514, R579, R595, R635, R637: the management port submits the command in MGT_CMD, reads its queues and writes its
mailbox; in SLEEP a transfer is NACKed and wakes the package. the I3C bus gives and takes the dynamic address and
brackets HDR transfers; a transfer in SLEEP and a low WAKE_N wake the package. An event without its occasion changes
nothing: the model's choice, notes/assumptions/1.md. -/
def Obligations.ManagementPortAndBus : Prop :=
  (∀ s : State, s.pkg.vio18 = true → s.host.hdr = false → s.pkg.phase = .ready →
    (s.pwr.pkg ≠ 3 → s.host.mgt.attached = true →
      (s.flt.fatal = false → ∀ val, bit val 0 = true → Runs (.mgtDoorbell val) s (runCmd
        (decodeRecord .mgt (mread s.host.mgtCmd 0 64) (mread s.host.mgtData 0 (min 8192 (mnum s.host.mgtCmd 8 4)))) s)) ∧
      (s.flt.fatal = true → ∀ val, Runs (.mgtDoorbell val) s s) ∧
      (∀ r rs, s.flt.fatal = false → s.host.mgt.recs = r :: rs → Runs .mgtRec s { s with host := { s.host with
        mgtOut := { r with seq := s.host.mgt.seq } :: s.host.mgtOut
        mgt := { s.host.mgt with recs := rs, seq := (s.host.mgt.seq + 1) % 2 ^ 32 } } }) ∧
      (∀ r rs, s.flt.fatal = false → s.host.mgt.evts = r :: rs → s.host.mgt.lostEv = 0 →
        Runs .mgtEvt s { s with host := { s.host with
          mgtOut := { r with seq := s.host.mgt.seq } :: s.host.mgtOut
          mgt := { s.host.mgt with evts := rs, seq := (s.host.mgt.seq + 1) % 2 ^ 32 } } }) ∧
      (s.host.mgt.recs = [] → Runs .mgtRec s { s with host := { s.host with mgtOut := default :: s.host.mgtOut } }) ∧
      (s.host.mgt.evts = [] → Runs .mgtEvt s { s with host := { s.host with mgtOut := default :: s.host.mgtOut } }) ∧
      (s.flt.fatal = false → ∀ a val, a % 4 = 0 → 0xB2000 ≤ a → a < 0xB4000 → val < 2 ^ 32 →
        Runs (.registerWrite .mgt a val) s { s with host := { s.host with
          mgtData := mwrite s.host.mgtData (a - 0xB2000) (le4 val) } })) ∧
    (s.pwr.pkg = 3 → ∀ val, Runs (.mgtDoorbell val) s
      (wakePackage { s with host := { s.host with nacks := s.host.nacks + 1 } }))) ∧
  ((∀ s : State, busOn s = true →
    (∀ addr, s.host.hdr = false → s.host.dynAddr = none → addr < 128 →
      Runs (.entdaa addr) s { s with host := { s.host with dynAddr := some addr } } ∧
      (s.host.mgt.attached = true → Runs (.setdasa addr) s { s with host := { s.host with dynAddr := some addr } })) ∧
    (s.host.hdr = false → Runs .rstdaa s { s with host := { s.host with dynAddr := none } }) ∧
    Runs .hdrEntry s { s with host := { s.host with hdr := true } } ∧
    Runs .hdrExitPattern s { s with host := { s.host with hdr := false } }) ∧
  ∀ s : State, s.pkg.vio18 = true → s.pkg.phase = .ready → s.pwr.pkg = 3 →
    Runs .i3cTransferInSleep s (wakePackage { s with host := { s.host with nacks := s.host.nacks + 1 } }) ∧
    (s.pkg.wakeDriven = false → Runs .wakeN s (wakePackage s)) ∧
    (s.pkg.wakeDriven = true →
      Runs (.wakeNDriveEnd false) s { s with pkg := { s.pkg with wakeDriven := false } } ∧
      Runs (.wakeNDriveEnd true) s (wakePackage { s with pkg := { s.pkg with wakeDriven := false } })) ∧
    (wakePackage s).pwr.pkg = 0)

/-- R505, R506, R508, R510, R512, R516: a domain that no vote holds falls to the deepest state allowed, or its fall is
refused and counted with the refuser; a domain that is voted ON reaches ON once those it needs are ON. the package
enters the deepest state whose conditions hold; XO_EN is high in every state but SLEEP; SLEEP is left by its wake
events alone. An event without its occasion changes nothing: the model's choice, notes/assumptions/1.md. -/
def Obligations.DomainsFallAndPackageStates : Prop :=
  (∀ (s : State) (d : Nat), serviceOn s = true → d < 80 →
    (votedOn s d = false → domState s d < fallTo s d → refuserOf s d (fallTo s d) = none →
      ∃ t, Runs (.domainFall d) s t ∧ t.pwr = { s.pwr with dstate := s.pwr.dstate.set d (fallTo s d) } ∧
        t.near = s.near ∧ t.main = s.main ∧ t.gra = s.gra ∧ t.host = s.host) ∧
    (∀ r, votedOn s d = false → domState s d < fallTo s d → refuserOf s d (fallTo s d) = some r → r ≠ 6 →
      Runs (.domainFall d) s { s with pwr := { s.pwr with
        refuser := nset s.pwr.refuser d r, dref := nset s.pwr.dref d (satAdd32 (nget s.pwr.dref d) 1) } }) ∧
    (fallTo s d ≤ domState s d → Runs (.domainFall d) s s) ∧
    (s.pwr.pkg = 0 → domState s d ≠ 0 → votedOn s d = true → domFenced s d = false →
      (s.pwr.coolStop && isCompute d) = false → ((needs s d).all fun e => domState s e == 0) = true →
      ∃ t, Runs (.domainWakeComplete d) s t ∧ t.pwr = { s.pwr with dstate := s.pwr.dstate.set d 0 } ∧
        t.near = s.near ∧ t.main = s.main ∧ t.gra = s.gra ∧ t.host = s.host)) ∧
  (∀ s : State, serviceOn s = true → (∀ x ∈ s.fab.ports, x.heldRx = []) →
    (s.pwr.pkg ≠ 3 → s.pwr.pkg ≠ deepestState s → ∃ t, Runs .packageStateEntry s t ∧ t.pwr.pkg = deepestState s ∧
      t.pwr.xoEn = (deepestState s != 3)) ∧
    ((s.pwr.pkg = 3 ∨ s.pwr.pkg = deepestState s) → ∃ t, Runs .packageStateEntry s t ∧ t.pwr = s.pwr ∧ t.vats = s.vats ∧
      t.turners = s.turners ∧ t.obj = s.obj))

/-- R459, R515, R517-R521, R523, R526, R527: a turner or main-store level is chosen up to its cap, a turner's raise held where its
cluster is too warm; a level goes down, and the main-store rate both ways, one at a time and at once; up, the voltage is
raised, the settle signal awaited, and then the bias, the assists and the frequency follow. however the governor
chooses, no vat level chosen is more than 4 above a neighbour's; a lowering takes effect on its cluster, MATCH lowers the
levels as the smallest standing RATE asks; a cluster too hot for its neighbours steps down by one. the crystal, the supply, the energy of an interval and the coolant are taken
in. An event without its occasion changes nothing: the model's choice, notes/assumptions/1.md. -/
def Obligations.LevelsAreChosenAndStepped : Prop :=
  ((∀ (s : State) (kind c level : Nat), serviceOn s = true → (kind = 1 ∨ (kind = 2 ∧ level ≤ 6)) → c < 8 → level ≤ 7 →
    level ≤ levelCap s kind → ∀ reason cause, reason < 7 →
      let u := thrEnter reason cause s
      (kind = 2 ∨ tooWarm u c = false ∨ (∀ x, levelAt s kind c = some x → level ≤ x.want) →
        Runs (.governorLevelChange kind c level reason cause) s (modLevel u kind c fun y => { y with want := level })) ∧
      (∀ x, kind = 1 → tooWarm u c = true → levelAt s 1 c = some x → x.want < level →
        Runs (.governorLevelChange kind c level reason cause) s
          (modLevel (thrEnter 0 c u) 1 c fun y => { y with want := x.want }))) ∧
  (∀ (s : State) (kind c : Nat) (x : Level), serviceOn s = true → levelAt s kind c = some x → x.settling = false →
    (x.want = x.now → Runs (.levelStep kind c) s s) ∧
    (x.want < x.now → (kind == 0 && gapBreaks s c (x.now - 1)) = false →
      Runs (.levelStep kind c) s (modLevel s kind c fun y => { y with
        now := x.now - 1, assist := assistOf kind (x.now - 1), mv := levelMv kind (x.now - 1) })) ∧
    (x.now < x.want → kind = 2 → Runs (.levelStep kind c) s (modLevel s kind c fun y => { y with
      now := x.now + 1, assist := assistOf kind (x.now + 1), mv := levelMv kind (x.now + 1) })) ∧
    (x.now < x.want → kind ≠ 2 → (kind == 0 && gapBreaks s c (x.now + 1)) = false →
      Runs (.levelStep kind c) s (modLevel s kind c fun y => { y with mv := levelMv kind (x.now + 1), settling := true }))) ∧
  ∀ (s : State) (kind c : Nat) (x : Level), levelAt s kind c = some x → x.settling = true →
    Runs (.regulatorSettle kind c) s (modLevel s kind c fun y => { y with
      now := y.now + 1, assist := assistOf kind (y.now + 1), settling := false }) ∧
    Runs (.levelStep kind c) s s) ∧
  ((∀ (ls : List Nat), (settleLevels ls).length = ls.length ∧
    ∀ i, i < ls.length → (settleLevels ls).getD i 0 ≤ ls.getD i 0 ∧
      (i + 1 < ls.length → (settleLevels ls).getD (i + 1) 0 ≤ (settleLevels ls).getD i 0 + 4 ∧
        (settleLevels ls).getD i 0 ≤ (settleLevels ls).getD (i + 1) 0 + 4)) ∧
  (∀ (s : State) (c level reason cause : Nat), serviceOn s = true → c < 8 → level ≤ levelCap s 0 → level ≤ 7 →
    level ≤ (wants (unmatch s)).getD c 0 → s.pwr.vatL.length = 8 → reason < 8 →
      ∃ t, Runs (.governorLevelChange 0 c level reason cause) s t ∧ wants t = (match matched s with
        | some n => settleLevels ((lowerLevels (unmatch s) c level).map (matchLevel n.rate))
        | none => lowerLevels (unmatch s) c level)) ∧
  (∀ rate l, rate ≤ 1024 → l ≤ 7 → matchLevel rate l ≤ l ∧ rate * vatClock l ≤ 1024 * vatClock (matchLevel rate l) ∧
    ∀ k, k < matchLevel rate l → 1024 * vatClock k < rate * vatClock l) ∧
  ∀ (s : State) (c : Nat) (x : Level), serviceOn s = true → c < 8 → levelAt s 0 c = some x → tooHot s c = true → 0 < x.now →
    let u := unmatch s
    Runs (.gradientStepDown c) s
      (levelStep (matchLevels (thrEnter 5 (c + 16) (setWants u (lowerLevels u c (x.now - 1))))) 0 c)) ∧
  (∀ s : State, aonOn s = true →
    (∃ t, Runs .xtalStable s t ∧ t.pwr.xt32 = true ∧ t.pwr.onRc = false ∧ t.vats = s.vats ∧ t.host = s.host) ∧
    (∃ t, Runs .xtalFail s t ∧ t.pwr.xt32 = false ∧ t.pwr.onRc = true ∧ t.vats = s.vats ∧ t.acc = s.acc) ∧
    ∀ d uj shares, d ≤ 80 → ∃ t, Runs (.energyInterval d uj shares) s t ∧
      t.pwr.nrgTotal = satAdd64 s.pwr.nrgTotal uj ∧ t.pwr.mw ≤ powerLimit s ∧
      (d < 80 → nget t.pwr.nrgDom d = satAdd64 (nget s.pwr.nrgDom d) uj)) ∧
  ∀ s : State,
    (s.pkg.phase = .ready → ∃ t, Runs .supplyLow s t ∧ t.pwr.low = true ∧ 3 ∈ t.pwr.thrOn ∧
      powerLimit t = rsv s 0x10708 300 * 100 / 3) ∧
    (∃ t, Runs .coolantLost s t ∧ t.pwr.coolOk = false ∧
      (bit (rsv s 0x10718 0) 0 = true → serviceOn s = true → t.pwr.coolStop = true)) ∧
    ∃ t, Runs .coolantRestored s t ∧ t.pwr.coolOk = true ∧ t.pwr.coolStop = s.pwr.coolStop ∧
      (s.pwr.coolStop = true → serviceOn s = true → t.pwr.coolBack = true)

/-- R521, R523-R525, R534: the energy of an interval is shared among the tasks bound, by their cycles, and adds up: what the
division leaves over is unattributed; the average power shown is within the limit in force. -/
def Obligations.EnergyIsSharedByBoundCycles : Prop :=
  (∀ (s : State) (d uj : Nat) (shares : List Share), aonOn s = true → d < 80 →
    ∃ t, Runs (.energyInterval d uj shares) s t ∧
      t.pwr.nrgTotal = satAdd64 s.pwr.nrgTotal uj ∧ nget t.pwr.nrgDom d = satAdd64 (nget s.pwr.nrgDom d) uj ∧
      t.pwr.nrgUn = satAdd64 s.pwr.nrgUn (uj - total (shares.map (shareOf uj shares))) ∧
      t.pwr.mw ≤ powerLimit s ∧ t.acc = s.acc ∧ t.gra = s.gra ∧ t.host = s.host ∧
      ∀ x, shares = [x] → nget t.pwr.nrgColl x.coll = satAdd64 (nget s.pwr.nrgColl x.coll) (shareOf uj shares x) ∧
        nget t.pwr.nrgBand x.band = satAdd64 (nget s.pwr.nrgBand x.band) (shareOf uj shares x) ∧
        (0 < x.cycles → shareOf uj shares x = uj)) ∧
  ∀ (uj : Nat) (shares : List Share), total (shares.map (shareOf uj shares)) ≤ uj

/-- R515, R521, R526, R527, R529-R531: the always-on clock follows the crystal: stable it serves, failed the RC oscillator
does, with XTAL_FAIL. the loss of coolant, where it is watched, holds the accessions, stops the compute clocks and
asserts ALERT_N; its return is announced. a supply that falls below 5.6 V, or PWR_SHUTDOWN, writes a keep record and
leaves the package OFF with its keys zeroed and every domain OFF; the supply's return starts it again. -/
def Obligations.CrystalCoolantAndKeepSequence : Prop :=
  (∀ s : State, aonOn s = true →
    Runs .xtalStable s { s with pwr := { s.pwr with xt32 := true, onRc := false } } ∧
    (s.pkg.phase = .ready →
      Runs .xtalFail s (sendEvent evXTAL_FAIL [] { s with pwr := { s.pwr with xt32 := false, onRc := true } })) ∧
    (s.pkg.phase ≠ .ready → Runs .xtalFail s { s with pwr := { s.pwr with xt32 := false, onRc := true } })) ∧
  (∀ s : State, serviceOn s = true →
    (bit (rsv s 0x10718 0) 0 = true → s.pwr.coolStop = false →
      ∃ t, Runs .coolantLost s t ∧ t.pwr.coolOk = false ∧ t.pwr.coolStop = true ∧ t.acc.holdCool = true ∧
        1 ∈ t.pkg.alert ∧ t.acc.tab = (holdAccs s).acc.tab ∧
        t.vats = (s.vats.map fun x => if x.state = 4 then { x with state := 2 } else x) ∧
        ∀ d, isCompute d = true → domState t d ≠ 0) ∧
    (bit (rsv s 0x10718 0) 0 = false → Runs .coolantLost s { s with pwr := { s.pwr with coolOk := false } }) ∧
    (s.pwr.coolStop = true → s.pwr.coolBack = false → Runs .coolantRestored s
      (sendEvent evCOOLANT_RESTORED [] { s with pwr := { s.pwr with coolOk := true, coolBack := true } })) ∧
    (s.pwr.coolStop = false → Runs .coolantRestored s { s with pwr := { s.pwr with coolOk := true } })) ∧
  ((∀ s : State, s.pkg.phase = .ready → s.pwr.keepSleep = false →
    ∃ t, Runs .keepSequence s t ∧ t.pkg.phase = .off ∧ t.pkg.offCause = 0 ∧ t.pkg.vin6 = false ∧ t.sec.keys = [] ∧
      t.sec.level = 0 ∧ t.pwr.dstate = List.replicate 80 3 ∧ t.pwr.keepSeq = s.pwr.keepSeq + 1 ∧
      t.pwr.keepLog = s.flt.log ∧ t.pwr.keepAcc = resumeRecords s ∧ t.cave.regions.map (·.1) = s.cave.regions.map (·.1)) ∧
  (∀ (h : Hdr) (s : State), Accepted h {} s → s.pkg.phase = .ready → s.pwr.keepSleep = false →
    ∃ t, Runs (.pwrShutdown h) s t ∧ t.pkg.phase = .off ∧ t.pkg.offCause = 1 ∧ t.sec.keys = [] ∧
      t.pwr.dstate = List.replicate 80 3 ∧ t.pwr.keepSeq = s.pwr.keepSeq + 1) ∧
  (∀ s : State, s.pkg.phase = .off → s.pkg.vstby = true →
    (s.pkg.offCause = 0 → ∃ t, Runs .vinReturn s t ∧ t.pkg.phase = .starting ∧ t.pkg.cause = 1 ∧ t.pkg.vin6 = true) ∧
    (s.pkg.offCause = 1 → s.pkg.vio18 = true → s.pkg.wakeDriven = false →
      ∃ t, Runs .wakeN s t ∧ t.pkg.phase = .starting ∧ t.pkg.cause = 6)) ∧
  (∀ s : State, s.pkg.phase = .ready → 3 ∉ s.pwr.thrOn →
    ∃ t, Runs .supplyLow s t ∧ t.pwr.low = true ∧ t.pwr.vin < 6000 ∧ t.pwr.thrOn = s.pwr.thrOn ++ [3] ∧ t.acc = s.acc) ∧
  ∀ s : State, s.pkg.phase = .ready →
    ∃ t, Runs .vinReturn s t ∧ t.pwr.low = false ∧ 6000 ≤ t.pwr.vin ∧ 3 ∉ t.pwr.thrOn ∧ t.acc = s.acc)

/-- R583, R596, R597, R603, R621, R626, R634: RESET_N low resets a package that runs and holds it; the rising edge goes on
with the mode that the straps give; without VIO18 the inputs stand at fixed values. VSTBY starts the package, its
absence stops it; the boot of an accepted slot ends READY, with an election open and the ports of management and
fabric attached. -/
def Obligations.ResetPinAndSuppliesStartThePackage : Prop :=
  ((∀ s : State, s.pkg.resetLow = false → s.pkg.vio18 = true → s.pkg.vstby = true → s.pkg.phase = .ready →
    ∃ t, Runs .resetN s t ∧ t.pkg.phase = .held ∧ t.pkg.cause = 2 ∧ t.pkg.resetLow = true ∧
      t.pkg.cntWarm = satAdd32 s.pkg.cntWarm 1 ∧ t.vats = State.reset.vats ∧ t.turners = State.reset.turners ∧
      t.near = State.reset.near ∧ t.main = [] ∧ t.gra = Gra.reset ∧ t.obj = Objs.reset ∧ t.acc = AccEng.reset ∧
      t.kve = Kve.reset ∧ t.wgt = Wgt.reset ∧ t.sec.keys = [] ∧ t.sec.level = 0 ∧ t.host.owner = none ∧ t.rs = [] ∧
      t.tick = s.tick ∧ t.part = s.part ∧ t.sec.lifecycle = s.sec.lifecycle ∧ t.sec.rollback = s.sec.rollback ∧
      t.flt.log = s.flt.log) ∧
  (∀ (s : State) (strap : Nat), s.pkg.resetLow = true → s.pkg.vio18 = true → s.pkg.phase = .held →
    Runs (.resetNRisingEdge strap) s { s with pkg := { s.pkg with
      resetLow := false, straps := strap % 4, phase := .booting, step := 3, strap := strap % 4, mode := bootMode s strap,
      chainDrives := false, highz := false } }) ∧
  ∀ s : State, s.pkg.resetLow = false →
    (s.pkg.vio18 = true → Runs .vio18Loss s { s with
      pkg := { s.pkg with vio18 := false }, pwr := { s.pwr with coolOk := false } }) ∧
    (s.pkg.vio18 = false → Runs .vio18Return s { s with pkg := { s.pkg with vio18 := true } })) ∧
  ((∀ s : State, s.pkg.vstby = false →
    ∃ t, Runs .vstbyValid s t ∧ t.pkg.phase = .starting ∧ t.pkg.vstby = true ∧ t.pkg.cause = 0 ∧ t.pkg.cntWarm = 0 ∧
      t.pkg.cntSoft = 0 ∧ t.tick = 0 ∧ t.flt.log = [] ∧ t.flt.fatalRec = [] ∧ t.sec.keys = [] ∧ t.part = s.part) ∧
  (∀ s : State, s.pkg.vstby = true →
    ∃ t, Runs .vstbyInvalid s t ∧ t.pkg.phase = .unpowered ∧ t.pkg.vstby = false ∧ t.pkg.tripPin = false ∧ t.pkg.alert = []) ∧
  (∀ s : State, s.pkg.phase = .starting → s.pkg.vin6 = false →
    ∃ t, Runs .vinFirstAt6v s t ∧ t.pkg = { s.pkg with vin6 := true } ∧ 6000 ≤ t.pwr.vin ∧ t.pwr.vin ≤ 20000) ∧
  ∀ (s : State) (b : BootOut) (i : Nat), s.pkg.vstby = true → s.pkg.vin6 = true → s.pkg.phase = .booting → s.pkg.mode = 0 →
    s.sec.staged = false → chooseSlot s b = some i → b.trained = true → b.mounted = true → b.failed = [] → s.flt.fenced = [] →
      ∃ t, Runs (.coldStart b) s t ∧ t.pkg.phase = .ready ∧ t.pkg.step = 10 ∧ t.sec.running = i ∧ t.sec.epochDurable = true ∧
        t.cave.mounted = true ∧ t.host.ownState = 1 ∧ t.host.mgt.attached = true ∧ t.host.fabric.attached = true)

/-- R529, R530, R596, R603, R607, R621, R626: RESET_PACKAGE answers and restarts the root: what is in OTP and flash, the
ticks and the fault log last, the rest is at its reset value. The supplies, the pins and the boot take the package from
state to state. -/
def Obligations.SoftResetKeepsWhatLasts : Prop :=
  (∀ (h : Hdr) (s : State), Accepted h { recovery := true } s →
    ∃ t, Runs (.resetPackage h) s t ∧ t.pkg.phase = .booting ∧ t.pkg.cause = 3 ∧ t.pkg.cntSoft = satAdd32 s.pkg.cntSoft 1 ∧
      (t.portq h.port).sent.head? = some { mkRec tyREPLY h.tag stOK (zeros 8) with seq := (s.portq h.port).seq } ∧
      (t.portq h.port).outst = [] ∧ t.gra = Gra.reset ∧ t.obj = Objs.reset ∧ t.kve = Kve.reset ∧ t.acc = AccEng.reset ∧
      t.wgt = Wgt.reset ∧ t.cmp = Cmp.reset ∧ t.rs = [] ∧ t.sec.keys = [] ∧ t.sec.nonce = none ∧ t.sec.closures = [] ∧
      t.host.owner = none ∧ t.host.staged = [] ∧ t.tick = s.tick ∧ t.flt.log = s.flt.log ∧ t.flt.head = s.flt.head ∧
      t.flt.fenced = [] ∧ t.part = s.part ∧ t.sec.lifecycle = s.sec.lifecycle ∧ t.sec.rollback = s.sec.rollback ∧
      t.sec.svn = s.sec.svn ∧ t.cave.ckpt = s.cave.ckpt ∧ t.cave.reads = s.cave.reads ∧ t.cave.map = s.cave.map ∧
      t.cave.regions.map (·.1) = s.cave.regions.map (·.1) ∧ t.pwr.nrgTotal = s.pwr.nrgTotal) ∧
  (∀ s : State, s.pkg.phase = .ready →
    (∃ t, Runs .keepSequence s t ∧ t.pkg.phase = .off ∧ t.pkg.offCause = 0 ∧ t.sec.keys = [] ∧ t.part = s.part) ∧
    (∀ h, Accepted h {} s → ∃ t, Runs (.pwrShutdown h) s t ∧ t.pkg.phase = .off ∧ t.pkg.offCause = 1 ∧ t.sec.keys = []) ∧
    (∃ t, Runs .vinReturn s t ∧ t.pwr.low = false ∧ t.pkg.vin6 = true ∧ 6000 ≤ t.pwr.vin) ∧
    (s.pkg.resetLow = false → s.pkg.vio18 = true → s.pkg.vstby = true →
      ∃ t, Runs .resetN s t ∧ t.pkg.phase = .held ∧ t.pkg.cause = 2 ∧ t.pkg.resetLow = true ∧ t.sec.keys = [])) ∧
  (∀ (s : State) (strap : Nat), s.pkg.phase = .held → s.pkg.resetLow = true → s.pkg.vio18 = true →
    ∃ t, Runs (.resetNRisingEdge strap) s t ∧ t.pkg.phase = .booting ∧ t.pkg.step = 3 ∧ t.pkg.strap = strap % 4 ∧
      t.pkg.resetLow = false) ∧
  (∀ s : State, s.pkg.resetLow = false →
    (s.pkg.vio18 = true → ∃ t, Runs .vio18Loss s t ∧ t.pkg.vio18 = false ∧ t.pwr.coolOk = false ∧ t.pkg.phase = s.pkg.phase) ∧
    (s.pkg.vio18 = false → ∃ t, Runs .vio18Return s t ∧ t.pkg.vio18 = true ∧ t.pkg.phase = s.pkg.phase)) ∧
  (∀ s : State,
    (s.pkg.vstby = false → ∃ t, Runs .vstbyValid s t ∧ t.pkg.phase = .starting ∧ t.pkg.cause = 0 ∧ t.pkg.vstby = true ∧ t.tick = 0) ∧
    (s.pkg.vstby = true → ∃ t, Runs .vstbyInvalid s t ∧ t.pkg.phase = .unpowered ∧ t.pkg.vstby = false ∧ t.pkg.alert = []) ∧
    (s.pkg.phase = .starting → s.pkg.vin6 = false → ∃ t, Runs .vinFirstAt6v s t ∧ t.pkg.vin6 = true ∧ 6000 ≤ t.pwr.vin)) ∧
  ∀ (s : State) (b : BootOut), s.pkg.vstby = true → s.pkg.vin6 = true → s.pkg.phase = .booting →
    (s.pkg.mode = 1 → ∃ t, Runs (.coldStart b) s t ∧ t.pkg.phase = .recovery ∧ t.pkg.step = 4) ∧
    (s.pkg.mode = 0 → chooseSlot s b = none → ∃ t, Runs (.coldStart b) s t ∧ t.pkg.phase = .recovery ∧ t.pkg.step = 4) ∧
    ∀ i, s.pkg.mode = 0 → chooseSlot s b = some i →
      (b.trained = true → b.mounted = true → b.failed = [] → s.flt.fenced = [] → s.sec.staged = false →
        ∃ t, Runs (.coldStart b) s t ∧ t.pkg.phase = .ready ∧ t.pkg.step = 10 ∧ t.sec.running = i) ∧
      (s.pkg.cold = true → b.trained = false → ∃ t, Runs (.coldStart b) s t ∧ t.pkg.phase = .stuck ∧ t.pkg.step = 6 ∧
        0 ∈ t.pkg.alert ∧ t.sec.running = i)

/-- R604-R606: the resets of parts: a cluster's units restart and its near store is zero; a vat without a task is fenced
at once; the unfencing of a fenced vat waits for its self-test; a port trains again. -/
def Obligations.PartsAreResetByCommand : Prop :=
  ∀ (h : Hdr) (s : State), Accepted h {} s →
    (∀ c, c < 8 → ((List.range 8).all fun d => d == c || s.isFenced siteCLUSTER d) = false → resetting s c = false →
      ∃ t, Runs (.resetCluster h c) s t ∧ t = startClusterReset c (h.port, h.tag) (entered h (.resetCluster h c) s) ∧
        t.nearOf c = [] ∧ ∀ v, v / 2 = c →
          (t.vat v).bound = none ∧ (t.vat v).acc = [] ∧ (t.vat v).queue = [] ∧ (t.vat v).buf0.valid = false) ∧
    (∀ v, v < 16 → lastOfKind s siteVAT v = false → (s.vat v).bound = none → s.isFenced siteVAT v = false →
      s.pkg.vatCmds = [] → ∃ t, Runs (.vatFence h v) s t ∧
        t = endVatCmd (true, v, h.port, h.tag) stOK
          (fenceVat { entered h (.vatFence h v) s with pkg := { s.pkg with vatCmds := [(true, v, h.port, h.tag)] } } v)) ∧
    (∀ v, v < 16 → s.isFenced siteCLUSTER (clusterOfVat v) = false →
      (s.isFenced siteVAT v = false → vatCmd s v = none → Runs (.vatUnfence h v) s (replied h (.vatUnfence h v) s 0 fun u =>
        { u with pkg := { u.pkg with cntVfence := satAdd32 u.pkg.cntVfence 1 } })) ∧
      (s.isFenced siteVAT v = true → ∃ t, Runs (.vatUnfence h v) s t ∧
        t = { entered h (.vatUnfence h v) s with pkg := { s.pkg with
          vatCmds := s.pkg.vatCmds ++ [(false, v, h.port, h.tag)] } })) ∧
    (∀ p, p < 6 → bit (rsv s 0x9000C 0) p = true → (portAt s p).state ≠ 3 → s.fab.ports.length = 6 →
      ∃ t, Runs (.resetPort h p) s t ∧ (portAt t p).state = 2 ∧ (portAt t p).downs = (portAt s p).downs ∧
        t.isFenced siteFABRIC p = false ∧ t.pkg.cntPort = satAdd32 s.pkg.cntPort 1 ∧
        t.pkg.portReset = s.pkg.portReset ++ [(p, h.port, h.tag)] ∧ (∀ q, q ≠ p → portAt t q = portAt s q) ∧ t.acc = s.acc) ∧
    (∀ c, 8 ≤ c → Runs (.resetCluster h c) s (answer h.port h.tag (Ans.err stPARAM) (entered h (.resetCluster h c) s))) ∧
    ∀ v, 16 ≤ v → Runs (.vatFence h v) s (answer h.port h.tag (Ans.err stPARAM) (entered h (.vatFence h v) s))

/-- R11, R400, R614, R641: an always-on tick counts every deadline down to 0; a junction at 115 °C trips the package,
which is then OFF with THERM_TRIP_N and ALERT_N asserted, its keys zeroed and no keep record written. the TAP's
instructions; EXTEST, CLAMP and HIGHZ act on the pins only while RESET_N is low. An event without its occasion changes
nothing: the model's choice, notes/assumptions/1.md. -/
def Obligations.TicksTripsAndTheTap : Prop :=
  ((∀ s : State, s.pkg.vstby = true → s.pkg.vatCmds = [] →
    ∃ t, Runs .deadlineCountdown s t ∧ t.tick = s.tick + 1 ∧ t.acc.tab.map (·.1) = s.acc.tab.map (·.1) ∧
      (∀ e ∈ s.acc.tab, (e.1, { e.2 with deadline := if e.2.deadline = noDeadline then noDeadline else e.2.deadline - 1 })
        ∈ t.acc.tab) ∧ t.vats = s.vats ∧ t.main = s.main ∧ t.host = s.host) ∧
  (∀ s : State, s.pkg.vstby = false → s.pkg.vatCmds = [] → Runs .deadlineCountdown s s) ∧
  ∀ (s : State) (sensor temp : Nat), aonOn s = true → sensor ≤ 12 → 115 ≤ temp →
    ∃ t, Runs (.thermalTrip sensor temp) s t ∧ t.pkg.phase = .tripped ∧ t.pkg.tripPin = true ∧ 2 ∈ t.pkg.alert ∧
      t.sec.keys = [] ∧ t.sec.level = 0 ∧ t.pwr.dstate = List.replicate 80 3 ∧ t.pwr.keepSeq = s.pwr.keepSeq ∧
      t.flt.fatalRec = s.flt.fatalRec) ∧
  (∀ s : State, s.pkg.vstby = true → s.pkg.vio18 = true →
    Runs .bypass s { s with pkg := { s.pkg with ir := 0, chainDrives := false, highz := false, tdr := 0 } } ∧
    Runs .idcode s { s with pkg := { s.pkg with ir := 1, chainDrives := false, highz := false, tdr := idcodeWord.toNat } } ∧
    (∃ (rev : BitVec 4) (man : BitVec 11), idcodeWord = rev ++ 0x2400#16 ++ man ++ 1#1) ∧
    (∀ chain, Runs (.samplePreload chain) s { s with pkg := { s.pkg with
      ir := 2, chainDrives := false, highz := false, tdr := 0, chain := chain } }) ∧
    Runs .extest s { s with pkg := { s.pkg with ir := 3, chainDrives := s.pkg.resetLow, highz := false, tdr := 0 } } ∧
    Runs .clamp s { s with pkg := { s.pkg with ir := 4, chainDrives := s.pkg.resetLow, highz := false, tdr := 0 } } ∧
    Runs .highz s { s with pkg := { s.pkg with ir := 5, chainDrives := false, highz := s.pkg.resetLow, tdr := 0 } })

/-- R496, R609-R613: a command line opens a session at D1 at least; every observing command answers OK with the numbers of
its data lines and changes nothing else. what a debug command needs: below D2 it is DENIED, with arguments out of
range it is an ERROR, during a fatal stop it is BUSY, and none of these has another effect. -/
def Obligations.MonitorObservesBelowD2 : Prop :=
  (∀ s : State, monOn s = true → s.flt.fatal = false →
    ∃ u, u = { s with sec := { s.sec with level := max 1 s.sec.level }, mon := { s.mon with session := true, unlocking := false } } ∧
      Runs .help s (monSay 0 "help" (allowedWords (max 1 s.sec.level)) u) ∧
      Runs .id s (monSay 0 "id" (idData u) u) ∧
      Runs .state s (monSay 0 "state" [s.pwr.pkg, s.pkg.mode, b2n (s.pkg.phase == .ready), portCode s.host.owner,
        chgStatus s % 4, max 1 s.sec.level, fencedCount s] u) ∧
      (∀ d, d < 80 → Runs (.votes (some d)) s (monSay 0 "votes" (voteData u d) u)) ∧
      Runs (.votes none) s (monSay 0 "votes" ((List.range 80).flatMap (voteData u)) u) ∧
      Runs .throttle s (monSay 0 "throttle" ((thrWords s).map (·.2)) u) ∧
      Runs .energy s (monSay 0 "energy" ((nrgWords s).map (·.2)) u) ∧
      Runs .faults s (monSay 0 "faults" (faultData s) u) ∧
      (∀ n, 1 ≤ n → n ≤ 256 → Runs (.log n) s (monSay 0 "log" ((newestLog s n).flatMap fun b => b.map BitVec.toNat) u)) ∧
      Runs .traceOn s (monSay 0 "trace" [] { u with mon := { u.mon with trace := true } }) ∧
      Runs .traceOff s (monSay 0 "trace" [] { u with mon := { u.mon with trace := false } })) ∧
  (∀ s : State, monOn s = true →
    ∃ u, u = { s with sec := { s.sec with level := max 1 s.sec.level }, mon := { s.mon with session := true, unlocking := false } } ∧
      (s.flt.fatal = false → s.sec.level ≠ 2 →
        (∀ a n, Runs (.peekCs a n) s (monSay 2 "peek" [] u) ∧ Runs (.peekDev a n) s (monSay 2 "peek" [] u) ∧
          Runs (.dumpCs a n) s (monSay 2 "dump" [] u) ∧ Runs (.dumpDev a n) s (monSay 2 "dump" [] u) ∧
          Runs (.pokeCs a n) s (monSay 2 "poke" [] u) ∧ Runs (.pokeDev a n) s (monSay 2 "poke" [] u)) ∧
        ∀ t, Runs (.traceHalt t) s (monSay 2 "trace" [] u) ∧ Runs (.traceStep t) s (monSay 2 "trace" [] u) ∧
          Runs (.traceGo t) s (monSay 2 "trace" [] u)) ∧
      (s.flt.fatal = false → s.sec.level = 2 → ∀ a n, (a % 4 ≠ 0 ∨ n = 0 ∨ 64 < n) →
        Runs (.peekCs a n) s (monSay 1 "peek" [] u) ∧ Runs (.peekDev a n) s (monSay 1 "peek" [] u)) ∧
      (s.flt.fatal = true → Runs .throttle s (monSay 3 "throttle" [] u) ∧ Runs .energy s (monSay 3 "energy" [] u) ∧
        Runs .claim s (monSay 3 "claim" [] u) ∧ Runs .unlock s (monSay 3 "unlock" [] u) ∧
        ∀ a n, Runs (.peekCs a n) s (monSay 3 "peek" [] u) ∧ Runs (.pokeCs a n) s (monSay 3 "poke" [] u)))

/-- R496-R499, R537, R583, R587, R599, R609, R611-R613: in a D2 session the monitor halts, steps and releases turners,
reads the control space and objects, and writes them; a poke or a halt ends the guarantee. the monitor claims
ownership and gives it up, draws a nonce and takes a token, goes on from a hold, and its session ends. -/
def Obligations.MonitorDebugsAndClaims : Prop :=
  (∀ s : State, monOn s = true → s.flt.fatal = false → s.sec.level = 2 → s.mon.session = true → s.mon.unlocking = false →
    (∀ t, t < 64 →
      Runs (.traceHalt t) s (monSay 0 "trace" [] { s.modTrn t fun x => { x with halted := true } with
        flt := { s.flt with poked := true } }) ∧
      Runs (.traceGo t) s (monSay 0 "trace" [] (s.modTrn t fun x => { x with halted := false })) ∧
      ((s.trn t).halted = false → Runs (.traceStep t) s (monSay 1 "trace" [] s)) ∧
      ((s.trn t).halted = true → trnReady (s.modTrn t fun x => { x with halted := false }) t = true →
        Runs (.traceStep t) s (monSay 0 "trace" [] (stepTurner t s)))) ∧
    (∀ a n, a % 4 = 0 → 1 ≤ n → n ≤ 64 →
      Runs (.peekCs a n) s (monSay 0 "peek" (readWords s a n) s) ∧
      ∀ b, devRead s a (4 * n) = some b → Runs (.peekDev a n) s (monSay 0 "peek" (wordsOf b) s)) ∧
    (∀ a n, 1 ≤ n → n ≤ 65536 →
      Runs (.dumpCs a n) s (monSay 0 "dump" (dumpBytes s a n) s) ∧
      ∀ b, devRead s a n = some b → Runs (.dumpDev a n) s (monSay 0 "dump" (b.map BitVec.toNat) s)) ∧
    ∀ a val, a % 4 = 0 → val < 2 ^ 32 →
      (s.host.owner = some .monitor → ∃ t, Runs (.pokeCs a val) s (monSay 0 "poke" [] t) ∧
        t = { writeWord .monitor a val s with flt := { (writeWord .monitor a val s).flt with poked := true } }) ∧
      (∀ i o off, devObject s a 4 = some (i, o, off) → ∃ t, Runs (.pokeDev a val) s (monSay 0 "poke" [] t) ∧
        t = { objWrite s i off (le4 val) with flt := { (objWrite s i off (le4 val)).flt with poked := true } })) ∧
  ((∀ s : State, monOn s = true → s.flt.fatal = false → s.sec.level = 1 → s.mon.session = true → s.mon.unlocking = false →
      (s.pkg.phase = .ready → s.host.owner = none →
        Runs .claim s (if s.host.ownState = 1 then
            { s with host := { s.host with claims := s.host.claims ++ [(.monitor, some 0)] } }
          else monSay 0 "claim" [] (becomeOwner .monitor s))) ∧
      (s.pkg.phase = .ready → s.host.owner.isSome = true → Runs .claim s (monSay 2 "claim" [] s)) ∧
      (s.pkg.phase = .recovery → Runs .claim s (monSay 2 "claim" [] s)) ∧
      (s.sec.locked = false → s.sec.trngFail = false → ∃ n t, n = Config.trng s.fresh 32 ∧ Runs .unlock s t ∧
        t.sec.nonce = some n ∧ t.mon.unlocking = true ∧ t.fresh = s.fresh + 1 ∧
        t.mon.out = ⟨0, "unlock", n.map BitVec.toNat⟩ :: s.mon.out) ∧
      (s.sec.locked = true → Runs .unlock s (monSay 2 "unlock" [stLOCKED] s)) ∧
      (s.pkg.phase = .monHold → Runs .wake s (monSay 0 "wake" [] { s with pkg := { s.pkg with phase := .booting } })) ∧
      (s.pkg.phase ≠ .monHold → Runs .wake s (monSay 0 "wake" [s.pwr.pkg] s))) ∧
  (∀ (s : State) (bytes : Bytes), monOn s = true → s.flt.fatal = false → s.mon.unlocking = true →
    unlockStatus s bytes = stOK → s.sec.lifecycle ≠ lcPRODUCTION →
      ∃ t, Runs (.unlockToken bytes) s t ∧ t.sec.level = 2 ∧ t.sec.flag = true ∧ t.sec.auth = bnum bytes 5 1 ∧
        t.mon.unlocking = false) ∧
  (∀ s : State, s.mon.session = true → serviceOn s = true →
    ∃ t, t = lapse .monitor { s with
        mon := { s.mon with session := false, trace := false, unlocking := false }
        sec := { s.sec with level := if s.sec.level = 1 then 0 else s.sec.level } } ∧
      Runs .monitorSessionTimeout s t ∧
      (monOn s = true → s.sec.level = 1 → s.mon.unlocking = false → Runs .release s (monSay 0 "release" [] t))) ∧
  ∀ s : State, s.pkg.vio18 = true → serviceOn s = true → s.pwr.pkg = 3 →
    Runs .wakeCharacter s (monSay 0 "wake" [] (wakePackage s)))

/-- R540: a corrected single-bit error is counted in FLT_CORRECTED; it is not logged and does not count towards fencing:
nothing else changes. -/
def Obligations.CorrectedErrorsAreOnlyCounted : Prop :=
  ∀ (s : State) (site unit addr detail : Nat), serviceOn s = true →
    Runs (.faultDetection site unit 0 addr detail) s
      { s with flt := { s.flt with corrected := satAdd64 s.flt.corrected 1 } }

/-- R118, R222, R539-R542, R545, R546, R553, R554: a detection is queued with the tick and its unit is RECOVERING; the
detection that finds 16 entries waiting stops the package. the failure of the TRNG's health test is noted; a hang of
an idle vat or turner is queued; a hub fault stops the package. -/
def Obligations.DetectionsAreQueuedAndActedOn : Prop :=
  (∀ (s : State) (site unit mech addr detail : Nat), serviceOn s = true → mech ≠ 0 → (site = siteCAVE ∨ site = siteSEC) →
    (site = siteCAVE → unit < 32) → mech ≠ mechTRNG_HEALTH →
      (s.flt.queue.length < 16 → ∃ t d, Runs (.faultDetection site unit mech addr detail) s t ∧
        t.flt.queue = s.flt.queue ++ [d] ∧ d.site = site ∧ d.unit = unit ∧ d.mech = mech ∧ d.action = actRETRIED ∧
        d.tick = s.tick ∧ d.nested = (s.isRecovering site unit || s.hasWaiting site unit) ∧ t.isRecovering site unit = true ∧
        t.flt.detections = satAdd64 s.flt.detections 1 ∧ t.flt.fatal = false ∧ t.acc = s.acc ∧ t.obj = s.obj ∧
        t.host = s.host) ∧
      (16 ≤ s.flt.queue.length → ∃ t, Runs (.faultDetection site unit mech addr detail) s t ∧ t.flt.fatal = true ∧
        t.flt.queue = s.flt.queue ∧ t.sec.keys = [] ∧ 0 ∈ t.pkg.alert)) ∧
  (∀ (s : State) (unit addr detail : Nat), serviceOn s = true →
    (s.flt.queue.length < 16 → ∃ t, Runs (.faultDetection siteSEC unit mechTRNG_HEALTH addr detail) s t ∧
      t.sec = { s.sec with trngFail := true }) ∧
    (∀ mech, mech ≠ 0 → ∃ t, Runs (.faultDetection siteHUB unit mech addr detail) s t ∧ t.flt.fatal = true ∧
      t.sec.keys = [] ∧ 0 ∈ t.pkg.alert ∧ t.flt.detections = satAdd64 s.flt.detections 1) ∧
    (s.pwr.coolStop = false → s.flt.queue.length < 16 →
      (unit < 16 → (s.vat unit).bound = none → ∃ t d, Runs (.watchdogExpiry siteVAT unit) s t ∧
        t.flt.queue = s.flt.queue ++ [d] ∧ d.site = siteVAT ∧ d.unit = unit ∧ d.mech = mechHANG ∧
        t.flt.hangs = satAdd32 s.flt.hangs 1 ∧ t.vats = s.vats) ∧
      (unit < 64 → (s.trn unit).bound = none → ∃ t d, Runs (.watchdogExpiry siteTURNER unit) s t ∧
        t.flt.queue = s.flt.queue ++ [d] ∧ d.site = siteTURNER ∧ d.unit = unit ∧ d.mech = mechHANG ∧
        t.flt.hangs = satAdd32 s.flt.hangs 1 ∧ t.turners = s.turners)))

/-- R546, R547, R553, R556, R605: the fault manager takes the oldest detection, writes it at the head of the log, which
then moves on, and sends FAULT; a unit whose detection is not its third within 1 s is not fenced. a unit whose
self-test passes is no longer RECOVERING; the self-test that VAT_UNFENCE asked for clears the fence, and its command ends. -/
def Obligations.FaultManagerLogsAndUnitsRecover : Prop :=
  ((∀ (s : State) (d : Det) (ds : List Det), serviceOn s = true → s.flt.queue = d :: ds → d.nested = false →
    isThird { s with flt := { s.flt with queue := ds, history := s.flt.history ++ [(d.site, d.unit, d.tick)] } } d = false →
      ∃ t b, Runs .faultEntryHandled s t ∧ t.flt.queue = ds ∧ tget t.flt.log s.flt.head = some b ∧
        t.flt.head = (s.flt.head + 1) % 256 ∧ t.flt.seq = (s.flt.seq + 1) % 2 ^ 32 ∧ t.flt.fenced = s.flt.fenced ∧
        t.flt.history = s.flt.history ++ [(d.site, d.unit, d.tick)] ∧ b.take 4 = le4 s.flt.seq ∧ t.acc = s.acc ∧ t.obj = s.obj ∧
        t.vats = s.vats ∧ t.turners = s.turners) ∧
  ∀ (s : State) (d : Det) (ds : List Det), serviceOn s = true → s.flt.queue = d :: ds → d.site = siteMAIN →
    (d.nested = true ∨
      isThird { s with flt := { s.flt with queue := ds, history := s.flt.history ++ [(d.site, d.unit, d.tick)] } } d = true) →
      ∃ t, Runs .faultEntryHandled s t ∧ t.flt.fatal = true ∧ t.sec.keys = []) ∧
  ((∀ (s : State) (site unit : Nat), serviceOn s = true → s.pkg.vatCmds = [] → s.pkg.clReset = [] →
    s.isRecovering site unit = true →
      ∃ t, Runs (.selfTestComplete site unit true) s t ∧ t.isRecovering site unit = false ∧
        t = { s with flt := { s.flt with recovering := t.flt.recovering } } ∧
        ∀ a b, (a, b) ≠ (site, unit) → t.isRecovering a b = s.isRecovering a b) ∧
  ∀ (s : State) (v tag : Nat) (p : Port), serviceOn s = true → v < 16 → s.pkg.vatCmds = [(false, v, p, tag)] →
    s.isFenced siteCLUSTER (clusterOfVat v) = false → s.vats.length = 16 →
      ∃ t, Runs (.selfTestComplete siteVAT v true) s t ∧ t.isFenced siteVAT v = false ∧ (t.vat v).state = unitShown s v ∧
        t.pkg.vatCmds = [] ∧ t.pkg.cntVfence = satAdd32 s.pkg.cntVfence 1 ∧ findOut p tag t = none)

/-- R555: a fatal stop changes nothing further by commands: none is taken on any port, no unit executes, no register but
those of the FLT block can be read. -/
def Obligations.FatalStopTakesNothing : Prop :=
  ∀ s : State, s.flt.fatal = true →
    (∀ p, takes p s = false) ∧ computeOn s = false ∧ serviceOn s = false ∧
    (∀ a, ¬(0x20000 ≤ a ∧ a < 0x30000) → readWord s a = 0) ∧
    (∀ p, canWrite p s = false) ∧
    (∀ (v : Nat) (w : BitVec 128), Runs (.stream v w) s s ∧ Runs (.drain v w) s s ∧ Runs (.loadw v w) s s) ∧
    (∀ (t : Nat) (fi : FmtI) (fm : FmtM) (fs : FmtS),
      Runs (.addi t fi) s s ∧ Runs (.ld t fm) s s ∧ Runs (.st t fm) s s ∧ Runs (.tend t fs) s s) ∧
    (∀ g, Runs (.instanceStart g) s s) ∧ Runs .stepAdmission s s ∧ Runs .faultEntryHandled s s ∧
    ∀ d, fatalStop d s = s

/-- R88, R338: a weight load that waits: nothing changes but the engines' counts and the engines to which moves that have
not started are given; nothing at all where no move has started. -/
def WaitsForTile (c : Instr) (s : State) : Prop :=
  ∃ t, Runs c s t ∧ t.vats = s.vats ∧ t.turners = s.turners ∧ t.gra = s.gra ∧ t.near = s.near ∧ t.main = s.main ∧
    t.obj.moves.length = s.obj.moves.length ∧
    (∀ (i : Nat) (m : Move), s.obj.moves[i]? = some m → m.engine.isSome = true → t.obj.moves[i]? = some m) ∧
    ((∀ m ∈ s.obj.moves, m.engine = none) → t = s)

/-- R85-R88, R101, R102, R113: LOADW puts a tile record with its whey entries into a weight buffer; LOADW_T puts the
transpose of BF16 weights there; a record that is misaligned, outside the near store or ill-formed ends the task with
the code of R113; while a move is still writing the source record the command waits (R88) and changes nothing but the
engines' counts and the engines to which moves that have not started are given (R338). -/
def Obligations.VatLoadsWeights : Prop :=
  ∀ (v : Nat) (w : BitVec 128) (s : State) (k : TaskRef),
    (VatRuns v w 1 s k → tilePending s v (vMODE w) (vf w 63 32) = false → ∀ r, readTile (popCmd s v) v k (vMODE w) (vf w 63 32) (vf w 95 64) = .ok r →
      Runs (.loadw v w) s (vatSignal v w k ((popCmd s v).modVat v fun x => x.setBuf (vf w 24 24)
        { valid := true, mode := vMODE w, tile := r.1, whey := r.2 }))) ∧
    (VatRuns v w 1 s k → tilePending s v (vMODE w) (vf w 63 32) = false → ∀ e, readTile (popCmd s v) v k (vMODE w) (vf w 63 32) (vf w 95 64) = .error e →
      Runs (.loadw v w) s (vatExc (popCmd s v) v k e)) ∧
    (VatRuns v w 1 s k → tilePending s v (vMODE w) (vf w 63 32) = true → WaitsForTile (.loadw v w) s) ∧
    (VatRuns v w 2 s k → tilePending s v (tMode w) (vf w 63 32) = true → WaitsForTile (.loadwT v w) s) ∧
    (VatRuns v w 2 s k → tilePending s v (tMode w) (vf w 63 32) = false → (vf w 29 28 = 3 ∨ vf w 29 28 = 2 ∧ 1 < vf w 27 26) →
      Runs (.loadwT v w) s (vatExc (popCmd s v) v k xVAT_PARAM)) ∧
    (VatRuns v w 2 s k → tilePending s v (tMode w) (vf w 63 32) = false → vf w 29 28 = 0 → ∀ r, readTile (popCmd s v) v k 2 (vf w 63 32) (vf w 95 64) = .ok r →
      ∃ b : WBuf, Runs (.loadwT v w) s (vatSignal v w k ((popCmd s v).modVat v fun x => x.setBuf (vf w 24 24) b)) ∧
        b.valid = true ∧ b.mode = 2 ∧ b.whey = [] ∧
        ∀ n i, n < 128 → i < 128 → mnum b.tile (2 * (128 * n + i)) 2 = mnum r.1 (2 * (128 * i + n)) 2) ∧
    (VatRuns v w 2 s k → tilePending s v (tMode w) (vf w 63 32) = false → (vf w 29 28 = 1 ∨ vf w 29 28 = 2 ∧ vf w 27 26 < 2) →
      ∀ r, readTile (popCmd s v) v k (vf w 29 28 - 1) (vf w 63 32) (vf w 95 64) = .ok r →
        ∃ b : WBuf, Runs (.loadwT v w) s (vatSignal v w k ((popCmd s v).modVat v fun x => x.setBuf (vf w 24 24) b)) ∧
          b.valid = true ∧ b.mode = 2 ∧ b.whey = []) ∧
    (∀ f src whey a, f = 1 ∨ f = 2 → aligned src 64 = true → resolveAddr s v k true src (tileBytes f) = some a →
      readTile s v k f src whey = .ok (mslice (s.nearOf (clusterOfVat v)) a (tileBytes f), [])) ∧
    (∀ f src whey, aligned src 64 = false → readTile s v k f src whey = .error xVAT_ALIGN) ∧
    ∀ f src whey, aligned src 64 = true → resolveAddr s v k true src (tileBytes f) = none →
      readTile s v k f src whey = .error xVAT_ADDR

/-- R82, R89-R91, R103: a STREAM of a valid buffer of its mode adds one pass to the entries it names, which take the
mode's tag; every other entry, the carry row and the near stores are unchanged. -/
def Obligations.VatStreamsRows : Prop :=
  ∀ (v : Nat) (w : BitVec 128) (s : State) (k : TaskRef) (a sa : Nat), VatRuns v w 3 s k → v < s.vats.length →
    let x := (popCmd s v).vat v
    let mode := vMODE w
    let rows := vf w 30 25 + 1
    let e0 := vf w 101 96
    let near := s.nearOf (clusterOfVat v)
    let stride := vf w 125 110
    (64 < e0 + rows → Runs (.stream v w) s (vatExc (popCmd s v) v k xVAT_PARAM)) ∧
    (e0 + rows ≤ 64 → aligned (vf w 63 32) (if mode = 2 then 256 else 128) = true →
      resolveAddr (popCmd s v) v k true (vf w 63 32) ((rows - 1) * stride * 128 + if mode = 2 then 256 else 128) = some a →
      (mode ≠ 2 → resolveAddr (popCmd s v) v k true (vf w 95 64) ((rows - 1) * stride * 2 + 2) = some sa) →
      (x.buf (vf w 24 24)).valid = true → (x.buf (vf w 24 24)).mode = mode →
      ((x.tags.drop e0).take rows).all (fun t => t == .empty || t == modeTag mode) = true → x.tags.length = 64 →
      ∃ t : State, Runs (.stream v w) s (vatSignal v w k t) ∧
        (t.vat v).passes = satAdd64 x.passes 1 ∧ (t.vat v).carry = x.carry ∧ t.near = s.near ∧ t.turners = s.turners ∧
        (∀ i, i < 64 → (t.vat v).tags[i]? = if e0 ≤ i ∧ i < e0 + rows then some (modeTag mode) else x.tags[i]?) ∧
        (∀ i n, n < 512 → (i < e0 ∨ e0 + rows ≤ i) → nget (t.vat v).acc (512 * i + n) = nget x.acc (512 * i + n)) ∧
        (mode = 2 → ∀ j, j < rows → rowGet (t.vat v).acc (512 * (e0 + j)) 128 =
          bf16Row (x.buf (vf w 24 24)) ((List.range 128).map fun i => mnum near (a + j * stride * 128 + 2 * i) 2)
            (rowGet x.acc (512 * (e0 + j)) 128)) ∧
        (mode < 2 → ∀ j, j < rows → ∃ free, rowGet (t.vat v).acc (512 * (e0 + j)) (modeCols mode) =
          (intRow (intColumns (x.buf (vf w 24 24)))
            (halvesOf mode (actOperands (mread near (a + j * stride * 128) 128))) (mnum near (sa + j * stride * 2) 2)
            (vsf w 109 103) (rowGet x.acc (512 * (e0 + j)) (modeCols mode)) free).1))

/-- R73, R91, R94, R95, R97, R98, R104: a DRAIN whose descriptor is valid writes its rows and their scales in order, each
from the values of one entry; every other byte of the near stores is unchanged, and CLR empties the drained entries. -/
def Obligations.VatDrainsRows : Prop :=
  ∀ (v : Nat) (w : BitVec 128) (s : State) (k : TaskRef), VatRuns v w 4 s k →
    ((s.vat v).resid.all fun r => r.row < vf w 69 64 || vf w 69 64 + vf w 75 70 + 1 ≤ r.row) = true →
    let u := popCmd s v
    let c := clusterOfVat v
    let rows := vf w 75 70 + 1
    let out := vf w 25 24
    let row (d : DrainD) (i : Nat) := drainRow out (rmOf u k) (vf w 30 30 == 1) d.fixed
      (scaleBias (u.nearOf c) d i (entryValues (u.vat v) (vf w 69 64 + i) d.cols (vsf w 82 76)))
    (∀ e, readDrain u v k w = .error e → Runs (.drain v w) s (vatExc u v k e)) ∧
    ∀ d, readDrain u v k w = .ok d →
      ∃ t : State, Runs (.drain v w) s (vatSignal v w k t) ∧ t.turners = s.turners ∧
        (∀ i, i ≠ c → t.nearOf i = s.nearOf i) ∧
        (∀ a, (∀ i, i < rows → ¬(d.dst + i * d.dstride ≤ a ∧ a < d.dst + i * d.dstride + (row d i).1.length)) →
          (∀ i, i < rows → ¬(d.sdst + i * d.sstride ≤ a ∧ a < d.sdst + i * d.sstride + (row d i).2.1.length)) →
          mbyte (t.nearOf c) a = mbyte (s.nearOf c) a) ∧
        (c < s.near.length → ∀ i, i < rows →
          (∀ j, i < j → j < rows → d.dst + i * d.dstride + (row d i).1.length ≤ d.dst + j * d.dstride) →
          (∀ j, j < rows → d.dst + i * d.dstride + (row d i).1.length ≤ d.sdst + j * d.sstride ∨
            d.sdst + j * d.sstride + (row d j).2.1.length ≤ d.dst + i * d.dstride) →
          mread (t.nearOf c) (d.dst + i * d.dstride) (row d i).1.length = (row d i).1) ∧
        t.vat v = if vf w 28 28 = 1 then clearEntries (u.vat v) (vf w 69 64) rows else u.vat v

/-- R105: CLEAR sets ROWS accumulator entries from ACC to 0 with an empty tag, and zeroes every carry column group whose
bit of GMASK is set; GMASK, ACC and ROWS − 1 are bits 31 to 24, 37 to 32 and 43 to 38 of the command. -/
def Obligations.ClearEmptiesEntriesAndCarry : Prop :=
  ∀ (v : Nat) (w : BitVec 128) (s : State) (k : TaskRef),
    let mask := vf w 31 24
    let acc := vf w 37 32
    let rows := vf w 43 38 + 1
    VatRuns v w 5 s k → acc + rows ≤ 64 → foreignGroup (popCmd s v) v k mask = false →
      ∃ t, Runs (.clear v w) s (vatSignal v w k t) ∧
        (∀ e n, n < 512 → nget (t.vat v).acc (512 * e + n) =
          if acc ≤ e ∧ e < acc + rows then 0 else nget (s.vat v).acc (512 * e + n)) ∧
        (∀ e, (t.vat v).tags.getD e .empty = if acc ≤ e ∧ e < acc + rows then .empty else (s.vat v).tags.getD e .empty) ∧
        (∀ n, n < 512 → nget (t.vat v).carry n = if bit mask (n / 64) then 0 else nget (s.vat v).carry n) ∧
        (∀ u, u ≠ v → t.vat u = s.vat u) ∧ t.near = s.near ∧ t.main = s.main ∧ t.turners = s.turners

/-- R100, R105, R107-R109, R113, R126-R135, R144, R151: CLEAR, SCAN, the carry moves and CHECK; what a SCAN leaves alone;
an unassigned OP ends the task. -/
def Obligations.VatScansAndMovesCarries : Prop :=
  ∀ (v : Nat) (w : BitVec 128) (s : State) (k : TaskRef),
    let u := popCmd s v
    let mask := vf w 31 24
    (VatRuns v w 5 s k → 64 < vf w 37 32 + vf w 43 38 + 1 → Runs (.clear v w) s (vatExc u v k xVAT_PARAM)) ∧
    (∀ a, VatRuns v w 7 s k → foreignGroup u v k mask = false → aligned (vf w 63 32) 256 = true →
      resolveAddr u v k true (vf w 63 32) (256 * (maskBits 8 mask).length) = some a →
      (loadingStream u v k mask = none → Runs (.carryIn v w) s (vatSignal v w k (u.modVat v fun x =>
        { x with carry := putGroups x.carry mask (mread (u.nearOf (clusterOfVat v)) a (256 * (maskBits 8 mask).length)) }))) ∧
      ∀ i, loadingStream u v k mask = some i → ∃ t, Runs (.carryIn v w) s (vatSignal v w k t) ∧ streamOf t i = (2, v) ∧
        t.vats = u.vats.modify v fun x => { hold x i mask with
          carry := putGroups x.carry mask (mread (u.nearOf (clusterOfVat v)) a (256 * (maskBits 8 mask).length))
          shadow := putGroups x.shadow mask (mread (u.nearOf (clusterOfVat v)) a (256 * (maskBits 8 mask).length)) }) ∧
    (∀ a, VatRuns v w 8 s k → foreignGroup u v k mask = false → aligned (vf w 63 32) 256 = true →
      resolveAddr u v k true (vf w 63 32) (256 * (maskBits 8 mask).length) = some a →
      Runs (.carryOut v w) s (vatSignal v w k (u.nearWrite (clusterOfVat v) a (groupBytes (u.vat v).carry mask)))) ∧
    ((VatRuns v w 5 s k → foreignGroup u v k mask = true → Runs (.clear v w) s (vatExc u v k xVAT_PARAM)) ∧
     (∀ a, VatRuns v w 7 s k → foreignGroup u v k mask = true → aligned (vf w 63 32) 256 = true →
       resolveAddr u v k true (vf w 63 32) (256 * (maskBits 8 mask).length) = some a →
       Runs (.carryIn v w) s (vatExc u v k xVAT_PARAM)) ∧
     (∀ a, VatRuns v w 8 s k → foreignGroup u v k mask = true → aligned (vf w 63 32) 256 = true →
       resolveAddr u v k true (vf w 63 32) (256 * (maskBits 8 mask).length) = some a → Runs (.carryOut v w) s (vatExc u v k xVAT_PARAM))) ∧
    (VatRuns v w 9 s k → (s.vat v).resid = [] → (vf w 24 24 = 0 → Runs (.check v w) s (vatSignal v w k u)) ∧
      (vf w 24 24 = 1 → s.testMode = true → Runs (.check v w) s (vatSignal v w k (u.modVat v fun x =>
        { x with inject := if vf w 27 25 ∈ x.inject then x.inject else x.inject ++ [vf w 27 25] }))) ∧
      (vf w 24 24 = 1 → s.testMode = false → Runs (.check v w) s (vatExc u v k xVAT_PARAM))) ∧
    (∀ (a : Nat) (ma : Option Nat), VatRuns v w 6 s k → foreignGroup u v k (vf w 116 109) = false →
      aligned (vf w 63 32) 64 = true →
      (if vf w 95 64 = 0xFFFFFFFF then ma = none else aligned (vf w 95 64) 8 = true ∧
        ∃ p, resolveAddr u v k true (vf w 95 64) (8 * (maskBits 8 (vf w 116 109)).length) = some p ∧ ma = some p) →
      let len := vf w 101 96 + 1
      let groups := maskBits 8 (vf w 116 109)
      let near := u.nearOf (clusterOfVat v)
      let inp (i : Nat) := entryValues (u.vat v) i 512 (vsf w 108 102)
      resolveAddr u v k true (vf w 63 32) ((if vf w 24 24 = 1 then len else 1) * 64 * groups.length *
        if vf w 26 26 = 1 then 4 else 2) = some a →
      (((u.vat v).tags.take len).all fun t => t == .empty || t == if vf w 25 25 = 1 then .fp32 else .int32) = true →
      ∃ t, Runs (.scan v w) s (vatSignal v w k t) ∧
        t = u.modVat v (fun x => { x with
          acc := (t.vat v).acc, tags := setTags x.tags 0 len .fp32, carry := (t.vat v).carry }) ∧
        (∀ e n, len ≤ e → n < 512 → nget (t.vat v).acc (512 * e + n) = nget (u.vat v).acc (512 * e + n)) ∧
        ∀ n, n < 512 →
          (bit (vf w 116 109) (n / 64) = false → nget (t.vat v).carry n = nget (u.vat v).carry n ∧
            ∀ i, i < len → nget (t.vat v).acc (512 * i + n) = ((inp i)[n]?).getD 0) ∧
          (bit (vf w 116 109) (n / 64) = true →
            let gi := (groups.filter (· < n / 64)).length
            let hs := scanColumn
              ((List.range len).map fun i =>
                scanCoef near a (vf w 24 24 == 1) (vf w 26 26 == 1) groups.length i (64 * gi + n % 64))
              ((List.range len).map fun i => flush32 (((inp i)[n]?).getD 0))
              (match ma with | some p => mnum near (p + 8 * gi) 8 | none => 0) (flush32 (nget (u.vat v).carry n))
            (∀ i, i < len → nget (t.vat v).acc (512 * i + n) = (hs[i]?).getD 0) ∧
              nget (t.vat v).carry n = (hs[len - 1]?).getD 0)) ∧
    (vatOpUnassigned (vOP w) = true → vatReady s v w (vOP w) = true → (s.vat v).bound = some k →
      Runs (.vatOpUnassigned v w) s (vatExc u v k xVAT_OP))

/-- R108, R116, R118-R121, R124, R144, R147, R154: a comparison that agrees does nothing more, one that an INJECT
corrupted sets CHECK_SEEN, any other is a detected fault; the states through which a vat starts; the swaps of streams. -/
def Obligations.VatComparisonsStartsAndSwaps : Prop :=
  (∀ (s : State) (v row slice err : Nat) (r : Resid),
    (s.vat v).resid.find? (fun q => q.row == row && q.slice == slice) = some r →
    let d := s.modVat v fun x => { x with resid := x.resid.erase r }
    (slice ∉ (s.vat v).inject → (r.s + err) % resMod = r.c →
      Runs (.residueComparison v row slice err) s (goOn d v)) ∧
    (slice ∉ (s.vat v).inject → (r.s + err) % resMod ≠ r.c →
      Runs (.residueComparison v row slice err) s (detectVat d v mechRESIDUE slice)) ∧
    ∀ k, slice ∈ (s.vat v).inject → (r.s + err) % resMod ≠ (r.c + 1) % resMod → (s.vat v).bound = some k →
      Runs (.residueComparison v row slice err) s
        (goOn (modRun (d.modVat v fun x => { x with inject := x.inject.erase slice }) k fun q => { q with checkSeen := true }) v)) ∧
  (∀ (s : State) (v : Nat), computeOn s = true → v < s.vats.length →
    ((s.vat v).state = 5 → ((s.vat v).queue = [] ∨ headWaits s v = true) →
      Runs (.vatIdleEntry v) s (s.modVat v fun x => { x with state := 2 })) ∧
    ((grantOrder s).head? = some v → ∃ t, Runs (.currentStepGrant v) s t ∧ (t.vat v).state = 3 ∧
      (t.vat v).idleExits = satAdd32 (s.vat v).idleExits 1 ∧ (t.vat v).queue = (s.vat v).queue ∧
      (t.vat v).grantWait = satAdd32 (s.vat v).grantWait (if (s.vat v).late then 1 else 0) ∧
      t.pwr.grantQ = (grantOrder s).filter (· != v) ∧
      ((∀ u ∈ grantOrder s, u ≠ v → (s.vat u).late = false) → 2 ∉ t.pwr.thrOn) ∧
      ((s.vat v).late = false → t.gra = s.gra ∧ t.fresh = s.fresh) ∧
      t = { s with vats := t.vats, gra := t.gra, pwr := t.pwr, fresh := t.fresh }) ∧
    ((s.vat v).state = 3 → Runs (.vatFullWidth v) s (s.modVat v fun x => { x with state := 5 })) ∧
    ∀ x : Vat, x.state = 2 → ((requestGrant x).state = 4 ↔ x.queue ≠ [])) ∧
  ∀ (s : State) (v h i : Nat) (o : Obj), objOf s h = some (i, o) →
    (streamOf s i = (2, v) → deferredDue s i = true → chunkRuns s v i = false →
      ∃ t, Runs (.deferredSwap v h) s t ∧ streamOf t i = (3, v) ∧ i ∉ t.gra.deferred.map (·.1) ∧ t.vats = s.vats ∧
        t.obj = s.obj) ∧
    (streamOf s i = (3, v) ∨ streamOf s i = (4, v) → v < s.vats.length →
      ∃ t, Runs (.swapOutComplete v h) s t ∧ streamOf t i = (0, 0) ∧ i ∉ t.gra.deferred.map (·.1) ∧
        (t.vat v).swaps = satAdd32 (s.vat v).swaps 1 ∧
        (t.vat v).swapsForced = (if streamOf s i = (4, v) then satAdd32 (s.vat v).swapsForced 1 else (s.vat v).swapsForced) ∧
        (∀ g : Nat, (t.vat v).held[g]? ≠ some (some i)) ∧
        t.obj = s.obj ∧ t.main = (objWrite s i 0 (groupBytes (s.vat v).carry o.gmask)).main ∧
        t.near = (objWrite s i 0 (groupBytes (s.vat v).carry o.gmask)).near)

/-- R155, R165-R167: the results of INT and of the immediate forms; every one reads s[A] and its second operand, writes
s[D], and moves the program counter by 4; s0 reads as 0 and a write to it is discarded; a division by 0 is an
exception. branches, JMP and JMPR, with the exceptions of a register jump. -/
def Obligations.ScalarResultsAndBranches : Prop :=
  ((∀ (t : Nat) (s : State) (k : TaskRef), TrnRuns t s k →
    let x := s.trn t
    (∀ f : FmtN, f.z = 0 →
      (∀ e ∈ ([(0x00, (· + ·)), (0x01, (· - ·)), (0x02, (· &&& ·)), (0x03, (· ||| ·)), (0x04, (· ^^^ ·)),
          (0x05, fun a b => a <<< (b.toNat % 64)), (0x06, fun a b => a >>> (b.toNat % 64)),
          (0x07, fun a b => a.sshiftRight (b.toNat % 64)), (0x08, fun a b => if a.slt b then 1 else 0),
          (0x09, fun a b => if a.ult b then 1 else 0), (0x0A, (· * ·)),
          (0x0B, fun a b => BitVec.ofNat 64 (a.toNat * b.toNat / 2 ^ 64)), (0x0E, fun a b => if a.slt b then a else b),
          (0x0F, fun a b => if a.slt b then b else a)] : List (Nat × (DWord → DWord → DWord))),
        f.fn.toNat = e.1 → Runs (.int t f) s (done t (fun z => z.setS f.d (e.2 (x.s f.a) (x.s f.b))) s)) ∧
      (x.s f.b ≠ 0 →
        (f.fn = 0x0C → Runs (.int t f) s (done t (fun z => z.setS f.d (x.s f.a / x.s f.b)) s)) ∧
        (f.fn = 0x0D → Runs (.int t f) s (done t (fun z => z.setS f.d (x.s f.a % x.s f.b)) s))) ∧
      (x.s f.b = 0 → f.fn = 0x0C ∨ f.fn = 0x0D → Runs (.int t f) s (trnExc s t k xTRN_DIV0)) ∧
      (f.b = 0 → f.fn = 0x10 → ∃ n, Runs (.int t f) s (done t (fun z => z.setS f.d (BitVec.ofNat 64 n)) s) ∧
        (∀ i, i < n → (x.s f.a).getLsbD i = false) ∧ (n = 64 ∨ n < 64 ∧ (x.s f.a).getLsbD n = true)) ∧
      (f.b = 0 → f.fn = 0x11 → Runs (.int t f) s (done t (fun z => z.setS f.d
        (BitVec.ofNat 64 ((List.range 64).countP fun i => (x.s f.a).getLsbD i))) s))) ∧
    ∀ f : FmtI,
      let a := x.s f.a
      let i := f.imm.signExtend 64
      let put (r : DWord) := done t (fun z => z.setS f.d r) s
      Runs (.addi t f) s (put (a + i)) ∧ Runs (.andi t f) s (put (a &&& i)) ∧ Runs (.ori t f) s (put (a ||| i)) ∧
      Runs (.xori t f) s (put (a ^^^ i)) ∧ Runs (.slti t f) s (put (if a.slt i then 1 else 0)) ∧
      (f.imm.toNat < 64 → Runs (.shli t f) s (put (a <<< f.imm.toNat)) ∧ Runs (.shri t f) s (put (a >>> f.imm.toNat)) ∧
        Runs (.srai t f) s (put (a.sshiftRight f.imm.toNat))) ∧
      (f.a = 0 → Runs (.lsh15 t f) s (put ((x.s f.d <<< 15) + f.imm.zeroExtend 64)))) ∧
  ∀ (x : Turner) (i j : BitVec 5) (r : DWord), x.s 0 = 0 ∧ x.setS 0 r = x ∧
    (i ≠ 0 → x.sreg.length = 32 → (x.setS i r).s i = r) ∧ (i ≠ j → (x.setS i r).s j = x.s j)) ∧
  (∀ (t : Nat) (s : State) (k : TaskRef) (f : FmtI), TrnRuns t s k →
    let x := s.trn t
    let dest := x.pc + 4 * f.imm.signExtend 32
    let beyond := trnExc s t k xTRN_ADDR
    let go (c : Bool) := if c then (if bodyLen s k ≤ dest.toNat then beyond else retire s t dest) else retire s t (x.pc + 4)
    let link := s.modTrn t fun z => z.setS f.d ((x.pc + 4).zeroExtend 64)
    let target := x.s f.a + 4 * f.imm.signExtend 64
    Runs (.beq t f) s (go (x.s f.a == x.s f.d)) ∧ Runs (.bne t f) s (go (x.s f.a != x.s f.d)) ∧
    Runs (.blt t f) s (go ((x.s f.a).slt (x.s f.d))) ∧ Runs (.bge t f) s (go (!(x.s f.a).slt (x.s f.d))) ∧
    Runs (.bltu t f) s (go ((x.s f.a).ult (x.s f.d))) ∧ Runs (.bgeu t f) s (go (!(x.s f.a).ult (x.s f.d))) ∧
    Runs (.jmp t f) s (if bodyLen s k ≤ dest.toNat then beyond else retire link t dest) ∧
    (target.toNat % 4 ≠ 0 → Runs (.jmpr t f) s (trnExc s t k xTRN_ALIGN)) ∧
    ∀ n, kernelOf s k = some n → target.toNat % 4 = 0 →
      (target.toNat < n.len → Runs (.jmpr t f) s (retire link t (target.truncate 32))) ∧
      (n.len ≤ target.toNat → Runs (.jmpr t f) s beyond))

/-- R156, R168-R170: the accesses of a turner: loads bring the bytes of one aligned window into a register, stores put a
register's bytes there; no other byte of a scratch or near store changes; a misaligned or unmapped access is an
exception. -/
def Obligations.LoadsAndStoresMoveBytes : Prop :=
  (∀ (t : Nat) (s : State) (k : TaskRef), TrnRuns t s k →
    let x := s.trn t
    (∀ (f : FmtM) (w : Win),
      let n := 2 ^ f.w.toNat
      let a := (x.s f.a + f.off.signExtend 64 * BitVec.ofNat 64 n).toNat
      a % n = 0 → window s a n = some w →
      (f.w.toNat ≤ 3 → Runs (.ld t f) s (done t (fun z =>
        z.setS f.t (BitVec.ofInt 64 (sx (8 * n) (leNat (winRead s t w n))))) s)) ∧
      (f.w.toNat ≤ 2 → Runs (.ldu t f) s (done t (fun z => z.setS f.t (BitVec.ofNat 64 (leNat (winRead s t w n)))) s)) ∧
      (f.w.toNat ≤ 3 → Runs (.st t f) s (retire (winWrite s t w (leBytes n (x.s f.t).toNat)) t (x.pc + 4))) ∧
      (f.w.toNat ≤ 3 → Runs (.vldb t f) s (done t (fun z =>
        z.setV f.t.toNat (vOfBytes (List.replicate (64 / n) (winRead s t w n)).flatten)) s))) ∧
    (∀ (f : FmtM) (w : Win), f.w = 0 →
      let a := (x.s f.a + f.off.signExtend 64 * 64).toNat
      a % 64 = 0 → window s a 64 = some w →
      Runs (.vld t f) s (done t (fun z => z.setV f.t.toNat (vOfBytes (winRead s t w 64))) s) ∧
      Runs (.vst t f) s (retire (winWrite s t w (vbytes (x.v f.t.toNat))) t (x.pc + 4))) ∧
    (∀ (f : FmtM),
      let n := 2 ^ f.w.toNat
      let a := (x.s f.a + f.off.signExtend 64 * BitVec.ofNat 64 n).toNat
      f.w.toNat ≤ 2 → ∀ c, (a % n ≠ 0 ∧ c = xTRN_ALIGN ∨ a % n = 0 ∧ window s a n = none ∧ c = xTRN_ADDR) →
        Runs (.ld t f) s (trnExc s t k c) ∧ Runs (.ldu t f) s (trnExc s t k c) ∧ Runs (.st t f) s (trnExc s t k c)) ∧
    ∀ (f : FmtV) (w : Win), etOK f.et.toNat = true → f.vb = 0 → f.fn = 0 → s.turners.length = 64 → s.near.length = 8 →
      (x.s f.va).toNat % 64 = 0 → window s (x.s f.va).toNat 64 = some w →
      ∃ u, Runs (.vstm t f) s (retire u t (x.pc + 4)) ∧
        u = { s with near := u.near, turners := u.turners } ∧
        winRead u t w 64 = ((List.range 64).map fun i =>
          if active (x.p f.p.toNat) (i / (etBits f.et.toNat / 8)) then (vbytes (x.v f.vd.toNat)).getD i 0
          else (winRead s t w 64).getD i 0) ∧
        ∀ b, w.covers 64 b = false → winRead u t b 1 = winRead s t b 1) ∧
  ∀ (s : State) (t : Nat) (w : Win) (bs : Bytes), t < 64 → s.turners.length = 64 → s.near.length = 8 →
    winRead (winWrite s t w bs) t w bs.length = bs ∧
    (∀ b, w.covers bs.length b = false → winRead (winWrite s t w bs) t b 1 = winRead s t b 1) ∧
    (∀ u, u ≠ t → (winWrite s t w bs).trn u = s.trn u) ∧
    (∀ c, c ≠ clusterOfTrn t → (winWrite s t w bs).nearOf c = s.nearOf c)

/-- R52-R65, R172-R186: the elementwise instructions: an active element takes the function of the source elements, any
other keeps its value; VCMP sets a predicate; VRED and the scalar and predicate forms of VMOVE write one register.
VQUANT, VSEL and VRAND. -/
def Obligations.VectorElementsAndQuantisation : Prop :=
  (∀ (t : Nat) (s : State) (k : TaskRef), TrnRuns t s k →
    let x := s.trn t
    (∀ (f : FmtV),
      let et := f.et.toNat
      let w := etBits et
      let e (r : BitVec 5) (i : Nat) := (elems w (x.v r.toNat)).getD i 0
      let p := x.p f.p.toNat
      let Lanes (c : Instr) (g : Nat → Nat) : Prop := ∃ y, Runs c s (done t (fun z => z.setV f.vd.toNat y) s) ∧
        ∀ i, i < etCount et → (elems w y)[i]? = some (if active p i then g i % 2 ^ w else e f.vd i)
      (arithOK f = true → Lanes (.varith t f) fun i => arithElem et f.fn.toNat (e f.va i) (e f.vb i)) ∧
      (arithOK f = true → Lanes (.vsarith t f) fun i => arithElem et f.fn.toNat (e f.va i) ((x.s f.vb).toNat % 2 ^ w)) ∧
      (et = 3 ∨ et = 4 → f.fn.toNat ≤ 3 → f.vb = 0 → Lanes (.vspec t f) fun i =>
        if et = 3 then bf16Of32 (specFn f.fn.toNat (65536 * e f.va i)) else specFn f.fn.toNat (e f.va i)) ∧
      (etOK et = true → f.fn.toNat ≤ 7 → (etFloat et = true → f.fn.toNat ≤ 5) → f.vd.toNat ≤ 7 →
        ∃ q, Runs (.vcmp t f) s (done t (fun z => z.setP f.vd.toNat q) s) ∧ ∀ i, i < 64 → q.getLsbD i =
          (decide (i < etCount et) && active p i && if etFloat et then cmpFl f.fn.toNat (flOf et (e f.va i)) (flOf et (e f.vb i))
            else cmpInt w f.fn.toNat (e f.va i) (e f.vb i))) ∧
      (etOK et = true → f.fn.toNat ≤ 4 → f.vb = 0 → Runs (.vred t f) s (done t (fun z =>
        z.setS f.vd (redResult et f.fn.toNat (elems w (x.v f.va.toNat)) p)) s)) ∧
      (etOK et = true → etOK f.fn.toNat = true → convOK et f.fn.toNat f.vb.toNat = true →
        let ns := etCount et
        let nt := etCount f.fn.toNat
        let h := f.vb.toNat
        let wd := etBits f.fn.toNat
        ∃ y, Runs (.vcvt t f) s (done t (fun z => z.setV f.vd.toNat y) { s with fresh := s.fresh + ns }) ∧
          ∀ i, i < nt → ∃ free, (elems wd y)[i]? = some (
            if active p i && (nt ≤ ns || (h * ns ≤ i && i < h * ns + ns)) then
              convElem et f.fn.toNat (e f.va (if nt < ns then h * nt + i else i - h * ns)) free % 2 ^ wd
            else (elems wd (x.v f.vd.toNat)).getD i 0)) ∧
      (vmoveOK f = true →
        let n := etCount et
        (f.fn = 0 → Lanes (.vmove t f) fun i => e f.va i) ∧
        (f.fn = 1 → Lanes (.vmove t f) fun _ => (x.s f.va).toNat) ∧
        (f.fn = 2 → Runs (.vmove t f) s (done t (fun z =>
          z.setS f.vd (BitVec.ofNat 64 (e f.va ((x.s f.vb).toNat % n)))) s)) ∧
        (f.fn = 3 → ∃ y, Runs (.vmove t f) s (done t (fun z => z.setV f.vd.toNat y) s) ∧ ∀ i, i < n →
          (elems w y)[i]? = some (if i = (x.s f.vb).toNat % n then (x.s f.va).toNat % 2 ^ w else e f.vd i)) ∧
        (f.fn = 4 → ∃ y, Runs (.vmove t f) s (done t (fun z => z.setV f.vd.toNat y) s) ∧ ∀ i, i < n →
          (elems w y)[i]? = some (if active p i then e f.va i else e f.vb i)) ∧
        (f.fn = 5 → Runs (.vmove t f) s (done t (fun z => z.setS f.vd (x.p f.va.toNat)) s)) ∧
        (f.fn = 6 → Runs (.vmove t f) s (done t (fun z => z.setP f.vd.toNat (x.s f.va)) s)) ∧
        (f.fn = 7 → Runs (.vmove t f) s (done t (fun z => z.setP f.vd.toNat (x.p f.va.toNat &&& x.p f.vb.toNat)) s)) ∧
        (f.fn = 8 → Runs (.vmove t f) s (done t (fun z => z.setP f.vd.toNat (x.p f.va.toNat ||| x.p f.vb.toNat)) s)) ∧
        (f.fn = 9 → Runs (.vmove t f) s (done t (fun z => z.setP f.vd.toNat (~~~x.p f.va.toNat)) s)) ∧
        (f.fn = 10 → Lanes (.vmove t f) fun i => i) ∧
        (f.fn = 11 → Lanes (.vmove t f) fun i => e f.va (e f.vb i % n)))) ∧
    ∀ f : FmtX, f.fn.toNat ≤ 7 → f.fn.toNat % 4 ≠ 3 →
      let et := if bit f.fn.toNat 2 then 3 else 4
      let e (r : BitVec 5) (i : Nat) := (elems (etBits et) (x.v r.toNat)).getD i 0
      ∃ y, Runs (.vfma t f) s (done t (fun z => z.setV f.d.toNat y) s) ∧ ∀ i, i < etCount et →
        (elems (etBits et) y)[i]? = some (fmaElem et (f.fn.toNat % 4) (e f.a i) (e f.b i) (e f.c i) % 2 ^ etBits et)) ∧
  (∀ (t : Nat) (s : State) (k : TaskRef) (f : FmtX), TrnRuns t s k →
    let x := s.trn t
    let fn := f.fn.toNat
    let g := quantGroups fn
    (fn ≤ 13 → (8 ≤ fn → f.c = 0) → f.a.toNat % g.1 ≠ 0 ∨ f.d.toNat % g.2 ≠ 0 →
      Runs (.vquant t f) s (trnExc s t k xTRN_GROUP)) ∧
    (fn < 8 → f.a.toNat % g.1 = 0 → f.d.toNat % g.2 = 0 →
      let src := if fn % 2 = 1 then (x.group f.a g.1 16).map (· * 65536) else x.group f.a g.1 32
      let q := quantise fn (rmOf s k) (if f.b = 0 then none else some (x.s f.b).toNat) (drawn s) src
      Runs (.vquant t f) s (retire (countSat ((advance s).modTrn t fun z =>
          (z.setGroup f.d g.2 8 q.out).setS f.c (BitVec.ofNat 64 q.res)) t k q.sat q.nan) t (x.pc + 4)) ∧
        (fn < 2 → f.b = 0 → q.res = scaleQ8 (maxAbs src)) ∧
        (fn < 4 → f.b ≠ 0 → q.res % 65536 = (x.s f.b).toNat % 65536)) ∧
    (8 ≤ fn → fn ≤ 13 → f.c = 0 → f.a.toNat % g.1 = 0 → f.d.toNat % g.2 = 0 →
      ∃ vs : List Fl, Runs (.vquant t f) s (retire (({ s with fresh := s.fresh + 64 }).modTrn t fun z =>
          if fn % 2 = 1 then z.setGroup f.d g.2 16 (vs.map to16) else z.setGroup f.d g.2 32 (vs.map to32)) t (x.pc + 4)) ∧
        (fn < 12 → vs = (x.group f.a 2 8).map fun c =>
          dequant ((x.s f.b).toNat % 65536) c (if fn < 10 then 128 else bits (x.s f.b).toNat 23 16))) ∧
    (vselOK f = true →
      (fn = 0 → ((x.s f.a).toNat = 0 ∨ 64 < (x.s f.a).toNat → Runs (.vsel t f) s (trnExc s t k xTRN_TOPK)) ∧
        (1 ≤ (x.s f.a).toNat → (x.s f.a).toNat ≤ 64 → Runs (.vsel t f) s (done t (fun z =>
          { z with topk := some { k := (x.s f.a).toNat, ents := [] } }) s))) ∧
      (x.topk = none → fn = 1 ∨ fn = 2 ∧ f.d.toNat % 2 = 0 ∨ fn = 3 → Runs (.vsel t f) s (trnExc s t k xTRN_TOPK)) ∧
      (∀ b, x.topk = some b →
        (fn = 1 → ∃ b', Runs (.vsel t f) s (done t (fun z => { z with topk := some b' }) s) ∧ b'.k = b.k ∧
          (b.ents.length ≤ b.k → b'.ents.length ≤ b.k)) ∧
        (fn = 3 → Runs (.vsel t f) s (done t (fun z => z.setS f.d (BitVec.ofNat 64 b.ents.length)) s)) ∧
        (fn = 2 → f.d.toNat % 2 = 0 → ∃ y z, Runs (.vsel t f) s (done t (fun u =>
            (u.setV f.d.toNat y).setV (f.d.toNat + 1) z) s) ∧
          ∀ i, i < 16 → ((elems 32 y)[i]?, (elems 32 z)[i]?) =
            (let p := (b.ents[16 * (x.s f.b).toNat + i]?).getD (0xFF800000, 0xFFFFFFFF)
             (some (p.1 % 2 ^ 32), some (p.2 % 2 ^ 32))))) ∧
      (fn = 4 → ∃ y, Runs (.vsel t f) s (done t (fun z => (z.setV f.d.toNat y).setS f.c
          (BitVec.ofNat 64 ((prefixSums ((x.s f.b).toNat % 2 ^ 32) (elems 32 (x.v f.a.toNat))).getLast?.getD 0))) s) ∧
        elems 32 y = (prefixSums ((x.s f.b).toNat % 2 ^ 32) (elems 32 (x.v f.a.toNat))).map (· % 2 ^ 32))) ∧
    (f.c = 0 → fn ≤ 1 → ∃ y, Runs (.vrand t f) s (done t (fun z => z.setV f.d.toNat y) s) ∧ ∀ i, i < 16 →
      (elems 32 y)[i]? = some ((if fn = 0 then id else unitF32) (mix (x.s f.b) (x.s f.a + BitVec.ofNat 64 i)) % 2 ^ 32)))

/-- R111, R158, R161, R187-R194: VISSUE and DISSUE put a command or a move behind the earlier ones or wait while the queue
is full; SWAIT waits for its counter; each goes on when it can. SSIG, SPOLL, TEND, TYIELD and its resumption, TRAP and
SYSR. An event without its occasion changes nothing: the model's choice, notes/assumptions/1.md. -/
def Obligations.IssueSyncAndTaskControl : Prop :=
  ((∀ (t : Nat) (s : State) (k : TaskRef), TrnRuns t s k →
    let x := s.trn t
    (∀ f : FmtN, f.d = 0 → f.fn = 0 → f.z = 0 →
      (x.vat = none → Runs (.vissue t f) s (trnExc s t k xTRN_NOVAT)) ∧
      (∀ v, x.vat = some v → (s.vat v).queue.length < 32 →
        Runs (.vissue t f) s (retire (vatPush s v k (x.s f.b ++ x.s f.a)) t (x.pc + 4))) ∧
      (∀ v, x.vat = some v → 32 ≤ (s.vat v).queue.length → Runs (.vissue t f) s (s.modTrn t fun z =>
        { z with wait := .vissue (x.s f.b ++ x.s f.a), state := 4 })) ∧
      (f.b = 0 → ∀ w, (x.s f.a).toNat % 32 = 0 → window s (x.s f.a).toNat 32 = some w →
        (16 ≤ turnerMoves s t → Runs (.dissue t f) s (s.modTrn t fun z =>
          { z with wait := .dissue (x.s f.a).toNat, state := 4 })) ∧
        (turnerMoves s t < 16 →
          let q := moveReqOf (winRead s t w 32)
          (checkMove s k true q = none → Runs (.dissue t f) s (retire
            (issueMove s k (.turner t k) (some (clusterOfTrn t)) x.pc.toNat q) t (x.pc + 4))) ∧
          ∀ c, checkMove s k true q = some c → Runs (.dissue t f) s (trnExc s t k c)))) ∧
    ∀ f : FmtS, f.fn = 0 →
      let c := (f.num.toNat + (x.s f.a).toNat) % 4096
      (allocated s k.g c = false → Runs (.swait t f) s (trnExc s t k xTRN_SYNC)) ∧
      (allocated s k.g c = true → (x.s f.d).toNat ≤ counter s c → Runs (.swait t f) s (retire s t (x.pc + 4))) ∧
      (allocated s k.g c = true → counter s c < (x.s f.d).toNat → Runs (.swait t f) s (s.modTrn t fun z =>
        { z with wait := .swait c (x.s f.d).toNat, state := 4 }))) ∧
  (∀ (t : Nat) (s : State) (k : TaskRef), trnWaiting s t = true → (s.trn t).bound = some k →
    let x := s.trn t
    let u := s.modTrn t fun z => { z with wait := .none, state := 3 }
    (∀ w v, x.wait = .vissue w → x.vat = some v → (s.vat v).queue.length < 32 →
      Runs (.vissueResume t) s (retire (vatPush u v k w) t (x.pc + 4))) ∧
    (∀ a w, x.wait = .dissue a → turnerMoves s t < 16 → a % 32 = 0 → window s a 32 = some w →
      checkMove u k true (moveReqOf (winRead u t w 32)) = none →
      Runs (.dissueResume t) s (retire (issueMove u k (.turner t k) (some (clusterOfTrn t)) x.pc.toNat
        (moveReqOf (winRead u t w 32))) t (x.pc + 4))) ∧
    ∀ c n, x.wait = .swait c n → n ≤ counter s c → Runs (.swaitResume t) s (retire u t (x.pc + 4))) ∧
  ∀ (s : State) (v : Nat) (k : TaskRef) (w : BitVec 128), v < s.vats.length →
    ((vatPush s v k w).vat v).queue = (s.vat v).queue ++ [withRM (rmOf s k) w] ∧
    ∀ (b : MoveBy) (c : Option Nat) (pc : Nat) (q : MoveReq), ∃ m, (issueMove s k b c pc q).obj.moves = s.obj.moves ++ [m] ∧
      m.req = q ∧ m.by_ = b ∧ m.pc = pc ∧ m.engine = none) ∧
  ((∀ (t : Nat) (s : State) (k : TaskRef) (f : FmtS), TrnRuns t s k →
    let x := s.trn t
    let c := (f.num.toNat + (x.s f.a).toNat) % 4096
    (f.fn = 1 → f.d = 0 → allocated s k.g c = true → maySignal s k c = true → issuedDone s x k = true →
      Runs (.ssig t f) s (retire (settle (taskSignal s k c) k.g) t (x.pc + 4))) ∧
    (f.fn = 1 → f.d = 0 → allocated s k.g c = true → maySignal s k c = true → issuedDone s x k = false →
      Runs (.ssig t f) s (s.modTrn t fun z => { z with wait := .ssig c, state := 4 })) ∧
    (f.fn = 1 → f.d = 0 → allocated s k.g c = false ∨ maySignal s k c = false → Runs (.ssig t f) s (trnExc s t k xTRN_SYNC)) ∧
    (f.fn = 2 → allocated s k.g c = true → Runs (.spoll t f) s (done t (fun z => z.setS f.d (BitVec.ofNat 64 (counter s c))) s)) ∧
    (f.fn = 0 → f.d = 0 → f.a = 0 → f.num = 0 → issuedDone s x k = true →
      Runs (.tend t f) s (retire (modRun s k fun r => { r with atEnd := true }) t (x.pc + 4))) ∧
    (f.fn = 0 → f.d = 0 → f.a = 0 → f.num = 0 → issuedDone s x k = false →
      Runs (.tend t f) s (s.modTrn t fun z => { z with wait := .tend, state := 4 })) ∧
    (f.fn = 2 → f.d = 0 → f.a = 0 →
      Runs (.trap t f) s (trnExc (modRun s k fun r => { r with userCode := f.num.toNat }) t k xTRN_TRAP)) ∧
    (f.fn = 1 → allocated s k.g c = true → issuedDone s x k = true → ∃ u r, Runs (.tyield t f) s u ∧
      (u.trn t).bound = none ∧ (u.trn t).vat = none ∧ runOf s k = some r ∧
      runOf u k = some { r with st := .suspended, saved := some ⟨x.sreg, x.vreg, x.preg, x.pc + 4, c, (x.s f.d).toNat⟩ }) ∧
    (f.fn = 1 → allocated s k.g c = true → issuedDone s x k = false →
      Runs (.tyield t f) s (s.modTrn t fun z => { z with wait := .tyield c (x.s f.d).toNat, state := 4 })) ∧
    (f.fn = 1 → allocated s k.g c = false → Runs (.tyield t f) s (trnExc s t k xTRN_SYNC)) ∧
    (f.fn = 3 → f.a = 0 →
      let reads (v : Nat) := Runs (.sysr t f) s (done t (fun z => z.setS f.d (BitVec.ofNat 64 v)) s)
      (f.num = 0 → reads t) ∧ (f.num = 1 → reads (t / 8)) ∧ (f.num = 2 → reads (x.vat.getD 0xFF)) ∧ (f.num = 3 → reads k.i) ∧
      (f.num = 4 → reads (collOf s k)) ∧ (f.num = 5 → reads (rmOf s k)) ∧ (f.num = 0x11 → reads x.sat) ∧
      (f.num = 0x12 → reads (b2n x.nan)) ∧
      (f.num = 0x10 → ∃ v, Runs (.sysr t f) s (done t (fun z => z.setS f.d v) (advance s))) ∧
      ∀ i, i < 8 →
        (f.num.toNat = 0x20 + i → ((∀ p, operandObj s k i = some p → p.2.inNear (t / 8) = false) → reads (2 ^ 64 - 1)) ∧
          ∀ p, operandObj s k i = some p → p.2.inNear (t / 8) = true → reads (p.2.nearOff (t / 8))) ∧
        (f.num.toNat = 0x28 + i → (operandObj s k i = none → reads 0) ∧ ∀ p, operandObj s k i = some p → reads p.2.size))) ∧
  (∀ (t : Nat) (s : State) (k : TaskRef) (r : Run) (d : Desc) (sv : Saved), computeOn s = true → runOf s k = some r →
    descOf s k = some d → r.saved = some sv → r.st = .suspended → trnFree s t = true → clusterOfTrn t = r.cluster →
    sv.thr ≤ counter s sv.cnt → isBad s k siteTURNER t = false → (d.vatBit = true → vatChoices s k r.cluster ≠ []) →
      ∃ u, Runs (.tyieldResume t k.g k.i) s u ∧ (u.trn t).bound = some k ∧ (u.trn t).state = 3 ∧ (u.trn t).pc = sv.pc ∧
        (u.trn t).sreg = sv.sreg ∧ (u.trn t).vreg = sv.vreg ∧ (u.trn t).preg = sv.preg ∧ u.sync = s.sync ∧
        runOf u k = some { r with st := .running, unit := t, saved := none } ∧
        (d.vatBit = false → (u.trn t).vat = none ∧ u.vats = s.vats) ∧
        (d.vatBit = true → ∃ v ∈ vatChoices s k r.cluster, (u.trn t).vat = some v ∧ (u.vat v).bound = some k ∧
          (u.vat v).byTurner = some t)) ∧
  (∀ (t : Nat) (s : State) (k : TaskRef), (s.trn t).bound = some k →
    let x := s.trn t
    let u := s.modTrn t fun z => { z with wait := .none, state := 3 }
    (trnWaiting s t = false ∨ issuedDone s x k = false → trnProceed s t = s) ∧
    (trnWaiting s t = true → issuedDone s x k = true →
      (∀ c, x.wait = .ssig c → maySignal s k c = true →
        trnProceed s t = retire (settle (taskSignal u k c) k.g) t (x.pc + 4)) ∧
      (x.wait = .tend → trnProceed s t = retire (modRun u k fun r => { r with atEnd := true }) t (x.pc + 4)) ∧
      ∀ c n, x.wait = .tyield c n → trnProceed s t = retire (yieldTask u t k c n) t (x.pc + 4))) ∧
  ∀ (t : Nat) (s : State) (k : TaskRef) (code : Nat) (r : Run), runOf s k = some r → r.atEnd = false →
    runOf (trnExc s t k code) k = some { r with exc := code, pc := (s.trn t).pc.toNat, atEnd := true })

/-- R163: a word with an unassigned opcode, function or field, or with a reserved bit set, ends the task with TRN_ILLEGAL. -/
def Obligations.IllegalWordsEndTheTask : Prop :=
  ∀ (t : Nat) (s : State) (k : TaskRef) (w : BitVec 32), TrnRuns t s k → trnLegal (decodeTrn t w) = false →
    Runs (decodeTrn t w) s (trnExc s t k xTRN_ILLEGAL) ∧ Runs (.trnIllegal t w) s (trnExc s t k xTRN_ILLEGAL)

/-- R162-R164: a turner's instruction words and its instructions agree: the word of every instruction that a word can
spell decodes to that instruction, with every operand, and every word is the word of what it decodes to. -/
def Obligations.TurnerWordsRoundTrip : Prop :=
  (∀ (i : Instr) (t : Nat) (w : BitVec 32), trnWord i = some (t, w) → decodeTrn t w = i) ∧
    ∀ (t : Nat) (w : BitVec 32), trnWord (decodeTrn t w) = some (t, w)

/-- R202-R204, R224: GRAPH_LOAD of an object that passes every check takes a free number, installs the graph that the
object's bytes describe and sets its counters to 0; each failed check has its status; a dropped graph leaves its
number and counters free. -/
def Obligations.GraphsAreLoadedAndDropped : Prop :=
  (∀ (h : Hdr) (s : State) (handle coll gr : Nat), Accepted h {} s →
    let u := entered h (.graphLoad h handle coll gr) s
    let ends (st idx : Nat) := Runs (.graphLoad h handle coll gr) s (answer h.port h.tag (Ans.err st idx) u)
    (objOf s handle = none → ends stPARAM 0) ∧
    ∀ (i : Nat) (o : Obj), objOf s handle = some (i, o) →
      (o.rw = true → ends stPARAM 0) ∧
      (o.rw = false → s.keyed coll = false ∨ mayRead s coll i o = false → ends stACCESS 0) ∧
      (o.rw = false → s.keyed coll = true → mayRead s coll i o = true →
        (o.lstate ≠ lsREADY ∨ o.freeing = true ∨ o.closing = true → ends stSTATE 0) ∧
        (o.lstate = lsREADY → o.freeing = false → o.closing = false → ∀ b, readable u i o = .now b →
          let x := graphOfBytes b handle coll gr
          (∀ st idx, graphStatus u b x = some (st, idx) → ends st idx) ∧
          (graphStatus u b x = none → ∃ t g, g < 64 ∧ graphOf s g = none ∧
            Runs (.graphLoad h handle coll gr) s (answer h.port h.tag (Ans.ok g) t) ∧ graphOf t g = some x ∧
            (∀ j, j ≠ g → graphOf t j = graphOf s j) ∧
            (∀ c, x.cntBase ≤ c → c < x.cntBase + x.cntCount → counter t c = 0) ∧
            (∀ c, c < x.cntBase ∨ x.cntBase + x.cntCount ≤ c → counter t c = counter s c) ∧
            t.vats = s.vats ∧ t.turners = s.turners ∧ t.obj = s.obj ∧ t.main = s.main ∧ t.near = s.near)))) ∧
  (∀ (h : Hdr) (s : State) (g : Nat) (x : Graph), Accepted h {} s → g ≤ 63 → graphOf s g = some x →
    (x.drop.isSome = true → Runs (.graphDrop h g) s (answer h.port h.tag (Ans.err stSTATE) (entered h (.graphDrop h g) s))) ∧
    (x.drop = none → Runs (.graphDrop h g) s
      (modGraph (abortAll (entered h (.graphDrop h g) s) g 1) g fun y => { y with drop := some (h.port, h.tag) }))) ∧
  ∀ (s : State) (g : Nat) (x : Graph) (p : Port) (tag : Nat), graphOf s g = some x → x.drop = some (p, tag) → x.run = none →
    ∃ t, Runs (.graphDropComplete g) s (answer p tag (Ans.ok 0) t) ∧ graphOf t g = none ∧
      (∀ j, j ≠ g → graphOf t j = graphOf s j) ∧ (∀ c, x.cntBase ≤ c → c < x.cntBase + x.cntCount → counter t c = 0) ∧
      (∀ c, c < x.cntBase ∨ x.cntBase + x.cntCount ≤ c → counter t c = counter s c) ∧ t.obj = s.obj ∧ t.vats = s.vats

/-- R205-R207, R231, R543: GRAPH_RUN queues an instance, at most 16 a graph; INSTANCE_START takes the head of the queue
with the graph's counters at 0 and every task idle, or refuses it; GRAPH_ABORT empties the queue; a stalled instance
ends early. -/
def Obligations.InstancesQueueStartAndAbort : Prop :=
  (∀ (h : Hdr) (s : State) (g band comp binding : Nat) (x : Graph), Accepted h {} s → g ≤ 63 → band ≤ 3 →
    graphOf s g = some x → x.drop = none →
    (16 ≤ x.queue.length → Runs (.graphRun h g band comp binding) s
      (answer h.port h.tag (Ans.err stBUSY) (entered h (.graphRun h g band comp binding) s))) ∧
    (x.queue.length < 16 → ∃ t n, Runs (.graphRun h g band comp binding) s (answer h.port h.tag (Ans.ok 0) t) ∧
      graphOf t g = some { x with serial := (x.serial + 1) % 2 ^ 32, queue := x.queue ++ [n] } ∧ n.serial = x.serial ∧
      n.band = band ∧ n.comp = comp ∧ n.binding = binding ∧ n.port = h.port ∧ n.tag = h.tag ∧ n.early = 0 ∧
      (∀ j, j ≠ g → graphOf t j = graphOf s j) ∧ t.obj = s.obj ∧ t.sync = s.sync)) ∧
  (∀ (h : Hdr) (s : State) (g : Nat) (x : Graph), Accepted h {} s → g ≤ 63 → graphOf s g = some x → x.drop = none →
    x.run = none → ∃ t, Runs (.graphAbort h g) s (answer h.port h.tag (Ans.ok 0) t) ∧
      graphOf t g = some { x with queue := [] } ∧ (∀ j, j ≠ g → graphOf t j = graphOf s j)) ∧
  (∀ (h : Hdr) (s : State) (g : Nat) (x : Graph), Accepted h {} s → g ≤ 63 → graphOf s g = some x → x.drop = none →
    Runs (.graphAbort h g) s (replied h (.graphAbort h g) s 0 fun u => abortAll u g 1)) ∧
  (∀ (s : State) (g : Nat) (x : Graph) (n : Inst) (ns : List Inst) (binds : List Nat), serviceOn s = true →
    graphOf s g = some x → x.group = false → x.edges = [] → x.tasks ≠ [] → x.run = none → x.drop = none → x.queue = n :: ns →
    n.early = 0 →
    (x.nparam = 0 ∧ binds = [] ∨ x.nparam ≠ 0 ∧ ∃ i o b, objOf s n.binding = some (i, o) ∧ 4 * x.nparam ≤ o.size ∧
      o.lstate = lsREADY ∧ o.freeing = false ∧ o.closing = false ∧ mayRead s x.coll i o = true ∧ readable s i o = .now b ∧
      binds = (List.range x.nparam).map fun p => bnum b (4 * p) 4) →
    (∀ r, compOK s x n.comp = some r →
      Runs (.instanceStart g) s (refuseInstance (takeInstance s g x n) g x { n with binds := binds } r)) ∧
    (compOK s x n.comp = none → paramReason s x { n with binds := binds } = none → spaceOK s x { n with binds := binds } = true →
      bindsReplaced s { n with binds := binds } = false → (∀ d ∈ x.tasks, d.kind ≠ 3) →
      ∃ t y r, Runs (.instanceStart g) s t ∧ graphOf t g = some y ∧ y.queue = ns ∧ y.run = some r ∧ r.serial = n.serial ∧
        r.binds = binds ∧ r.start = s.tick ∧ r.band = n.band ∧ r.runs = (x.tasks.map fun _ => Run.fresh) ∧
        (∀ c, x.cntBase ≤ c → c < x.cntBase + x.cntCount → counter t c = 0) ∧
        (∀ j, j ≠ g → graphOf t j = graphOf s j) ∧ t.obj = s.obj ∧ t.vats = s.vats ∧ t.turners = s.turners)) ∧
  ∀ (s : State) (g : Nat) (x : Graph) (n : Inst), serviceOn s = true → s.pwr.coolStop = false → graphOf s g = some x →
    x.run = some n → (∃ r ∈ n.runs, r.st.status = none) →
    (∀ (i : Nat) (r : Run), n.runs[i]? = some r → r.st.status = none → taskMoves s x n ⟨g, i⟩ r = false) →
      ∃ u d m, Runs (.instanceStall g) s (endEarly u g 4) ∧ u.gra = s.gra ∧ u.flt.stalls = satAdd32 s.flt.stalls 1 ∧
        tget u.flt.log s.flt.head = some (logEntry s d s.flt.seq 0 m) ∧ d.site = siteGRAPH ∧ d.mech = mechSTALL ∧
        d.action = actABORTED ∧ d.graph = g ∧ d.serial = n.serial ∧ d.coll = x.coll

/-- R213-R222, R226-R228, R259, R268: how one task goes from its residency request through release, dispatch and stealing
to its completion, and what a passed budget does. -/
def Obligations.TasksAreRequestedReleasedAndRun : Prop :=
  (∀ (s : State) (k : TaskRef) (x : Graph) (n : Inst) (d : Desc) (c : Nat), serviceOn s = true → graphOf s k.g = some x →
    instOf s k.g = some n → n.early = 0 → descOf s k = some d → mayRequest s x n k d = true →
    (∀ (j : Nat) (e : Desc), j < k.i → x.tasks[j]? = some e → mayRequest s x n ⟨k.g, j⟩ e = false) → operandBad s k = none →
    chooseCluster s k d = some c →
    let u := modRun s k fun r => { r with cluster := c }
    (canPin u (pinnedIdxs u k) = true → Runs (.residencyRequest k.g k.i) s (placeRequest (pin u (pinnedIdxs u k)) k c)) ∧
    (canPin u (pinnedIdxs u k) = false →
      Runs (.residencyRequest k.g k.i) s (modRun u k fun r => { r with st := .pinWait }))) ∧
  (∀ (s : State) (c : Nat) (k : TaskRef) (ks : List TaskRef), serviceOn s = true → clusterUp s c = true →
    s.gra.resQ[c]? = some (k :: ks) →
    (∀ t, grantTask s k c = some t → Runs (.residencySpaceGrant c) s
      (pressHead { t with gra := { t.gra with resQ := t.gra.resQ.modify c fun q => q.filter (· != k) } } c)) ∧
    (grantTask s k c = none → Runs (.residencySpaceGrant c) s (pressHead s c)) ∧
    ∃ u, Runs (.objSpaceWaitExpiry c) s (pressHead (failTask u k xOBJ_SPACE) c) ∧
      u.obj.lastFail = mrFAILED_SPACE ∧ u.gra.resQ[c]? = some ((k :: ks).filter (· != k)) ∧
      (∀ i ∈ operandIdxs s k, ∀ o, objAt u i = some o → o.last = mrFAILED_SPACE) ∧ u.gra.graphs = s.gra.graphs) ∧
  (∀ (s : State) (k : TaskRef) (x : Graph) (n : Inst) (d : Desc) (r : Run), serviceOn s = true → graphOf s k.g = some x →
    instOf s k.g = some n → n.early = 0 → descOf s k = some d → runOf s k = some r → predsOK x n d k.i = true →
    operandBad s k = none → atBarrier s k = false → allReady s k = true →
    (d.kind ≤ 1 → r.st = .granted → allResident s k r.cluster = true →
      (∀ j ∈ streamIdxs s k, (streamOf s j).1 = 0 ∨ (streamOf s j).1 = 2) → r.cluster < s.gra.rqT.length →
      r.cluster < s.gra.rqV.length → strayed s k r.cluster = none →
      ∃ t q u, Runs (.taskRelease k.g k.i) s t ∧ q = { r with st := .ready, stolen := false, readyAt := if r.stolen then 0 else s.tick + 1 } ∧
        runOf t k = some q ∧ u = modRun s k (fun _ => q) ∧
        readyQueue t (d.kind == 1) r.cluster = (if r.stolen then insertHead u k (readyQueue s (d.kind == 1) r.cluster)
          else insertTail u k (readyQueue s (d.kind == 1) r.cluster)) ∧ t.obj = s.obj ∧ t.vats = s.vats) ∧
    (d.kind ≤ 1 → r.st = .granted → (strayed s k r.cluster).isSome = true → Runs (.taskRelease k.g k.i) s (repin s k)) ∧
    (d.kind = 2 ∨ d.kind = 4 ∧ canPin s (pinnedIdxs s k) = true → r.st = .idle →
      Runs (.taskRelease k.g k.i) s (startMoveTask s k d n))) ∧
  (∀ (s : State) (v : Nat) (k : TaskRef), computeOn s = true → vatFree s v = true → clusterUp s (v / 2) = true →
    (readyQueue s true (v / 2)).find? (vatRuns s v) = some k →
      ∃ t, Runs (.taskDispatch true v) s t ∧ (t.vat v).bound = some k ∧ (t.vat v).byTurner = none ∧ (t.vat v).resid = [] ∧
        (t.vat v).buf0.valid = false ∧ (t.vat v).buf1.valid = false ∧ (t.vat v).acc = [] ∧
        readyQueue t true (v / 2) = (readyQueue s true (v / 2)).filter (· != k) ∧ t.turners = s.turners ∧ t.near = s.near) ∧
  (∀ (s : State) (t : Nat) (k : TaskRef) (n : Kernel), computeOn s = true → trnFree s t = true → clusterUp s (t / 8) = true →
    (readyQueue s false (t / 8)).find? (turnerRuns s t) = some k → kernelOf s k = some n → (descOf s k).any Desc.vatBit = false →
      ∃ u, Runs (.taskDispatch false t) s u ∧ (u.trn t).bound = some k ∧ (u.trn t).state = 3 ∧ (u.trn t).vat = none ∧
        (u.trn t).pc = BitVec.ofNat 32 n.entry ∧ (u.trn t).sreg = List.replicate 32 0 ∧ (u.trn t).topk = none ∧
        readyQueue u false (t / 8) = (readyQueue s false (t / 8)).filter (· != k) ∧ u.vats = s.vats ∧ u.near = s.near) ∧
  (∀ (s : State) (isVat : Bool) (u : Nat) (k : TaskRef) (victim tier : Nat), computeOn s = true → unitFree s isVat u = true →
    clusterUp s (unitCluster isVat u) = true →
    (∀ j ∈ readyQueue s isVat (unitCluster isVat u), unitRuns s isVat u j = false) →
    stealFrom s isVat u = some (k, victim, tier) →
      ∃ w, Runs (.taskSteal isVat u) s (placeRequest w k (unitCluster isVat u)) ∧
        readyQueue w isVat victim = (readyQueue s isVat victim).filter (· != k) ∧ w.obj = s.obj ∧ w.vats = s.vats ∧
        w.gra.stealsSib = (if tier = 2 then satAdd32 s.gra.stealsSib 1 else s.gra.stealsSib) ∧
        w.gra.stealsFar = (if tier = 2 then s.gra.stealsFar else satAdd32 s.gra.stealsFar 1)) ∧
  ∀ (s : State) (k : TaskRef) (d : Desc) (r : Run), descOf s k = some d → runOf s k = some r →
    (taskAtEnd s k d r = true → ∃ u r', Runs (.taskComplete k.g k.i) s (afterTask (settle u k.g) (operandIdxs s k)) ∧
      runOf u k = some r' ∧ r'.st = .ended (if r.exc = 0 then 0 else 1) ∧ u.gra.tasks = satAdd64 s.gra.tasks 1 ∧
      (∀ t, (u.trn t).bound ≠ some k) ∧ ∀ v, (u.vat v).bound ≠ some k) ∧
    (computeOn s = true → r.st = .running → d.budget ≠ 0 → r.overB = false → ∃ t, Runs (.overBudget k.g k.i) s t ∧
      runOf t k = some { r with overB := true, overOnce := true } ∧
      t.gra.overB = (if r.overOnce then s.gra.overB else satAdd32 s.gra.overB 1) ∧ t.obj = s.obj ∧ t.vats = s.vats ∧
      t.turners = s.turners) ∧
    (computeOn s = true → r.st = .running → d.budget ≠ 0 →
      let u := { s with gra := { s.gra with hangs := satAdd32 s.gra.hangs 1 } }
      (d.kind = 1 → Runs (.budgetHang k.g k.i) s (detectVat u r.unit mechBUDGET 0)) ∧
      (d.kind = 0 → Runs (.budgetHang k.g k.i) s (detectTurner u r.unit mechBUDGET)))

/-- R242-R250, R256, R259, R260, R265, R266, R274, R279, R642: the commands on objects: create, free, place, query,
promote and evict, what each migration request meets, and the release of a freed object, whose bytes are zeroed. An
event without its occasion changes nothing: the model's choice, notes/assumptions/1.md. -/
def Obligations.ObjectCommands : Prop :=
  (∀ (h : Hdr) (s : State) (kind size coll home place region entry aux : Nat), Accepted h {} s →
    let c := Instr.objCreate h kind size coll home place region entry aux
    let u := entered h c s
    let ends (a : Ans) := Runs c s (answer h.port h.tag a u)
    (createParamOK kind size coll home place region entry aux = false → ends (Ans.err stPARAM)) ∧
    (createParamOK kind size coll home place region entry aux = true →
      (bit kind 0 = true → 1 < place % 4 → ends (Ans.err stREFUSED mrREFUSED_KIND)) ∧
      (bit kind 0 = false ∨ place % 4 ≤ 1 →
        (s.keyed coll = false → ends (Ans.err stACCESS)) ∧
        (s.keyed coll = true → home = 1 → s.testMode = true → ends (Ans.err stMODE)) ∧
        (s.keyed coll = true → home = 1 → s.testMode = false → caveEntryOK s coll size region entry = false →
          ends (Ans.err stREGION)) ∧
        (s.keyed coll = true → (home = 1 → s.testMode = false ∧ caveEntryOK s coll size region entry = true) →
          (size = 0 ∨ 2 ^ 32 < size → Runs c s (answer h.port h.tag (Ans.err stALLOC 3)
            (sendEvent evALLOC_FAIL (le4 coll ++ le4 size ++ le4 3) { u with obj := { u.obj with
              allocFail := satAdd32 u.obj.allocFail 1, lastFail := 0x83 } }))) ∧
          (0 < size → size ≤ 2 ^ 32 → (bits kind 3 2 = 1 → size ≤ 8192 * aux) → s.obj.tab.length < 32768 →
            (bit kind 0 = true ∨ home = 0 →
              mainReserved s + mainPinned s + stagingBytes s + roundUp size 65536 ≤ objectRegion s) →
            (devPlace u (roundUp size 65536 / 65536)).1.isSome = true →
            ∃ t i o, Runs c s (answer h.port h.tag (Ans.ok (mkHandle i o)) t) ∧ i < 32768 ∧ objAt s i = none ∧
              objAt t i = some o ∧ o.gen = nextGen (nget s.obj.gens i) ∧ nget t.obj.gens i = o.gen ∧ o.coll = coll ∧
              o.size = size ∧ o.home = home ∧ o.place = place ∧ o.pins = 0 ∧ o.nsmask = 0 ∧ o.freeing = false ∧
              o.rw = bit kind 0 ∧ (o.res = true ↔ bit kind 0 = true ∨ home = 0) ∧
              (bit kind 0 = false → home ≠ 0 → ∀ j, j ≠ i → objAt t j = objAt s j) ∧ t.main = s.main ∧ t.near = s.near))))) ∧
  (∀ (h : Hdr) (s : State) (handle i : Nat) (o : Obj), objOf s handle = some (i, o) →
    (Accepted h {} s →
      (o.closing = true → Runs (.objFree h handle) s
        (answer h.port h.tag (Ans.err stSTATE) (entered h (.objFree h handle) s))) ∧
      (o.closing = false → o.freeing = false → Runs (.objFree h handle) s (replied h (.objFree h handle) s 0 fun u =>
        failMovesOf (endRequestsOf (cancelMigs (endLoadsOf (modObj u i fun o => { o with freeing := true }) i lsFREED) i
          mrCANCELLED_FREED false) i mrCANCELLED_FREED) i mrCANCELLED_FREED)) ∧
      (∀ place, place < 64 → o.freeing = false → o.closing = false → (o.rw = true → place % 4 ≤ 1) →
        Runs (.objPlace h handle place) s (replied h (.objPlace h handle place) s 0 fun u =>
          dropSurplus (modObj u i fun o => { o with place := place }) i)) ∧
      (∀ place, o.freeing = false → o.closing = false → o.rw = true → 1 < place % 4 → place < 64 →
        Runs (.objPlace h handle place) s (answer h.port h.tag (Ans.err stREFUSED mrREFUSED_KIND)
          (entered h (.objPlace h handle place) s))) ∧
      (∀ pos, pos ≤ 8 →
        Runs (.objPromote h handle pos) s (evalMig (replied h (.objPromote h handle pos) s 0 id)
          (newMig i pos false (some (h.port, h.tag)))) ∧
        Runs (.objEvict h handle pos) s (evalMig (replied h (.objEvict h handle pos) s 0 id)
          (newMig i pos true (some (h.port, h.tag)))))) ∧
    (Accepted h { anyone := true } s → Runs (.objQuery h handle) s
      (answer h.port h.tag { small := objEntry i o } (entered h (.objQuery h handle) s)))) ∧
  (∀ (s : State) (r : MigReq) (o : Obj), objAt s r.idx = some o → o.gone = none → r.space = false →
    (r.evict = true → o.homePos r.pos = true → evalMig s r = finishMig s r mrREFUSED_HOME) ∧
    (r.evict = true → o.homePos r.pos = false →
      (busyState o r ≠ 0 → evalMig s r = waitMig s r (busyState o r == 2)) ∧
      (busyState o r = 0 → (o.holds r.pos = false → evalMig s r = finishMig s r mrALREADY) ∧
        (o.holds r.pos = true → o.pins ≠ 0 ∨ o.protects r.pos = true → evalMig s r = finishMig s r mrREFUSED_PINNED) ∧
        (o.holds r.pos = true → o.pins = 0 → o.protects r.pos = false → evalMig s r = startEvict s r))) ∧
    (r.evict = false → busyState o r = 0 → (o.holds r.pos = true → evalMig s r = finishMig s r mrALREADY) ∧
      (o.holds r.pos = false → o.rw = false → evalMig s r = startPromo s r o))) ∧
  ∀ (s : State) (i : Nat) (o : Obj), objAt s i = some o →
    (o.freeing = true → o.pins = 0 →
      Runs (.objectRelease i) s (retryLoads (releaseObject (cancelMigs s i mrCANCELLED_FREED true) i))) ∧
    (o.freeing = false ∨ o.pins ≠ 0 → Runs (.objectRelease i) s s) ∧
    objAt (releaseObject s i) i = none ∧ (∀ j, j ≠ i → objAt (releaseObject s i) j = objAt s j) ∧
    (∀ a, mbyte (releaseObject s i).main a =
      if o.devBase ≤ a ∧ a < o.devBase + o.mainBytes then 0 else mbyte s.main a) ∧
    ∀ c a, c < 8 → mbyte ((releaseObject s i).nearOf c) a =
      match o.ns.getD c none with
      | some off => if off ≤ a ∧ a < off + o.nearBytes then 0 else mbyte (s.nearOf c) a
      | none => mbyte (s.nearOf c) a

/-- R255-R259, R272, R273: a promotion that completes puts the object's bytes at its position, an eviction drops or spills
the copy, a pin is granted; a move starts on an engine and its completion puts the bytes in place. -/
def Obligations.MigrationsAndMovesComplete : Prop :=
  (∀ (s : State) (i pos : Nat) (r : MigReq) (o : Obj), computeOn s = true → activePromo s i pos = some r →
    objAt s i = some o →
    (∀ res, o.gone = some res → Runs (.promotionComplete i pos) s (failPromo s r res)) ∧
    (o.gone = none → r.src < 2 → r.pages = [] → ∀ m a, sourceCopy s r o = some (m, a) →
      Runs (.promotionComplete i pos) s (donePromo (countMig s r o.size o.size) r o m a)) ∧
    (o.gone = none → r.src = 2 → (∀ e ∈ s.cave.peerWait, e.1 ≠ i) → caveReadable s o = true →
      (∀ p ∈ r.pages, ladderStep (fencedPages s r.pages) p ≠ 0 →
        Runs (.promotionComplete i pos) s (fencedPages s r.pages)) ∧
      (r.pages = [] → sourceCopy s r o = none → o.home = 1 → ∀ x, caveObject s r.idx o = some x → x.bad = none →
        Runs (.promotionComplete i pos) s (donePromo (countMig s r (caveBytes s o) o.size) r o x.mem 0))) ∧
    (o.gone = none → r.src = 3 → (∀ f ∈ s.obj.fetches, hIdx f.handle = i → f.pos ≠ some pos) →
      let u := countMig s r 0 o.size
      Runs (.promotionComplete i pos) s (if pos = 0 then donePromo u r o u.main o.devBase
        else donePromo u r o (u.nearOf (pos - 1)) (o.nearOff (pos - 1))))) ∧
  (∀ (s : State) (o : Obj) (src : Memory) (a : Nat),
    mread (fillPos s o 0 src a).main o.devBase o.size = mread src a o.size ∧
    ∀ c, c < s.near.length → mread ((fillPos s o (c + 1) src a).nearOf c) (o.nearOff c) o.size = mread src a o.size) ∧
  (∀ (s : State) (i pos : Nat) (r : MigReq) (o : Obj), computeOn s = true →
    s.obj.mig.find? (fun r => r.idx == i && r.pos == pos && r.active && r.evict) = some r → objAt s i = some o →
    (pos = 0 → Runs (.evictionComplete i pos) s (kickMig (finishMig (dropMig
      (modObj s i fun o => { o.setPos 0 0 with res := false }) r) r mrDONE) i)) ∧
    (pos ≠ 0 → o.inNear (pos - 1) = true → o.rw = false → Runs (.evictionComplete i pos) s
      (kickMig (finishMig (dropMig (dropNear s i (pos - 1)) r) r mrDONE) i)) ∧
    (pos ≠ 0 → o.inNear (pos - 1) = true → o.rw = true → ∃ t,
      Runs (.evictionComplete i pos) s (kickMig (finishMig (dropMig (dropNear t i (pos - 1)) r) r mrDONE) i) ∧
      t.obj.spills = satAdd32 s.obj.spills 1 ∧ t.obj.tab = s.obj.tab ∧
      mread t.main o.devBase o.size = mread (s.nearOf (pos - 1)) (o.nearOff (pos - 1)) o.size)) ∧
  (∀ (s : State) (i : Nat),
    (∀ k, pinWaiters s i = [.task k] → Runs (.pinGrant i) s
      (placeRequest (pin s (pinnedIdxs s k)) k (((runOf s k).map (·.cluster)).getD 0))) ∧
    (∀ id m, pinWaiters s i = [.move id] → s.obj.moves.find? (fun m => m.id == id) = some m →
      ∃ t, Runs (.pinGrant i) s t ∧ (∀ x ∈ t.obj.moves, x.id = id → x.pinWait = false) ∧
        t.obj.tab = (pin s (moveObjs s m.req)).obj.tab)) ∧
  (∀ (s : State) (id e : Nat) (m : Move), computeOn s = true → moveAt s id = some m →
    (∀ f ∈ s.obj.fetches, f.move ≠ some id) →
    (m.engine = none → m.pinWait = false → engineOK s m e = true →
      (∀ res, moveGone s m = some res → Runs (.moveStart id e) s (settle (moveFailed s m (.mig res)) m.ref.g)) ∧
      (moveGone s m = none → isRemote m.req.dstH = false →
        (m.req.srcH = 0 ∨ isView m.req.srcH = true ∨ objOf s m.req.srcH = none ∨
          ∃ i o, objOf s m.req.srcH = some (i, o) ∧ (copyOf s o).isSome = true) →
        Runs (.moveStart id e) s (startMove s m e) ∧ ∀ x ∈ (startMove s m e).obj.moves, x.id = id → x.engine = some e)) ∧
    (m.engine.isSome = true → m.remote = false →
      (m.req.srcH = 0 ∨ isView m.req.srcH = true ∨ objOf s m.req.srcH = none ∨
        ∃ i o, objOf s m.req.srcH = some (i, o) ∧ (copyOf s o).isSome = true) →
      Runs (.moveComplete id) s ((moveObjs s m.req).foldl kickMig (transfer s m)))) ∧
  ∀ (s : State) (m : Move), m.req.srcH = 0 → m.req.dstH = 0 → m.req.xf = 0 → m.cluster.getD 0 < s.near.length →
    ∃ u, transfer s m = moveDone u m ∧ u.obj = s.obj ∧ u.main = s.main ∧
      mread (u.nearOf (m.cluster.getD 0)) m.req.dstOff m.req.len =
        mread (s.nearOf (m.cluster.getD 0)) m.req.srcOff m.req.len ∧
      ∀ a, ¬(m.req.dstOff ≤ a ∧ a < m.req.dstOff + m.req.len) →
        mbyte (u.nearOf (m.cluster.getD 0)) a = mbyte (s.nearOf (m.cluster.getD 0)) a

/-- R275-R278: a fetch is posted on the lowest free stream with the next identifier in rotation; an answer of the right
form fills its position, any other fails its attempt; a failed first attempt posts FETCH_CANCEL, holds the stream and
is needed again. An event without its occasion changes nothing: the model's choice, notes/assumptions/1.md. -/
def Obligations.FetchesAreAskedTwice : Prop :=
  (∀ (s : State) (id : Nat) (f : Fetch), serviceOn s = true → s.obj.fetches.find? (fun f => f.id == id) = some f → f.fid = none →
    (canFetch s = false → Runs (.fetchPost id) s (failFetch s f)) ∧
    ∀ st, canFetch s = true → 1 ≤ st → st ≤ 32 → streamFree s st = true → (∀ j, 1 ≤ j → j < st → streamFree s j = false) →
      ∃ t n, Runs (.fetchPost id) s (pushRec .usb (mkRec tyFETCH 0 0 (fetchPayload f n st)) t) ∧ n = nextFetchId s ∧
        t.obj.nextFid = (n + 1) % 1024 ∧ (∀ x ∈ t.obj.fetches, x.id = id → x.fid = some n ∧ x.stream = st) ∧
        t.host = s.host ∧ t.obj.tab = s.obj.tab) ∧
  (∀ (s : State) (stream : Nat) (bytes : Bytes),
    (s.obj.holds.contains stream = true ∨ (∀ f ∈ s.obj.fetches, f.fid.isSome = true → f.stream ≠ stream) →
      Runs (.fetchAnswer stream bytes) s s) ∧
    ∀ f o, s.obj.holds.contains stream = false →
      s.obj.fetches.find? (fun f => f.fid.isSome && f.stream == stream) = some f → objAt s (hIdx f.handle) = some o →
      (f.form = 0 → bytes.length ≠ f.count → Runs (.fetchAnswer stream bytes) s (failAttempt s f)) ∧
      (f.form = 0 → bytes.length = f.count → f.pos = some 0 → ∃ t, Runs (.fetchAnswer stream bytes) s t ∧
        t.main = mwrite s.main (o.devBase + f.start) bytes ∧ (∀ x ∈ t.obj.fetches, x.id ≠ f.id) ∧ t.near = s.near ∧
        t.obj.tab = s.obj.tab) ∧
      (f.form = 0 → bytes.length = f.count → ∀ c, f.pos = some (c + 1) → ∃ t, Runs (.fetchAnswer stream bytes) s t ∧
        t.near = s.near.modify c (fun m => mwrite m (o.nearOff c + f.start) bytes) ∧ t.main = s.main ∧
        t.obj.tab = s.obj.tab) ∧
      (f.form ≠ 0 → (answerWheels s f o bytes).isSome = true → ∀ pos, f.pos = some pos →
        Runs (.fetchAnswer stream bytes) s (fillFetch s f (hIdx f.handle) o pos bytes))) ∧
  (∀ (s : State) (fid : Nat) (f : Fetch), s.obj.fetches.find? (fun f => f.fid == some fid) = some f →
    Runs (.objFetchTmoExpiry fid) s (failAttempt s f) ∧
    (∀ h, Accepted h { anyone := true } s → h.port = .usb → fid ≤ 1023 →
      Runs (.fetchNack h fid) s (replied h (.fetchNack h fid) s 0 fun u => failAttempt u f)) ∧
    (2 ≤ f.attempt → failAttempt s f = failFetch s f) ∧
    (f.attempt = 1 → (failAttempt s f).obj.holds = s.obj.holds ++ [f.stream] ∧
      (∀ x ∈ (failAttempt s f).obj.fetches, x.id = f.id → x.fid = none ∧ x.attempt = 2) ∧
      (failAttempt s f).host = (pushRec .usb (mkRec tyFETCH_CANCEL 0 0 (leBytes 2 (f.fid.getD 0))) s).host)) ∧
  (∀ (h : Hdr) (s : State) (fid : Nat), Accepted h { anyone := true } s →
    (h.port ≠ .usb → Runs (.fetchNack h fid) s (answer h.port h.tag (Ans.err stPORT) (entered h (.fetchNack h fid) s))) ∧
    (h.port = .usb → fid ≤ 1023 → (∀ f ∈ s.obj.fetches, f.fid ≠ some fid) →
      Runs (.fetchNack h fid) s (replied h (.fetchNack h fid) s 0 id))) ∧
  ∀ (s : State) (stream : Nat), ∃ t, Runs (.fetchCancelHoldEnd stream) s t ∧ t.obj.holds = s.obj.holds.filter (· != stream) ∧
    t = { s with obj := { s.obj with holds := t.obj.holds } }

/-- R284-R297, R305, R309, R316: the regions of the cave from CAVE_OPEN to their erase, the slices that writing needs, the
blocks that fail, and the scan of a device in the TEST mode. -/
def Obligations.CaveRegionsAreOpenedAndErased : Prop :=
  (∀ (h : Hdr) (s : State), Accepted h {} s →
    (∀ coll sets, let c := Instr.caveOpen h coll sets
      let ends (a : Ans) := Runs c s (answer h.port h.tag a (entered h c s))
      (s.cave.mode = 4 → ends (Ans.err stMODE)) ∧
      (s.cave.mode ≠ 4 → s.cave.mounted = false ∨ s.keyed coll = false → ends (Ans.err stSTATE)) ∧
      (s.cave.mode ≠ 4 → s.cave.mounted = true → s.keyed coll = true →
        (caveFenced s = true → ends (Ans.err stFENCED)) ∧
        (caveFenced s = false → (freeSets s).length < sets → ends (Ans.err stNO_SPACE)) ∧
        (caveFenced s = false → sets ≤ (freeSets s).length → (∃ i, i < 1023 ∧ tget s.cave.regions (i + 1) = none) →
          ∃ t n r, Runs c s (answer h.port h.tag (Ans.ok n) t) ∧ 1 ≤ n ∧ n < 1024 ∧ tget s.cave.regions n = none ∧
            tget t.cave.regions n = some r ∧ (∀ m, m ≠ n → tget t.cave.regions m = tget s.cave.regions m) ∧ r.state = 1 ∧
            r.coll = coll ∧ r.sets.length = sets ∧ r.sets.Nodup ∧ (∀ x ∈ r.sets, x ∈ freeSets s) ∧ r.data = [] ∧
            t.obj = s.obj ∧ t.cave.spares = s.cave.spares))) ∧
    (∀ n r, tget s.cave.regions n = some r →
      (s.cave.mode ≠ 4 → r.state = 1 → ∃ t, Runs (.caveSeal h n) s (answer h.port h.tag (Ans.ok n) t) ∧
        tget t.cave.regions n = some { r with
          state := 2, sealSeq := s.cave.sealSeq
          data := mwrite (mwrite r.data (dirOffset r) (dirBytes r)) 0 (headerBytes n r s.cave.sealSeq) } ∧
        t.cave.sealSeq = (s.cave.sealSeq + 1) % 2 ^ 32 ∧ t.obj = s.obj) ∧
      (s.cave.mode = 4 → Runs (.caveRelease h n) s (answer h.port h.tag (Ans.err stMODE) (entered h (.caveRelease h n) s))) ∧
      (s.cave.mode ≠ 4 → r.state = 1 → r.noSpare = false → Runs (.caveRelease h n) s
        (answer h.port h.tag (Ans.err stSTATE) (entered h (.caveRelease h n) s))) ∧
      (s.cave.mode ≠ 4 → r.state = 2 ∨ r.state = 4 ∨ r.state = 1 ∧ r.noSpare = true →
        ((s.obj.tab.any fun e => e.2.home == 1 && e.2.homeref == n) = true → Runs (.caveRelease h n) s
          (answer h.port h.tag (Ans.err stIN_USE) (entered h (.caveRelease h n) s))) ∧
        ((s.obj.tab.any fun e => e.2.home == 1 && e.2.homeref == n) = false → ∃ t,
          Runs (.caveRelease h n) s (answer h.port h.tag (Ans.ok n) t) ∧
          tget t.cave.regions n = some { r with state := 3 } ∧ (∀ b ∈ t.cave.relocQ, b.1 ∉ r.sets) ∧
          (∀ x ∈ t.cave.relocating, x.set ∉ r.sets) ∧ (∀ x ∈ t.cave.copied, x.set ∉ r.sets)))) ∧
    (∀ dur excl, (dur < 10 ∨ 10000 < dur ∨ 1 < excl → Runs (.caveSlice h dur excl) s
        (answer h.port h.tag (Ans.err stPARAM) (entered h (.caveSlice h dur excl) s))) ∧
      (10 ≤ dur → dur ≤ 10000 → excl ≤ 1 → s.cave.mode ≠ 4 → s.cave.mounted = true → Runs (.caveSlice h dur excl) s
        (replied h (.caveSlice h dur excl) s 0 fun u => grantSlice u (excl == 1) dur))) ∧
    (s.testMode = false → ∀ m, m ≤ 1 →
      Runs (.caveScan h m) s (answer h.port h.tag (Ans.err stMODE) (entered h (.caveScan h m) s))) ∧
    (s.testMode = true → ∃ t, Runs (.caveScan h 0) s (answer h.port h.tag (Ans.ok 0) t) ∧
      ∀ blk ch, blk < s.part.blocks → ch < 32 → blk ∉ s.cave.retired.getD ch [] →
        tgetD t.cave.reads (keyOf blk ch) t.cave.readBase =
          (tgetD s.cave.reads (keyOf blk ch) s.cave.readBase + blockPages blk) % 2 ^ 32) ∧
    (s.testMode = true → s.sec.lifecycle = 0 → ∃ t, Runs (.caveScan h 1) s (answer h.port h.tag (Ans.ok 0) t) ∧
      t.cave.regions = [] ∧ (∀ b, blockReads t.cave b = 0) ∧ t.pwr.keepSeq = 0 ∧
      ∀ blk ch, blk < s.part.blocks → ch < 32 → blk ∉ s.cave.retired.getD ch [] →
        nget t.cave.erases (keyOf blk ch) = nget s.cave.erases (keyOf blk ch) + 1)) ∧
  (∀ (h : Hdr) (s : State) (d : Bytes) (region entry count : Nat), AcceptedData h {} s d →
    let c := Instr.caveWrite h region entry count
    let u := enteredData h c s
    (s.cave.mode ≠ 4 → s.cave.slice = none →
      Runs c s (reply h.port h.tag h.stream (Ans.err stNO_SLICE) (countCommand h.port s))) ∧
    ∀ r, s.cave.mode ≠ 4 → s.cave.slice.isSome = true → tget s.cave.regions region = some r → r.state = 1 →
      entry = r.dir.length ∨ entry + 1 = r.dir.length →
      let x := writeWheels u count (if entry = r.dir.length then { r with dir := r.dir ++ [(r.wheels.length, 0, 0)] } else r) d
      Runs c s (answer h.port h.tag (Ans.err x.1 x.2.1) (modRegion u region fun _ => x.2.2))) ∧
  (∀ (s : State) (n : Nat) (r : Region), tget s.cave.regions n = some r → r.state = 3 → s.cave.slice.isSome = true →
    (r.places.map (blockKey s.cave)).Nodup → s.cave.journal.length < 4096 →
    ∃ t, Runs (.eraseComplete n) s t ∧ t = { s with cave := t.cave } ∧ tget t.cave.regions n = none ∧
      (∀ m, m ≠ n → tget t.cave.regions m = tget s.cave.regions m) ∧
      ∀ b ∈ r.places, tgetD t.cave.reads (blockKey s.cave b) t.cave.readBase = 0 ∧
        nget t.cave.erases (blockKey s.cave b) = nget s.cave.erases (blockKey s.cave b) + 1) ∧
  ∀ (s : State) (set ch : Nat), ch < 32 → set < s.part.regionBlocks → s.cave.mounted = true →
    s.cave.dead.contains (set, ch) = false → (∀ x ∈ s.cave.relocating, (x.set, x.ch) ≠ (set, ch)) →
    (∀ e, regionOfSet s set = some e → e.2.state = 1) → s.cave.retired.length = 32 →
    (s.cave.spares.getD ch [] ≠ [] → ∃ t blk, Runs (.caveProgramFail set ch) s t ∧ blk ∈ s.cave.spares.getD ch [] ∧
      t.cave.retired.getD ch [] = s.cave.retired.getD ch [] ++ [s.cave.blockAt (set, ch)] ∧
      t.cave.blockAt (set, ch) = blk ∧ blockReads t.cave (set, ch) = 0 ∧
      t.cave.spares.getD ch [] = (s.cave.spares.getD ch []).filter (· != blk) ∧
      (∀ c, c ≠ ch → t.cave.spares.getD c [] = s.cave.spares.getD c []) ∧
      (4 ≤ (t.cave.spares.getD ch []).length → t.host = s.host)) ∧
    (s.cave.spares.getD ch [] = [] → ∀ e, regionOfSet s set = some e → ∃ t q, Runs (.caveProgramFail set ch) s t ∧
      (set, ch) ∈ t.cave.dead ∧ tget t.cave.regions e.1 = some q ∧ q.noSpare = true)

/-- R298-R313: every page read is counted; a failing page goes through the retry and the rebuild of the ladder, then the
repair cache or the declaration of damage; relocation, the flip of the map, the end of a slice and the checkpoint of
the read counters. An event without its occasion changes nothing: the model's choice, notes/assumptions/1.md. -/
def Obligations.CaveReadsAreCountedAndRepaired : Prop :=
  (∀ (s : State) (b : Block) (n : Nat), blockReads (countReads s b n).cave b = (blockReads s.cave b + n) % 2 ^ 32 ∧
    (countReads s b n).cave.nReads = satAdd64 s.cave.nReads n ∧ (countReads s b n).obj = s.obj ∧
    ∀ a, blockKey s.cave a ≠ blockKey s.cave b → blockReads (countReads s b n).cave a = blockReads s.cave a) ∧
  (∀ (s : State) (set stripe ch : Nat), s.cave.mounted = true → stripe < 1024 → ch < 32 →
    let p := (set, stripe, ch)
    (readable_ s p = false ∨ s.cave.bad.contains p = true → ∀ ok, Runs (.cavePageRead set stripe ch ok) s s) ∧
    (readable_ s p = true → s.cave.bad.contains p = false →
      (∀ ok, repaired s p = true → Runs (.cavePageRead set stripe ch ok) s (servePage s p)) ∧
      (repaired s p = false →
        (∀ ok, s.isFenced siteCAVE ch = true → Runs (.cavePageRead set stripe ch ok) s (setLadder s p 2)) ∧
        (s.isFenced siteCAVE ch = false →
          Runs (.cavePageRead set stripe ch true) s (servePage (countReads s (set, ch) 1) p) ∧
          ∃ t, Runs (.cavePageRead set stripe ch false) s t ∧
            ladderStep t p = 1 ∧ t.cave.retries = satAdd32 (countReads s (set, ch) 1).cave.retries 1 ∧
            t.cave.reads = (countReads s (set, ch) 1).cave.reads)))) ∧
  (∀ (s : State) (set stripe ch : Nat), let p := (set, stripe, ch)
    (ladderStep s p = 1 → (∃ n, 1 ≤ n ∧ n ≤ 7 ∧
        Runs (.readRetry set stripe ch true) s (servePage (setLadder (countReads (advance s) (set, ch) n) p 0) p)) ∧
      Runs (.readRetry set stripe ch false) s (setLadder (countReads s (set, ch) 7) p 2)) ∧
    (ladderStep s p = 2 →
      let u := (otherPages p).foldl readOther (setLadder s p 0)
      Runs (.caveRebuild set stripe ch false) s (servePage (declareDamage u p) p) ∧
      (stripeLost s p = true → Runs (.caveRebuild set stripe ch true) s (servePage (declareDamage u p) p)) ∧
      (stripeLost s p = false → Runs (.caveRebuild set stripe ch true) s (pageRebuilt u p))) ∧
    (repaired s p = true ∨ s.cave.bad.contains p = true ∨ s.isFenced siteCAVE ch = true → readOther s p = s) ∧
    (repaired s p = false → s.cave.bad.contains p = false → s.isFenced siteCAVE ch = false →
      ∃ k, 1 ≤ k ∧ k ≤ 8 ∧ blockReads (readOther s p).cave (set, ch) = (blockReads s.cave (set, ch) + k) % 2 ^ 32) ∧
    (∃ bs, (pageRebuilt s p).cave.repair = if s.cave.repair.length < 1024 then s.cave.repair ++ [(p, bs)] else s.cave.repair) ∧
    (∀ r ∈ (servePage s p).obj.mig, p ∉ r.pages) ∧
    ladderStep (setLadder s p 0) p = 0 ∧ ladderStep (setLadder s p 1) p = 1 ∧ ladderStep (setLadder s p 2) p = 2) ∧
  (∀ (s : State) (i : Nat), (s.cave.peerWait.any fun e => e.1 == i) = true → Runs (.peerCopyTimeout i) s (askOrFail s i)) ∧
  (∀ c : Cave, c.checkpoint.ckpt = c.reads ∧ c.checkpoint.ckptBase = c.readBase ∧ c.checkpoint.journal = [] ∧
    c.checkpoint.reads = c.reads ∧ c.checkpoint.regions = c.regions) ∧
  ∀ s : State,
    (s.cave.slice.isSome = true →
      Runs .sliceEnd s (takeAuto { s with cave := { s.cave.checkpoint with slice := none, mode := 2 } })) ∧
    (s.cave.mounted = true → Runs .readCounterCheckpoint s { s with cave := s.cave.checkpoint }) ∧
    ∀ set ch,
      (∀ r, s.cave.slice.isSome = true → s.cave.relocating.find? (fun r => (r.set, r.ch) == (set, ch)) = some r →
        (∀ e ∈ s.cave.ladder, ¬(e.1.1 = set ∧ e.1.2.2 = ch)) → Runs (.relocationDone set ch) s
        (countReads { s with cave := { s.cave with
          relocating := s.cave.relocating.filter (· != r), copied := s.cave.copied ++ [r] } } (set, ch)
          (1024 - r.read.length - cachedPages s.cave r))) ∧
      (∀ r, s.cave.copied.find? (fun r => (r.set, r.ch) == (set, ch)) = some r → s.acc.steps = [] →
        readsOutstanding s (set, ch) = false → s.cave.slice = none → ch < s.cave.spares.length → s.cave.journal.length < 4096 →
        let old := s.cave.blockAt (set, ch)
        ∃ t, Runs (.mapFlip set ch) s t ∧ t = { s with cave := t.cave } ∧
          r ∉ t.cave.copied ∧ t.cave.blockAt (set, ch) = r.blk ∧ blockReads t.cave (set, ch) = 0 ∧
          t.cave.relocs = satAdd32 s.cave.relocs 1 ∧ t.cave.spares.getD ch [] = s.cave.spares.getD ch [] ++ [old] ∧
          (∀ e ∈ t.cave.repair, ¬(e.1.1 = set ∧ e.1.2.2 = ch)) ∧
          nget t.cave.erases (keyOf old ch) = nget s.cave.erases (keyOf old ch) + 1) ∧
      (s.acc.steps ≠ [] → Runs (.mapFlip set ch) s s)

/-- R332-R335: a table is written into a FREE slot, which is then CURRENT; a replaced or dropped table retires in the same
instant; with no slot FREE the command waits for a retiring one, or ends NO_SLOT. -/
def Obligations.TablesAreReplacedInOneInstant : Prop :=
  (∀ (h : Hdr) (s : State) (d : Bytes) (old : Option Nat), AcceptedData h { dlen := 528 } s d → s.cmp.slots.length = 8 →
    let c := match old with | none => Instr.tableLoad h | some n => Instr.tableReplace h n
    let u := enteredData h c s
    (∀ st, tableStatus s old d = some st → Runs c s (answer h.port h.tag (Ans.err st) u)) ∧
    (tableStatus s old d = none →
      (slotsIn s 0 ≠ [] → ∃ t n, Runs c s (answer h.port h.tag (Ans.ok n) t) ∧ slotState s n = 0 ∧ n < 8 ∧
        t.cmp.slots[n]? = some { state := 2, version := bnum d 4 2, freq := tableFreq d } ∧
        (∀ o, old = some o → slotState s o = 2 ∧ slotState t o = 3) ∧
        (∀ m, m ≠ n → old ≠ some m → t.cmp.slots[m]? = s.cmp.slots[m]?) ∧ t.obj = s.obj) ∧
      (slotsIn s 0 = [] → slotsIn s 3 = [] → Runs c s (answer h.port h.tag (Ans.err stNO_SLOT) u)) ∧
      (slotsIn s 0 = [] → slotsIn s 3 ≠ [] → ∃ t, Runs c s (sendEvent evTABLE_WAIT ((slotsIn s 3).flatMap le4) t) ∧
        t = { u with cmp := { u.cmp with
          waiting := s.cmp.waiting ++ [(h.port, h.tag, old, d)], waits := satAdd32 s.cmp.waits 1 } }))) ∧
  (∀ (h : Hdr) (s : State) (n : Nat), Accepted h {} s →
    (slotState s n ≠ 2 → Runs (.tableDrop h n) s (answer h.port h.tag (Ans.err stSTATE) (entered h (.tableDrop h n) s))) ∧
    (slotState s n = 2 → ∃ t, Runs (.tableDrop h n) s (answer h.port h.tag (Ans.ok 0) t) ∧ slotState t n = 3 ∧
      ∀ m, m ≠ n → t.cmp.slots[m]? = s.cmp.slots[m]?)) ∧
  ∀ (s : State) (n : Nat) (x : Slot), s.cmp.slots[n]? = some x → x.state = 3 → slotRefs s n = 0 → s.pkg.phase = .ready →
    (s.cmp.waiting = [] → ∃ t, Runs (.tableSlotFree n) s t ∧ slotState t n = 0 ∧ t = { s with cmp := t.cmp } ∧
      ∀ m, m ≠ n → t.cmp.slots[m]? = s.cmp.slots[m]?) ∧
    ∀ p tag old d, s.cmp.waiting = [(p, tag, old, d)] → s.cmp.slots.length = 8 → slotsIn s 0 = [] →
      let u := { s with cmp := { s.cmp with slots := s.cmp.slots.set n Slot.reset } }
      tableStatus u old d = none → ∃ t, Runs (.tableSlotFree n) s (answer p tag { status := stWAITED, value := n } t) ∧
        slotState t n = 2 ∧ t.cmp.waiting = [] ∧ ∀ o, old = some o → slotState t o = 3

/-- R382, R383, R385, R396, R643: a service record and a stop set that pass their checks take effect; an accepted
ACC_SUBMIT takes a FREE entry with its prompt, and the entry is QUEUED once the prompt is written. An event without
its occasion changes nothing: the model's choice, notes/assumptions/1.md. -/
def Obligations.ServicesAndSubmissions : Prop :=
  (∀ (h : Hdr) (s : State) (d : Bytes) (svc : Nat), AcceptedData h { dlen := 64 } s d → svc ≤ 15 →
    let c := Instr.accService h svc
    let u := enteredData h c s
    let v := svcOf d 0
    ((s.acc.tab.any fun e => e.2.service == svc && (e.2.live || e.2.arriving != 0)) = true →
      Runs c s (answer h.port h.tag (Ans.err stBUSY) u)) ∧
    ((s.acc.tab.any fun e => e.2.service == svc && (e.2.live || e.2.arriving != 0)) = false →
      (v.valid = true → svcOK u v = false → Runs c s (answer h.port h.tag (Ans.err stPARAM) u)) ∧
      ((v.valid = true → svcOK u v = true) → ∃ t, Runs c s (answer h.port h.tag (Ans.ok 0) t) ∧
        t = { u with acc := t.acc, wgt := { u.wgt with gens := u.wgt.gens.set svc 1 } } ∧
        t.acc = { s.acc with svcs := t.acc.svcs } ∧
        tget t.acc.svcs svc = some { v with coll := ((graphOf s v.dgraph).map (·.coll)).getD 0 } ∧
        ∀ i, i ≠ svc → tget t.acc.svcs i = tget s.acc.svcs i))) ∧
  (∀ (h : Hdr) (s : State) (d : Bytes) (set : Nat), AcceptedData h { dlen := 320 } s d → set ≤ 254 →
    let c := Instr.accStopset h set
    let u := enteredData h c s
    (s.acc.tab.any fun e => e.2.stopset == set && (e.2.live || e.2.arriving != 0)) = false →
      (stopsetOK d = false → Runs c s (answer h.port h.tag (Ans.err stPARAM) u)) ∧
      (stopsetOK d = true → ∃ t, Runs c s (answer h.port h.tag (Ans.ok 0) t) ∧ t = { u with acc := t.acc } ∧
        tget t.acc.stops set = some (stopsetOf d) ∧ ∀ i, i ≠ set → tget t.acc.stops i = tget s.acc.stops i)) ∧
  (∀ (h : Hdr) (p : SubmitP) (s : State) (d : Bytes), AcceptedData h { dlen := 8 } s d →
    let c := Instr.accSubmit h p
    (∀ st, submitStatus h p s = some st → Runs c s (reply h.port h.tag h.stream (Ans.err st) (countCommand h.port s))) ∧
    ∀ v o, submitStatus h p s = none → arrivingAt h s = none → tget s.acc.svcs p.service = some v →
      svcObj s v.coll p.prompt = some o → 4 * p.n ≤ o.size → (∀ j, j < p.n → bnum d (8 + 4 * j) 4 < v.vocab) →
      ∃ t i x, Runs c s (answer h.port h.tag (Ans.ok i) t) ∧ i < 4096 ∧ accAt s i = none ∧ accAt t i = some x ∧
        (∀ j, j ≠ i → accAt t j = accAt s j) ∧ x.state = asFREE ∧ x.arriving = 2 ∧ x.seed = bnum d 0 8 ∧ x.coll = v.coll ∧
        x.tag = h.tag ∧ x.port = h.port ∧ x.promptN = p.n ∧ x.deadline = p.deadline ∧ x.band = p.policy % 4 ∧
        x.maxnew = p.maxnew ∧ x.service = p.service ∧ t.acc.submitted = satAdd64 s.acc.submitted 1 ∧
        t.main = (objWrite s (hIdx p.prompt) 0 (((List.range p.n).map fun j => bnum d (8 + 4 * j) 4).flatMap le4)).main ∧
        t.near = (objWrite s (hIdx p.prompt) 0 (((List.range p.n).map fun j => bnum d (8 + 4 * j) 4).flatMap le4)).near) ∧
  ∀ (s : State) (a : Nat) (x : Acc), accAt s a = some x →
    (x.arriving = 2 → ∃ t, Runs (.promptWritten a) s t ∧ accAt t a = some { x with arriving := 0, state := asQUEUED } ∧
      (∀ j, j ≠ a → accAt t j = accAt s j) ∧ t = { s with acc := t.acc }) ∧
    (x.arriving ≠ 2 → Runs (.promptWritten a) s s)

/-- R386, R387, R399, R403, R404, R527: cancel, suspend and resume one accession, hold and resume all of them; an entry
whose final record has left is FREE again. An event without its occasion changes nothing: the model's choice,
notes/assumptions/1.md. -/
def Obligations.AccessionsAreControlled : Prop :=
  (∀ (h : Hdr) (s : State) (a : Nat), Accepted h {} s →
    (accAt s a = none → (∀ tag, Runs (.accCancel h a tag) s
        (answer h.port h.tag (Ans.err stNO_ACCESSION) (entered h (.accCancel h a tag) s))) ∧
      Runs (.accSuspend h a) s (answer h.port h.tag (Ans.err stNO_ACCESSION) (entered h (.accSuspend h a) s)) ∧
      Runs (.accResume h a) s (answer h.port h.tag (Ans.err stNO_ACCESSION) (entered h (.accResume h a) s))) ∧
    ∀ x, accAt s a = some x → x.state ≠ asFREE →
      (∀ tag, x.tag ≠ tag → Runs (.accCancel h a tag) s
        (answer h.port h.tag (Ans.err stNO_ACCESSION) (entered h (.accCancel h a tag) s))) ∧
      (x.state = asDONE → ∃ t, Runs (.accCancel h a x.tag) s (answer h.port h.tag (Ans.err stTOO_LATE) t) ∧
        t.acc.tooLate = satAdd32 s.acc.tooLate 1 ∧ accAt t a = some x) ∧
      (x.state ≠ asDONE → s.acc.steps ≠ [] → ∃ t, Runs (.accCancel h a x.tag) s t ∧
        accAt t a = some { x with cancel := x.cancel ++ [(h.port, h.tag)] } ∧ ∀ j, j ≠ a → accAt t j = accAt s j) ∧
      (x.state ≠ asDONE → s.acc.steps = [] → Runs (.accCancel h a x.tag) s
        (cancelPoint (modAcc (entered h (.accCancel h a x.tag) s) a fun x => { x with cancel := x.cancel ++ [(h.port, h.tag)] }))) ∧
      (x.live = true → x.instep = true → Runs (.accSuspend h a) s
        (replied h (.accSuspend h a) s 0 fun u => modAcc u a fun x => { x with susp := true })) ∧
      (x.instep = false → x.state = asQUEUED ∨ x.state = asDECODE ∨ x.state = asPAGE_WAIT → Runs (.accSuspend h a) s
        (replied h (.accSuspend h a) s 0 fun u => modAcc u a Acc.suspend) ∧
        x.suspend = { x with prev := x.state, state := asSUSPENDED, susp := false }) ∧
      (x.state = asSUSPENDED → Runs (.accResume h a) s
        (replied h (.accResume h a) s 0 fun u => modAcc u a fun x => { x with state := x.prev })) ∧
      (x.state ≠ asSUSPENDED → Runs (.accResume h a) s
        (answer h.port h.tag (Ans.err stSTATE) (entered h (.accResume h a) s)))) ∧
  (∀ (h : Hdr) (s : State), Accepted h {} s →
    (∃ t, Runs (.accHoldAll h) s (answer h.port h.tag (Ans.ok 0) t) ∧ t.acc.holdAll = true ∧
      t = { entered h (.accHoldAll h) s with acc := t.acc } ∧
      ∀ a x, accAt s a = some x → ∃ y, accAt t a = some y ∧ (x.live = true → y.state = asHELD) ∧ (x.live = false → y = x) ∧
        (x.live = true → x.state ≠ asHELD → y.prev = x.state)) ∧
    (s.pwr.coolStop = true → s.pwr.coolBack = false → Runs (.accResumeAll h) s
      (answer h.port h.tag (Ans.err stSTATE) (entered h (.accResumeAll h) s))) ∧
    ((s.pwr.coolStop = true → s.pwr.coolBack = true) → ∃ t, Runs (.accResumeAll h) s (answer h.port h.tag (Ans.ok 0) t) ∧
      t.pwr.coolStop = false ∧ t.pwr.coolBack = false ∧ 1 ∉ t.pkg.alert ∧ t.acc.holdAll = false ∧
      ∀ a x, accAt s a = some x → ∃ y, accAt t a = some y ∧ (x.state = asHELD → y.state = x.prev) ∧
        (x.state ≠ asHELD → y = x))) ∧
  ∀ (s : State) (a : Nat) (x : Acc), accAt s a = some x → x.state = asDONE → x.heldRecs = [] →
    ((∀ r ∈ (s.portq x.port).recs, ¬(r.ty = tyRESULT ∧ bnum r.payload 0 2 = a)) →
      ∃ t, Runs (.finalRecordSent a) s t ∧ accAt t a = none ∧ (∀ j, j ≠ a → accAt t j = accAt s j) ∧
        t.kve.hoopSent = s.kve.hoopSent.filter (· != a) ∧
        t = { s with acc := t.acc, kve := { s.kve with hoopSent := t.kve.hoopSent } }) ∧
    ((∃ r ∈ (s.portq x.port).recs, r.ty = tyRESULT ∧ bnum r.payload 0 2 = a) → Runs (.finalRecordSent a) s s)

/-- R29, R30, R364, R367, R375-R378, R388, R398, R403: the admission of steps, their commit points, pressing, the pages of
waiting requests, and the eviction of an accession whose prefill can never be served. An event without its occasion
changes nothing: the model's choice, notes/assumptions/1.md. -/
def Obligations.StepsCommitAndPagesFlow : Prop :=
  (∀ s : State, (admissionOpen s = false → Runs .stepAdmission s s) ∧
    (admissionOpen s = true → Runs .stepAdmission s (admitSteps 4129 [] [] (omitPrefill (admissionChecks (emptyArea s))))) ∧
    (computeOn s = false ∨ s.host.applying.isSome = true ∨ (∃ e ∈ s.acc.tab, e.2.state = asHELD) → admissionOpen s = false)) ∧
  (∀ (s : State) (fuel : Nat) (unfit : List (Nat × Nat)) (noted : List Nat),
    (admitSteps fuel unfit noted s).acc.steps = s.acc.steps ∨
    ∃ st : Step, (admitSteps fuel unfit noted s).acc.steps = s.acc.steps ++ [st] ∧ st.done = none) ∧
  (∀ (s : State) (g : Nat) (st : Step) (ended : Nat × Nat), computeOn s = true →
    s.acc.steps.find? (fun st => st.graph == g && st.done.isSome) = some st → st.done = some ended → queueRoom s st = true →
    let u := { s with acc := { s.acc with steps := s.acc.steps.filter (· != st) } }
    (ended.1 = 0 → Runs (.stepCommit g) s (afterCommit (tryApply (cancelPoint (commitRows u st))) st)) ∧
    (ended.1 ≠ 0 → Runs (.stepCommit g) s
      (let t := st.rows.foldl (fun t row => abortRow t row st.kind ended.1 ended.2) u
       tryApply (if t.acc.steps.isEmpty then cancelPoint t else t)))) ∧
  (∀ (s : State) (e pn : Nat) (h : Hoop) (p : Page), computeOn s = true → hoopAt s e = some h → h.pressing = some pn →
    tget s.kve.pages pn = some p → ((accAt s h.acc).any (·.twin)) = false →
      ∃ t, Runs (.pressingComplete e) s t ∧ hoopAt t e = some { h with
          head := (h.head + 16) % 24, commit := h.commit - 16, basePos := h.basePos + 16, pressing := none } ∧
        (∃ q, tget t.kve.pages pn = some q ∧ q.state = 2 ∧ q.frame = p.frame ∧ q.cls = p.cls ∧ q.acc = p.acc) ∧
        t.kve.pressings = satAdd64 s.kve.pressings 1 ∧ t.near = s.near ∧ t.obj = s.obj) ∧
  (∀ (s : State) (cls : Nat), serviceOn s = true →
    Runs (.pageWaitServed cls) s (serveWaiters cls s.kve.waiters.length s) ∧
    (nextWaiter s cls = none → Runs (.pageWaitServed cls) s s) ∧
    ∀ r, nextWaiter s cls = some r → freeFrames s cls < r.need → Runs (.pageWaitServed cls) s s) ∧
  ∀ (s : State) (a : Nat) (r : PageReq) (x : Acc), serviceOn s = true → s.kve.waiters.find? (fun r => r.acc == a) = some r →
    accAt s a = some x →
    (r.prefill = true → classFrames s r.cls < r.need ∨ pageQuota s x.coll < r.need →
      Runs (.reclaim a) s (endAcc s a ocEVICTED rsPAGES)) ∧
    (r.prefill = false ∨ r.need ≤ classFrames s r.cls ∧ r.need ≤ pageQuota s x.coll →
      Runs (.reclaim a) s (reclaimFor r (s.acc.tab.length + 1) s)) ∧
    (x.live = true → ∃ y, accAt (endAcc s a ocEVICTED rsPAGES) a = some y ∧ y.state = asDONE ∧ y.instep = false ∧
      y.hoop = none ∧ y.phead = none ∧ pageCount (endAcc s a ocEVICTED rsPAGES) a = 0)

/-- R47, R48, R410-R412, R415, R416, R435: WGT_LOAD takes a free LOAD_ID and its objects are LOADING; each wheel of its
stream is verified, counted and written once; a wheel that fails is asked for again, and the third failure, a TABLE
failure or the silence of the host ends the load with its objects FAILED; the last wheel ends it with its objects
READY. -/
def Obligations.WheelsFillHostLoads : Prop :=
  (∀ (h : Hdr) (s : State) (handle fmt count stream whey widx : Nat), Accepted h {} s →
    let c := Instr.wgtLoad h handle fmt count stream whey widx
    let ends (a : Ans) := Runs c s (answer h.port h.tag a (entered h c s))
    (h.port ≠ .usb → ends (Ans.err stPORT)) ∧
    (h.port = .usb →
      (3 < fmt ∨ count = 0 ∨ 1048576 < count ∨ loadStream s stream = false → ends (Ans.err stPARAM)) ∧
      (fmt ≤ 3 → 0 < count → count ≤ 1048576 → loadStream s stream = true →
        (loadObjsOK s handle fmt whey widx = false → ends (Ans.err stSTATE)) ∧
        (loadObjsOK s handle fmt whey widx = true → (∃ n, n < 65536 ∧ loadAt s n = none) →
          ∃ t id, Runs c s (answer h.port h.tag (Ans.ok id) t) ∧ id < 65536 ∧ loadAt s id = none ∧
            loadAt t id = some (newLoad h handle fmt count stream whey widx none false) ∧
            (∀ n, n ≠ id → loadAt t n = loadAt s n) ∧ (objOf t handle).map (·.2.lstate) = some 1 ∧
            (∀ i, i ≠ hIdx handle → i ≠ hIdx whey → i ≠ hIdx widx → objAt t i = objAt s i) ∧ t.main = s.main ∧
            t.near = s.near)))) ∧
  (∀ (s : State) (id : Nat) (x : Load) (b : Bytes), serviceOn s = true → id < 65536 → loadAt s id = some x → x.bcast = false →
    let k := wheelNum b
    let f := nget x.fails k
    let u := if f = 0 then s else modLoad s id fun x => { x with retries := satAdd32 x.retries 1 }
    (x.done.contains k = true → Runs (.wheelArrival id b) s (countDuplicate s)) ∧
    (x.done.contains k = false → ∀ i o, objOf s x.handle = some (i, o) →
      (∀ st, openFor s x o.coll o.size b = .error st → st ≠ lsTABLE → f < 2 →
        ∃ t, Runs (.wheelArrival id b) s (sendEvent evWHEEL_RETRY (le4 id ++ le4 k) t) ∧ t.obj = s.obj ∧ t.main = s.main ∧
          t.near = s.near ∧ t.wgt.failed = satAdd32 s.wgt.failed 1 ∧
          loadAt t id = (loadAt u id).map fun x => { x with fails := nset x.fails k (f + 1) }) ∧
      (∀ st, openFor s x o.coll o.size b = .error st → st = lsTABLE ∨ 2 ≤ f →
        ∃ t y, Runs (.wheelArrival id b) s (endLoad t id y st k max32) ∧ t.obj = s.obj ∧ loadAt t id = some y ∧
          y.done = x.done ∧ y.tag = x.tag ∧ y.handle = x.handle ∧ t.wgt.failed = satAdd32 s.wgt.failed 1) ∧
      (∀ w q, openFor u x o.coll o.size b = .ok (w, q) →
        let v := writeWheel u id i w q
        (arrivedOK v id i w = true → ∃ t y, t = countArrival v b.length (total ((w.pieces q).map (·.2.length))) ∧
          loadAt t id = some y ∧ y.done = x.done ++ [w.num] ∧ t.wgt.wheels = satAdd64 s.wgt.wheels 1 ∧ t.obj = v.obj ∧
          t.main = v.main ∧ t.near = v.near ∧
          Runs (.wheelArrival id b) s (if x.done.length + 1 = x.count then finishLoad t id y else t)) ∧
        (arrivedOK v id i w = false → ∃ t y, Runs (.wheelArrival id b) s (endLoad t id y lsFORMAT k max32) ∧ t.obj = s.obj ∧
          t.main = s.main ∧ y.done = x.done ∧ t.wgt.failed = satAdd32 s.wgt.failed 1)))) ∧
  (∀ (s : State) (id i : Nat) (x : Load) (o : Obj) (w : Wheel) (q : QWheel), loadAt s id = some x → x.parts = [] → w.tgt = 0 →
    objAt s i = some o → firstNear o = none →
    (writeWheel s id i w q).main = mwrite s.main (o.devBase + w.off) w.plain ∧ (writeWheel s id i w q).near = s.near) ∧
  (∀ (s : State) (id : Nat) (x : Load), x.fmt ≠ 3 → finishLoad s id x = endLoad s id x lsOK max32 max32) ∧
  (∀ (s : State) (id status bad off : Nat) (x : Load),
    loadAt (endLoad s id x status bad off) id = none ∧
    (∀ n, n ≠ id → loadAt (endLoad s id x status bad off) n = loadAt s n) ∧
    (∀ i o, objOf s x.handle = some (i, o) → (objOf (endLoad s id x status bad off) x.handle).map (·.2.lstate) =
      some (if status = lsOK then lsREADY else 4)) ∧
    ((s.portq x.port).attached = true → ∃ r ∈ ((endLoad s id x status bad off).portq x.port).recs,
      r = mkRec tyLOAD x.tag 0 (loadRecord id x status bad off))) ∧
  ∀ (s : State) (id : Nat) (x : Load), id < 65536 → loadAt s id = some x → x.bcast = false →
    Runs (.wgtHostTmoExpiry id) s (endLoad s id x lsTIMEOUT max32 max32)

/-- R412, R417-R420, R435, R447, R455: a broadcast: members expect it, the coordinator's command sends its manifest, each
wheel is forwarded to the children before it is taken, a failed or missing wheel is asked of the parent three times
and of the reader twice, and the broadcast ends when every expecting member has reported. An event without its
occasion changes nothing: the model's choice, notes/assumptions/1.md. -/
def Obligations.BroadcastsReachTheirMembers : Prop :=
  (∀ (h : Hdr) (s : State) (handle objId fmt whey widx : Nat), Accepted h {} s →
    let c := Instr.wgtExpect h handle objId fmt whey widx
    let ends (a : Ans) := Runs c s (answer h.port h.tag a (entered h c s))
    (3 < fmt → ends (Ans.err stPARAM)) ∧
    (fmt ≤ 3 → loadObjsOK s handle fmt whey widx = false → ends (Ans.err stSTATE)) ∧
    (fmt ≤ 3 → loadObjsOK s handle fmt whey widx = true → (∃ n, n < 65536 ∧ loadAt s n = none) →
      ∃ t id, Runs c s (answer h.port h.tag (Ans.ok id) t) ∧ id < 65536 ∧ loadAt s id = none ∧
        loadAt t id = some (newLoad h handle fmt 0 0 whey widx (some objId) true) ∧
        (objOf t handle).map (·.2.lstate) = some 1)) ∧
  (∀ (h : Hdr) (s : State) (group reader region entry mask : Nat), Accepted h {} s →
    let c := Instr.wgtBcast h group reader region entry mask
    (bcastOK s group reader region entry mask = false →
      Runs c s (answer h.port h.tag (Ans.err stPARAM) (entered h c s))) ∧
    (bcastOK s group reader region entry mask = true →
      (bit mask (fabId s) = true → (∀ e ∈ s.wgt.loads, e.2.bcast = false) →
        ∃ t, Runs c s (answer h.port h.tag (Ans.err stSTATE) t) ∧ t.wgt = s.wgt ∧ t.fab = s.fab ∧ t.obj = s.obj) ∧
      (bit mask (fabId s) = false → reader ≠ fabId s →
        (∃ n, n < 65536 ∧ tget s.wgt.mans n = none ∧ tget s.wgt.bcasts n = none) →
        ∃ t id, Runs c s (answer h.port h.tag (Ans.ok id) t) ∧ id < 65536 ∧ tget s.wgt.bcasts id = none ∧
          tget t.wgt.bcasts id = some { group := group, reader := reader, region := region, entry := entry, mask := mask,
                                        reported := [], rereq := 0, direct := 0, port := h.port, tag := h.tag } ∧
          ∀ q ∈ groupMembers s group, q ≠ fabId s → s.fab.lost.contains q = false →
            ∃ x ∈ t.fab.out, x.dst = q ∧ x.ty = 0x05 ∧ x.group = group ∧ x.body.take 4 = [id, reader, region, entry]))) ∧
  (∀ (s : State) (load k : Nat) (b : Bytes) (m : Man), serviceOn s = true → tget s.wgt.mans load = some m → k < m.count →
    (wheelUsable s b = false ∨ wheelNum b ≠ k →
      (bcastLoad s load = none → Runs (.broadcastWheel load k b) s (countFailed lsCRC s)) ∧
      ∀ id x, bcastLoad s load = some (id, x) → x.done.contains k = false →
        Runs (.broadcastWheel load k b) s (wheelFailed (countFailed lsCRC s) id load k m)) ∧
    (wheelUsable s b = true → wheelNum b = k →
      (bcastLoad s load = none → Runs (.broadcastWheel load k b) s (forwardWheel s load m k b)) ∧
      (∀ id x, bcastLoad s load = some (id, x) →
        (x.done.contains k = true → Runs (.broadcastWheel load k b) s (countDuplicate (forwardWheel s load m k b))) ∧
        (x.done.contains k = false → nget x.fails k = 0 →
          (∀ st, takeWheel (forwardWheel s load m k b) id x b = .error (st, false) → Runs (.broadcastWheel load k b) s
            (wheelFailed (countFailed st (forwardWheel s load m k b)) id load k m)) ∧
          (∀ st, takeWheel (forwardWheel s load m k b) id x b = .error (st, true) → Runs (.broadcastWheel load k b) s
            (endBcast (countFailed st (forwardWheel s load m k b)) load st k)) ∧
          (∀ t, takeWheel (forwardWheel s load m k b) id x b = .ok t →
            Runs (.broadcastWheel load k b) s (reportIfDone t load id m))))) ∧
    ((∀ e ∈ s.wgt.rtx, ¬(e.1 = load ∧ e.2.1 = k)) → ∀ q ∈ treeChildren s m (fabId s), s.fab.lost.contains q = false →
      (1, q, k, b) ∈ (forwardWheel s load m k b).fab.sent ∧ (load, k, b) ∈ (forwardWheel s load m k b).wgt.rtx) ∧
    ∀ id x, bcastLoad s load = some (id, x) → k < x.count → x.done.contains k = false →
      Runs (.wgtWheelTmoExpiry load k) s (wheelFailed s id load k m) ∧
      (nget x.fails k = 4 → Runs (.directRequestTimeout load k) s
        (sendDirect (modLoad s id fun x => { x with fails := nset x.fails k 5 }) id load k m)) ∧
      (nget x.fails k = 5 → Runs (.directRequestTimeout load k) s (endBcast s load lsTIMEOUT k))) ∧
  (∀ (s : State) (id load k : Nat) (m : Man) (x : Load), loadAt s id = some x →
    (nget x.fails k ≤ 2 → ∀ p, treeParent s m (fabId s) = some p → s.fab.lost.contains p = false →
      ∃ c, (wheelFailed s id load k m).fab.out = c :: s.fab.out ∧ c.dst = p ∧ c.ty = 0x07 ∧ c.body = [0, load, k] ∧
        (wheelFailed s id load k m).wgt.rereq = satAdd32 s.wgt.rereq 1 ∧ loadAt (wheelFailed s id load k m) id =
          some { x with fails := nset x.fails k (nget x.fails k + 1), rereq := x.rereq + 1 }) ∧
    (nget x.fails k = 3 → s.fab.lost.contains m.reader = false →
      ∃ c, (wheelFailed s id load k m).fab.out = c :: s.fab.out ∧ c.dst = m.reader ∧ c.ty = 0x07 ∧ c.body = [2, load, k] ∧
        (wheelFailed s id load k m).wgt.direct = satAdd32 s.wgt.direct 1) ∧
    (3 < nget x.fails k → wheelFailed s id load k m = s)) ∧
  (∀ (s : State) (load src rereq direct : Nat) (b : Bcast), tget s.wgt.bcasts load = some b →
    (bit b.mask src = false ∨ b.reported.contains src = true → Runs (.broadcastMemberReport load src rereq direct) s s) ∧
    (bit b.mask src = true → b.reported.contains src = false →
      ((∃ q ∈ maskBits 24 b.mask, q ≠ src ∧ b.reported.contains q = false) →
        ∃ t, Runs (.broadcastMemberReport load src rereq direct) s t ∧ t.fab = s.fab ∧ tget t.wgt.bcasts load =
          some { b with reported := b.reported ++ [src], rereq := b.rereq + rereq, direct := b.direct + direct }) ∧
      ((∀ q ∈ maskBits 24 b.mask, q = src ∨ b.reported.contains q = true) →
        ∃ t, Runs (.broadcastMemberReport load src rereq direct) s t ∧ tget t.wgt.bcasts load = none ∧
          tget t.wgt.mans load = none ∧
          ∀ q ∈ maskBits 24 b.mask, q ≠ fabId s → s.fab.lost.contains q = false →
            ∃ x ∈ t.fab.out, x.dst = q ∧ x.ty = 0x06 ∧ x.body = [load]))) ∧
  ∀ (m : Msg) (s : State) (load : Nat), Heard m s →
    (∀ reader region entry objId count mask,
      Runs (.manifest m load reader region entry objId count mask) s
        (if groupValid s m.group && groupCoord s m.group == m.src then takeManifest (heard m s) load
          { group := m.group, reader := reader, region := region, entry := entry, objId := objId, count := count, mask := mask }
        else heard m s)) ∧
    (∀ n, tget s.wgt.mans load = some n →
      (groupCoord s n.group ≠ m.src → Runs (.loadDone m load) s (heard m s)) ∧
      (groupCoord s n.group = m.src →
        (bcastLoad s load = none → Runs (.loadDone m load) s (dropBcast (heard m s) load)) ∧
        ∀ id x, bcastLoad s load = some (id, x) → x.done.length = x.count →
          Runs (.loadDone m load) s (endBcast (heard m s) load lsOK max32)) ∧
      (∀ k id x, bcastLoad s load = some (id, x) → x.done.contains k = false →
        Runs (.miss m load k) s (wheelFailed (heard m s) id load k n)) ∧
      ∀ k, (n.reader ≠ fabId s → Runs (.direct m load k) s (heard m s)) ∧
        (n.reader = fabId s → ∀ w, (readerWheels s n.region n.entry).find? (fun w => w.1 == k) = some w →
          (∀ b, w.2 = some b → Runs (.direct m load k) s (sendWheel k b (readWheel (heard m s) n.region n.entry k) m.src)) ∧
          (w.2 = none → (∀ q ∈ maskBits 24 n.mask, q = fabId s ∨ q = m.src) →
            Runs (.direct m load k) s (endBcast (heard m s) load lsDAMAGED k)))) ∧
    (∀ k, (∀ e, s.wgt.rtx.find? (fun e => e.1 == load && e.2.1 == k) = some e →
        Runs (.rereq m load k) s (sendWheel k e.2.2 (heard m s) m.src)) ∧
      ((∀ e ∈ s.wgt.rtx, ¬(e.1 = load ∧ e.2.1 = k)) →
        Runs (.rereq m load k) s (sendCtl m.src 0x07 m.group [1, load, k] (heard m s)))) ∧
    ∀ objId k, (∀ w, (heldWheels s objId).find? (fun w => w.1 == k) = some w →
        Runs (.peerCopy m objId k 1) s
          (sendWheel w.1 w.2 ((wheelPagesOf s objId k).foldl readPage (heard m s)) m.src)) ∧
      ((∀ w ∈ heldWheels s objId, w.1 ≠ k) → Runs (.peerCopy m objId k 1) s (heard m s))

/-- R421-R426, R436, R472: grants given and taken back, adapter slots loaded and freed, adapters published from a training
state and exported as sealed wheels; an export ends ENTROPY while the TRNG has failed. -/
def Obligations.GrantsAndAdapters : Prop :=
  (∀ (h : Hdr) (s : State) (handle grantee i : Nat) (o : Obj), Accepted h {} s → objOf s handle = some (i, o) → grantee ≤ 63 →
    let c := Instr.wgtGrant h handle grantee
    let d := Instr.wgtRevoke h handle grantee
    (o.rw = true ∨ o.coll = grantee → Runs c s (answer h.port h.tag (Ans.err stSTATE) (entered h c s))) ∧
    (o.rw = false → o.coll ≠ grantee →
      ((i, grantee) ∈ s.obj.grants → Runs c s (answer h.port h.tag (Ans.err stALREADY) (entered h c s))) ∧
      ((i, grantee) ∉ s.obj.grants →
        (1024 ≤ s.obj.grants.length → Runs c s (answer h.port h.tag (Ans.err stFULL) (entered h c s))) ∧
        (s.obj.grants.length < 1024 → Runs c s (replied h c s 0 fun u =>
          { u with obj := { u.obj with grants := s.obj.grants ++ [(i, grantee)] } })))) ∧
    ((i, grantee) ∉ s.obj.grants → Runs d s (answer h.port h.tag (Ans.err stSTATE) (entered h d s))) ∧
    ((i, grantee) ∈ s.obj.grants →
      ((∃ e ∈ s.gra.graphs, e.2.coll = grantee ∧ graphNames e.2 handle = true) →
        Runs d s (answer h.port h.tag (Ans.err stIN_USE) (entered h d s))) ∧
      ((∀ e ∈ s.gra.graphs, e.2.coll = grantee → graphNames e.2 handle = false) → Runs d s (replied h d s 0 fun u =>
        { u with obj := { u.obj with grants := s.obj.grants.filter (· != (i, grantee)) } })))) ∧
  (∀ (h : Hdr) (s : State) (slot : Nat), Accepted h {} s → slot ≤ 63 →
    (adapterUsers s slot ≠ 0 →
      Runs (.adpFree h slot) s (answer h.port h.tag (Ans.err stBUSY) (entered h (.adpFree h slot) s)) ∧
      ∀ handle i o, objOf s handle = some (i, o) →
        Runs (.adpLoad h slot handle) s (answer h.port h.tag (Ans.err stBUSY) (entered h (.adpLoad h slot handle) s))) ∧
    (adapterUsers s slot = 0 →
      (∃ t, Runs (.adpFree h slot) s (answer h.port h.tag (Ans.ok 0) t) ∧ tget t.wgt.adapters slot = none ∧
        ∀ j, j ≠ slot → tget t.wgt.adapters j = tget s.wgt.adapters j) ∧
      ∀ handle i o, objOf s handle = some (i, o) →
        (o.rw = true ∨ o.home ≠ 0 ∨ o.lstate ≠ lsREADY → Runs (.adpLoad h slot handle) s
          (answer h.port h.tag (Ans.err stSTATE) (entered h (.adpLoad h slot handle) s))) ∧
        (o.rw = false → o.home = 0 → o.lstate = lsREADY → o.freeing = false → o.closing = false →
          ∀ b, objRead s o 0 64 = some b →
            (adapterHeaderOK b = false → Runs (.adpLoad h slot handle) s
              (answer h.port h.tag (Ans.err stFORMAT) (entered h (.adpLoad h slot handle) s))) ∧
            (adapterHeaderOK b = true → ∃ t, Runs (.adpLoad h slot handle) s (answer h.port h.tag (Ans.ok 0) t) ∧
              tget t.wgt.adapters slot = some { coll := o.coll, rank := bnum b 4 2, handle := handle, alpha := bnum b 8 2 } ∧
              (∀ j, j ≠ slot → tget t.wgt.adapters j = tget s.wgt.adapters j) ∧ t.obj = s.obj)))) ∧
  (∀ (h : Hdr) (s : State) (train layout adapter i j : Nat) (o p : Obj), Accepted h {} s →
    objOf s train = some (i, o) → objOf s adapter = some (j, p) →
    let c := Instr.adpPublish h train layout adapter
    (o.coll ≠ p.coll → Runs c s (answer h.port h.tag (Ans.err stACCESS) (entered h c s))) ∧
    (o.coll = p.coll → o.rw = true → p.rw = false → p.home = 0 → p.lstate = 0 → p.freeing = false → p.closing = false →
      ∀ b, objRead s o layout (2 * p.size) = some b → adapterHeaderOK b = true →
        let head := 64 + 16 * bnum b 6 2
        let n := (p.size - head) / 2
        head ≤ p.size → layout + head + 4 * n ≤ o.size →
        ∃ t, Runs c s (answer h.port h.tag (Ans.ok 0) t) ∧
          objAt t j = some { p with lstate := lsREADY, fmt := 0 } ∧ (∀ k, k ≠ j → objAt t k = objAt s k) ∧
          t.main = (objWrite s j 0 (publishBytes b head n)).main ∧ t.near = (objWrite s j 0 (publishBytes b head n)).near)) ∧
  ∀ (h : Hdr) (s : State) (handle i : Nat) (o : Obj), Accepted h {} s → objOf s handle = some (i, o) →
    let c := Instr.adpExport h handle
    (bit h.flags 1 = false → Runs c s (answer h.port h.tag (Ans.err stPARAM) (entered h c s))) ∧
    (bit h.flags 1 = true → o.rw = true ∨ o.home ≠ 0 ∨ o.lstate ≠ lsREADY →
      Runs c s (answer h.port h.tag (Ans.err stSTATE) (entered h c s))) ∧
    (bit h.flags 1 = true → o.rw = false → o.home = 0 → o.lstate = lsREADY → s.sec.trngFail = true →
      Runs c s (answer h.port h.tag (Ans.err stENTROPY) (entered h c s))) ∧
    (bit h.flags 1 = true → h.port ≠ .mgt → o.rw = false → o.home = 0 → o.lstate = lsREADY → o.freeing = false →
      o.closing = false → s.sec.trngFail = false → ∀ key b, wheelKey s o.coll = some key → objRead s o 0 o.size = some b →
        let d := sealObject s key (drawn s % 2 ^ 32) b
        ∃ t, Runs c s (answer h.port h.tag { value := d.length % 2 ^ 32, rdata := some d } t) ∧ t.obj = s.obj ∧
          t.main = s.main ∧ t.near = s.near ∧ t.wgt = s.wgt)

/-- R415, R428-R431, R434: a replacement: its plan is checked and its services get a new generation; groups are staged in
order and flipped once no older instance names them; one that cannot be staged stops it until it is resumed or
abandoned. An event without its occasion changes nothing: the model's choice, notes/assumptions/1.md. -/
def Obligations.ReplacementsFlipGroupByGroup : Prop :=
  (∀ (h : Hdr) (s : State) (plan : Nat), Accepted h {} s →
    let c := Instr.wgtReplace h plan
    (s.wgt.repl.isSome = true → Runs c s (answer h.port h.tag (Ans.err stBUSY) (entered h c s))) ∧
    (s.wgt.repl = none →
      (∀ st, checkPlan (entered h c s) plan [] none = .error st →
        Runs c s (answer h.port h.tag (Ans.err st) (entered h c s))) ∧
      ∀ r u, checkPlan (entered h c s) plan [] none = .ok (r, u) →
        ∃ t, Runs c s (answer h.port h.tag (Ans.ok 0) t) ∧ t = { u with wgt := t.wgt } ∧ t.wgt.repl = some r ∧
          r.stopped = false ∧ r.stagedG = [] ∧ r.flippedG = [] ∧
          ∀ i g, s.wgt.gens[i]? = some g → t.wgt.gens[i]? =
            some (if bit r.svcs i then if g = max32 then 1 else g + 1 else g))) ∧
  (∀ (s : State) (plan i : Nat) (o : Obj) (b : Bytes), objOf s plan = some (i, o) → o.rw = true →
    objRead s o 0 o.size = some b →
    (planFormOK b = false → checkPlan s plan [] none = .error stPARAM) ∧
    (planFormOK b = true → (∀ e ∈ planEntries b, planEntryStatus s o.coll e = none) →
      outOfScope s (bnum b 0 2) (planEntries b) = true → checkPlan s plan [] none = .error stSCOPE)) ∧
  (∀ (s : State) (r : Repl) (j : Nat) (e : PlanE), s.wgt.repl = some r → r.plan[j]? = some e → mayStage r e.group = true →
    e.src = 0 →
    Runs (.wgtHostTmoExpiry (65536 + j)) s (stopRepl s e.group lsTIMEOUT) ∧
    ∀ b, serviceOn s = true →
      ((∃ w ∈ e.wheels, wheelNum w = wheelNum b) → Runs (.wheelArrival (65536 + j) b) s (countDuplicate s)) ∧
      ((∀ w ∈ e.wheels, wheelNum w ≠ wheelNum b) →
        (∀ d, planData s { e with wheels := e.wheels ++ [b] } = .ok d → ∃ t, Runs (.wheelArrival (65536 + j) b) s t ∧
          t.wgt.wheels = satAdd64 s.wgt.wheels 1 ∧ t.main = s.main ∧ t.near = s.near ∧ t.obj = s.obj ∧
          t.wgt.repl = some { r with plan := r.plan.modify j fun e => { e with wheels := e.wheels ++ [b] } }) ∧
        ∀ st last, planData s { e with wheels := e.wheels ++ [b] } = .error (st, last) →
          (last = true ∨ 2 ≤ nget e.fails (wheelNum b) → ∃ t, Runs (.wheelArrival (65536 + j) b) s (stopRepl t e.group st) ∧
            t.wgt.failed = satAdd32 s.wgt.failed 1 ∧ t.obj = s.obj) ∧
          (last = false → nget e.fails (wheelNum b) < 2 → ∃ t, Runs (.wheelArrival (65536 + j) b) s
            (sendEvent evWHEEL_RETRY (le4 (65536 + j) ++ le4 (wheelNum b)) t) ∧
            t.wgt.failed = satAdd32 s.wgt.failed 1 ∧ t.obj = s.obj))) ∧
  (∀ (s : State) (r : Repl) (k : Nat), s.wgt.repl = some r → computeOn s = true →
    (mayStage r k = false → Runs (.groupStaged k) s s) ∧
    (mayStage r k = true →
      (∀ st, stageGroup s k r.plan.zipIdx = .error st → Runs (.groupStaged k) s (stopRepl (countFailed st s) k st)) ∧
      (stageGroup s k r.plan.zipIdx = .ok none → Runs (.groupStaged k) s s) ∧
      ∀ t, stageGroup s k r.plan.zipIdx = .ok (some t) →
        Runs (.groupStaged k) s (modRepl t fun r => { r with stagedG := r.stagedG ++ [k] })) ∧
    (r.stagedG.contains k = false ∨ r.flippedG.contains k = true ∨ olderNames s r k = true → Runs (.flip k) s s) ∧
    (r.stagedG.contains k = true → r.flippedG.contains k = false → olderNames s r k = false →
      ∃ t, Runs (.flip k) s t ∧ t.wgt.swaps = satAdd32 s.wgt.swaps 1 ∧
        ((∀ g, g < r.ngroup → g = k ∨ g ∈ r.flippedG) → t.wgt.repl = none ∧ ∀ i ∈ t.acc.blocked, bit r.svcs i = false) ∧
        ((∃ g, g < r.ngroup ∧ g ≠ k ∧ g ∉ r.flippedG) →
          ∃ q, t.wgt.repl = some q ∧ q.flippedG = r.flippedG ++ [k] ∧ q.svcs = r.svcs ∧ q.ngroup = r.ngroup))) ∧
  (∀ (s : State) (e : PlanE) (i : Nat) (o : Obj), objOf s e.handle = some (i, o) → o.pins = 0 →
    (o.home ≠ 1 → (flipObject s e).main = mcopy e.data 0 s.main o.devBase o.size) ∧
    (o.home = 1 → (flipObject s e).main = s.main ∧
      ∃ q, objAt (flipObject s e) i = some q ∧ q.homeref = e.where_ ∧ q.dirEntry = e.entry ∧ q.res = false) ∧
    ∃ q, objAt (flipObject s e) i = some q ∧ ∀ c, c < 8 → o.inNear c = true → q.ns.getD c none = none) ∧
  (∀ (s : State) (r : Repl) (g st : Nat), s.wgt.repl = some r →
    stopRepl s g st = sendEvent evWGT_STOPPED (le4 g ++ le4 st) { s with wgt := { s.wgt with repl := some { r with stopped := true } } }) ∧
  ∀ (h : Hdr) (s : State) (plan : Nat), Accepted h {} s →
    ((∀ r, s.wgt.repl = some r → r.stopped = false) →
      Runs (.wgtResume h plan) s (answer h.port h.tag (Ans.err stSTATE) (entered h (.wgtResume h plan) s)) ∧
      Runs (.wgtAbandon h) s (answer h.port h.tag (Ans.err stSTATE) (entered h (.wgtAbandon h) s))) ∧
    ∀ r, s.wgt.repl = some r → r.stopped = true →
      (let u := modRepl (entered h (.wgtResume h plan) s) fun r => { r with staging := 0 }
       (∀ st, checkPlan u plan r.flippedG (some r.svcs) = .error st →
         Runs (.wgtResume h plan) s (answer h.port h.tag (Ans.err st) (entered h (.wgtResume h plan) s))) ∧
       ∀ q t, checkPlan u plan r.flippedG (some r.svcs) = .ok (q, t) → q.flippedG = r.flippedG ∧
         Runs (.wgtResume h plan) s (answer h.port h.tag (Ans.ok 0) { t with wgt := { t.wgt with repl := some q } })) ∧
      (let u := { entered h (.wgtAbandon h) s with
         wgt := { s.wgt with repl := none, held := [] }
         acc := { s.acc with blocked := (s.acc.blocked ++ maskBits 16 r.svcs).eraseDups } }
       (s.wgt.held = [] → Runs (.wgtAbandon h) s (answer h.port h.tag (Ans.ok 0) u)) ∧
       ∀ k n, s.wgt.held = [k] → instOf s k.g = some n → n.serial = k.i →
         Runs (.wgtAbandon h) s (answer h.port h.tag (Ans.ok 0) (endEarly u k.g 1)))

/-- R440, R441, R443-R446, R452, R465, R467, R511: a port that has trained comes UP with the neighbour its map names, or
is MISWIRED; flits are acknowledged, sent again after a NAK, delivered in order, forwarded or dropped at TTL 0; a link
that cannot go on falls and trains again. An event without its occasion changes nothing: the model's choice,
notes/assumptions/1.md. -/
def Obligations.LinksTrainRetryAndFall : Prop :=
  (∀ (s : State) (p sysid nbPkg nbPort : Nat) (lanes : Bool),
    ((portAt s p).state ≠ 2 → Runs (.trainingComplete p lanes sysid nbPkg nbPort) s s) ∧
    ((portAt s p).state = 2 → p < 6 →
      Runs (.trainingComplete p false sysid nbPkg nbPort) s (portDetection s p mechINTERFACE false) ∧
      (sysid = rsv s 0x90004 0 → neighbourOf s (fabId s) p = some (nbPkg, nbPort) →
        ∃ t, Runs (.trainingComplete p true sysid nbPkg nbPort) s t ∧ (portAt t p).state = 3 ∧ (portAt t p).nbPkg = nbPkg ∧
          (portAt t p).nbPort = nbPort ∧ (portAt t p).txSeq = 0 ∧ (portAt t p).rxSeq = 0 ∧
          (portAt t p).sendCr = freshCredits ∧ (fabId s, p) ∉ t.fab.down ∧ ∀ j, j ≠ p → portAt t j = portAt s j) ∧
      (sysid ≠ rsv s 0x90004 0 ∨ neighbourOf s (fabId s) p ≠ some (nbPkg, nbPort) →
        ∃ t, Runs (.trainingComplete p true sysid nbPkg nbPort) s t ∧
          portAt t p = { portAt s p with state := 4, nbPkg := nbPkg % 32, nbPort := nbPort % 8 } ∧
          ∀ j, j ≠ p → portAt t j = portAt s j)) ∧
    ((portAt s p).state = 4 → ∃ t, Runs (.trainingRetry p) s t ∧ t = { s with fab := t.fab } ∧
      portAt t p = { portAt s p with state := 2 } ∧ ∀ j, j ≠ p → portAt t j = portAt s j) ∧
    ((portAt s p).state ≠ 4 → Runs (.trainingRetry p) s s)) ∧
  (∀ (x : FPort) (ack : Nat),
    ((∀ f ∈ x.rtx, f.seq ≠ ack) → takeAck x ack = x) ∧
    (∀ before f after, x.rtx = before ++ f :: after → (∀ g ∈ before, g.seq ≠ f.seq) →
      takeAck x f.seq = { x with rtx := after, nakRun := 0 }) ∧
    resendFrom x ack = (takeAck x ack).rtx.foldl (fun y f => putFlit y f.hdr f.data)
      { takeAck x ack with nakRun := (takeAck x ack).nakRun + 1 }) ∧
  (∀ (x : FPort) (h : FlitHdr) (b : Bytes), x.ccl ≤ 1 → ∃ g y, putFlit x h b = { y with wire := (g, b) :: x.wire } ∧
    g = { h with ack := (x.rxSeq + 4095) % 4096, ccl := g.ccl, credit := g.credit } ∧
    (creditsDue x 0 = true → creditsDue x 1 = true → g.ccl = x.ccl ∧ y.ccl = 1 - x.ccl) ∧
    (creditsDue x 0 = true → creditsDue x 1 = false → g.ccl = 0) ∧ (creditsDue x 0 = false → creditsDue x 1 = true → g.ccl = 1) ∧
    g.credit = creditField x g.ccl ∧ creditsDue y g.ccl = false) ∧
  (∀ (s : State) (p ack : Nat),
    ((portAt s p).state ≠ 3 → Runs (.nak p ack) s s ∧ Runs (.linkNoProgress p) s s ∧ Runs (.keepaliveTimeout p) s s ∧
      Runs (.idleFlitSend p) s s ∧ ∀ b, Runs (.flitReceive p b) s s) ∧
    ((portAt s p).state = 3 →
      ((resendFrom (portAt s p) ack).nakRun < 8 → ∃ t, Runs (.nak p ack) s t ∧ t = { s with fab := t.fab } ∧
        portAt t p = resendFrom (portAt s p) ack ∧ ∀ j, j ≠ p → portAt t j = portAt s j) ∧
      (8 ≤ (resendFrom (portAt s p) ack).nakRun →
        Runs (.nak p ack) s (linkFault (modFPort s p fun x => resendFrom x ack) p mechCRC_RETRY)) ∧
      ((portAt s p).rtx = [] → Runs (.linkNoProgress p) s s) ∧
      ((portAt s p).rtx ≠ [] → Runs (.linkNoProgress p) s (linkFault s p mechCRC_RETRY)) ∧
      Runs (.keepaliveTimeout p) s (linkFault s p mechKEEPALIVE) ∧
      ((portAt s p).txQ ≠ [] → Runs (.idleFlitSend p) s s) ∧
      ((portAt s p).txQ = [] → ∃ t, Runs (.idleFlitSend p) s t ∧ t = { s with fab := t.fab } ∧
        portAt t p = putFlit (portAt s p) (bareHdr 0) [] ∧
        ∀ j, j ≠ p → portAt t j = portAt s j))) ∧
  (∀ (s : State) (p : Nat), p < s.fab.ports.length →
    ((linkDown s p).flt.fatal = s.flt.fatal → (portAt (linkDown s p) p).state = 2) ∧ (portAt (linkDown s p) p).downs = min 65535 ((portAt s p).downs + 1) ∧
    (fabId s, p) ∈ (linkDown s p).fab.down) ∧
  (∀ (s : State) (p : Nat) (b : Bytes), serviceOn s = true → p ≤ 5 → (portAt s p).state = 3 →
    (flitOK b = false → Runs (.flitReceive p b) s
      (sendNak p (crcDetection p (modFab s fun f => { f with crcErr := satAdd32 f.crcErr 1 })))) ∧
    (flitOK b = true →
      let h := flitHdr b
      let u := pumpPort (modFPort s p fun x => takeCredit x h) p
      let v := pumpPort (modFPort u p fun x => takeAck x h.ack) p
      (h.ty = 1 → h.seq = (portAt s p).rxSeq → Runs (.flitReceive p b) s (takeInOrder p (dataFlit h b) v)) ∧
      (h.ty = 1 → h.seq ≠ (portAt s p).rxSeq → Runs (.flitReceive p b) s (outOfOrder p v)) ∧
      (h.ty = 2 → (resendFrom (portAt u p) h.ack).nakRun < 8 → Runs (.flitReceive p b) s
        (modFPort u p fun x => resendFrom x h.ack)) ∧
      (h.ty ≠ 1 → h.ty ≠ 2 → Runs (.flitReceive p b) s v))) ∧
  (∀ (s : State) (p : Nat), p < s.fab.ports.length →
    portAt (sendNak p s) p =
      putFlit { portAt s p with retry := true } (bareHdr 2) [] ∧
    (sendNak p s).fab.retries = satAdd32 s.fab.retries 1) ∧
  ∀ (s : State) (p : Nat) (f : Flit), p < s.fab.ports.length →
    let u := modFPort s p fun x => { x with rxSeq := (x.rxSeq + 1) % 4096, retry := false }
    let k := vcKey f.dcl f.vc
    let w := modFPort s p fun x => { x with credit := nset x.credit k (min 128 (nget x.credit k + 1)) }
    (linkKeep s p = true → takeInOrder p f s = modFPort u p fun x => { x with heldRx := x.heldRx ++ [f] }) ∧
    (linkKeep s p = false → takeInOrder p f s = deliverFlit p f u) ∧
    (f.dst ≠ fabId s → f.ttl ≤ 1 → (deliverFlit p f s).fab.ttlDrop = satAdd32 s.fab.ttlDrop 1) ∧
    (f.dst ≠ fabId s → 1 < f.ttl → deliverFlit p f s = passFlit w p { f with ttl := f.ttl - 1 }) ∧
    (f.dst = fabId s → f.first = true → f.last = false →
      tget (portAt (deliverFlit p f s) p).frames f.vc = some f.data) ∧
    (f.dst = fabId s → ∀ part, (if f.first then some [] else tget (portAt s p).frames f.vc) = some part → f.last = true →
      deliverFlit p f s = takeFrame f (part ++ f.data) (modFPort w p fun x => { x with frames := terase x.frames f.vc }))

/-- R237-R239, R447, R452, R458, R459, R465, R466, R585: a control message is acted on once and acknowledged each time;
what each type does; acknowledged messages are let go and others sent again; notices of pace; commands relayed from
and replies relayed to a fabric owner. An event without its occasion changes nothing: the model's choice,
notes/assumptions/1.md. -/
def Obligations.ControlMessagesActOnce : Prop :=
  (∀ (m : Msg) (s : State) (a b c d e f : Nat) (ok : Bool) (r : Bytes) (ts : List Nat),
    let cs := [Instr.portDown m a b c, .start m a b c d, .edge m a b ok, .report m r, .pace m a b c d, .manifest m a b c d e f a,
      .loadDone m a, .rereq m a b, .miss m a b, .direct m a b, .peerCopy m a b c, .writeAck m a b, .twinState m a r b ts,
      .twinAck m a b, .cmdRelay m r]
    (serviceOn s = false ∨ 24 ≤ m.src ∨ m.src ∈ s.fab.lost ∨ m.src ∈ s.fab.barred → ∀ x ∈ cs, Runs x s s) ∧
    (serviceOn s = true → m.src < 24 → m.src ∉ s.fab.lost → m.src ∉ s.fab.barred → (m.src, m.serial) ∈ s.fab.seen →
      ∀ x ∈ cs, Runs x s (sendCack s m))) ∧
  (∀ (dst ty group : Nat) (body : List Nat) (s : State), dst ∉ s.fab.lost → ∃ x : CMsg,
    x.dst = dst ∧ x.ty = ty ∧ x.group = group ∧ x.serial = nget s.fab.txSerial dst ∧ x.body = body ∧
    (sendCtl dst ty group body s).fab.ctl = s.fab.ctl ++ [x] ∧ (sendCtl dst ty group body s).fab.out = x :: s.fab.out) ∧
  (∀ (m : Msg) (s : State) (serial : Nat),
    (let kept := s.fab.ctl.filter fun c => !(c.dst == m.src && c.serial == serial)
     Runs (.cack m serial) s { s with fab := { s.fab with ctl := kept } }) ∧
    (∀ x, s.fab.ctl.find? (fun c => c.dst == m.src && c.serial == serial) = some x → Runs (.controlResend m.src serial) s
      (sendMsg x { s with fab := { s.fab with resent := satAdd32 s.fab.resent 1 } })) ∧
    ((∀ x ∈ s.fab.ctl, ¬(x.dst = m.src ∧ x.serial = serial)) → Runs (.controlResend m.src serial) s s)) ∧
  (∀ (m : Msg) (s : State), Heard m s →
    (∀ pkg port nb, ∃ u, Runs (.portDown m pkg port nb) s (judge u) ∧ (pkg, port) ∈ u.fab.down ∧
      (∀ e ∈ u.fab.down, e = (pkg, port) ∨ e ∈ s.fab.down) ∧ u = { heard m s with fab := u.fab }) ∧
    (∀ gid inst band gen, (∀ g x, s.gra.graphs.find? (fun e => e.2.group && e.2.gid == gid && e.2.gnum == m.group &&
          groupCoord s m.group == m.src) = some (g, x) → Runs (.start m gid inst band gen) s
        (modGraph (heard m s) g fun x => { x with starts := x.starts ++ [(inst, band % 4, gen)] })) ∧
      ((∀ e ∈ s.gra.graphs, e.2.group = true → e.2.gid = gid → e.2.gnum = m.group → groupCoord s m.group ≠ m.src) →
        Runs (.start m gid inst band gen) s (heard m s))) ∧
    (∀ inst e ok,
      let fit := s.gra.graphs.filter fun g => edgeFits s m g.2 e
      (fit = [] → Runs (.edge m inst e ok) s (heard m s)) ∧
      (∀ g x rest, fit = (g, x) :: rest → (∀ y ∈ fit, ∀ n, y.2.run = some n → n.serial ≠ inst) →
        Runs (.edge m inst e ok) s (modGraph (heard m s) g fun x => { x with early := x.early ++ [(inst, e, ok)] })) ∧
      (∀ g x d, fit.find? (fun g => g.2.run.any fun n => n.serial == inst) = some (g, x) → x.edges[e]? = some d →
        Runs (.edge m inst e ok) s (settle (modRun (heard m s) ⟨g, d.dstT⟩ fun r =>
          if r.edges.any (·.1 == e) then r else { r with edges := r.edges ++ [(e, ok)] }) g))) ∧
    (∀ rc g x, s.gra.graphs.find? (fun e => coordinates s e.2 && e.2.gnum == m.group && bit (groupMask s m.group) m.src &&
        e.2.run.any fun n => n.serial == bnum rc 4 4) = some (g, x) →
      Runs (.report m rc) s (settle (modGraph (heard m s) g fun x =>
        if x.reports.any (·.1 == m.src) then x else { x with reports := x.reports ++ [(m.src, padTo 64 rc)] }) g)) ∧
    (∀ reason rate extra valid, ∃ t, Runs (.pace m reason rate extra valid) s t ∧ t = { heard m s with fab := t.fab, pwr := t.pwr } ∧
      t.fab.paceRcvd = satAdd32 s.fab.paceRcvd 1 ∧ (∀ n, n.src ≠ m.src → (n ∈ t.fab.pace ↔ n ∈ s.fab.pace)) ∧
      ∀ n : PaceN, n.src = m.src → (n ∈ t.fab.pace ↔
        rate < 1024 ∧ n = { src := m.src, reason := reason, rate := rate, extra := extra, valid := valid })) ∧
    (∀ b, (fabricOwner s ≠ some m.src → Runs (.cmdRelay m b) s (heard m s)) ∧
      (fabricOwner s = some m.src → Runs (.cmdRelay m b) s
        (runCmd (decodeRecord .fabric (padTo 64 b) []) (heard m s))))) ∧
  (∀ s : State, (s.fab.paceOut = none → Runs .paceResend s s) ∧
    (∀ n, s.fab.paceOut = some n → Runs .paceResend s (sendPace n s)) ∧
    (∀ src, Runs (.paceLapse src) s (matchLevels { s with fab := { s.fab with pace := s.fab.pace.filter (·.src != src) } }))) ∧
  ∀ s : State, serviceOn s = true →
    (fabricOwner s = none → Runs .cmdReply s s) ∧
    (∀ q, fabricOwner s = some q → q ∉ s.fab.lost →
      ((s.portq .fabric).recs = [] → (s.portq .fabric).evts = [] → Runs .cmdReply s s) ∧
      (∀ r rs, (s.portq .fabric).recs = r :: rs → ∃ t x, Runs .cmdReply s t ∧ (t.portq .fabric).recs = rs ∧
        (t.portq .fabric).seq = ((s.portq .fabric).seq + 1) % 2 ^ 32 ∧ t.fab.out = x :: s.fab.out ∧ x.dst = q ∧ x.ty = 0x0E ∧
        x.body = (recBytes { r with seq := (s.portq .fabric).seq }).map BitVec.toNat))

/-- R456, R461-R463, R491: a remote move is written into the bound object of the member it names, or refused, and
acknowledged; the acknowledgement ends the move; twin pages and twin states are kept for another package and
acknowledged, and a refusal breaks the twin. An event without its occasion changes nothing: the model's choice,
notes/assumptions/1.md. -/
def Obligations.RemoteMovesAndTwins : Prop :=
  (∀ (s : State) (src vc dstH gid coll off mtag : Nat) (data : Bytes), serviceOn s = true →
    let c := Instr.remoteMoveReceive src vc dstH gid coll off mtag data
    (coll ∈ s.fab.purged → Runs c s s) ∧
    (coll ∉ s.fab.purged →
      ((∀ e ∈ s.gra.graphs, e.2.group = true → e.2.gid ≠ gid) → Runs c s (sendCtl src 0x09 0xFF [mtag, waREFUSED] s)) ∧
      ∀ g x, s.gra.graphs.find? (fun e => e.2.group && e.2.gid == gid) = some (g, x) →
        (instOf s g = none → Runs c s (sendCtl src 0x09 0xFF [mtag, waNOT_STARTED] s)) ∧
        ∀ n i o, instOf s g = some n → objOf s (n.binds.getD (dstH % 256) 0) = some (i, o) →
          (o.rw = false ∨ o.coll ≠ coll ∨ o.size < off + data.length ∨ x.nparam ≤ dstH % 256 →
            Runs c s (sendCtl src 0x09 0xFF [mtag, waREFUSED] s)) ∧
          ((dstH - 0xC0000000) / 256 = x.member → dstH % 256 < x.nparam → o.rw = true → o.coll = coll → o.freeing = false →
            o.closing = false → off + data.length ≤ o.size →
            Runs c s (sendCtl src 0x09 0xFF [mtag, 0] (objWrite s i off data))))) ∧
  (∀ (m : Msg) (s : State) (tag status : Nat), Heard m s →
    (∀ x : Move, tag < 65536 → s.obj.moves.find? (fun (x : Move) => x.remote && x.id % 65536 == tag) = some x →
      (status = 0 → Runs (.writeAck m tag status) s (afterRemote (heard m s) x (moveDone (heard m s) x))) ∧
      (status = waNOT_STARTED → Runs (.writeAck m tag status) s (heard m s)) ∧
      (status ≠ 0 → status ≠ waNOT_STARTED → Runs (.writeAck m tag status) s
        (afterRemote (heard m s) x (moveFailed (heard m s) x (.mig mrFAILED_FETCH))))) ∧
    (∀ a pn e, 65536 ≤ tag → s.fab.twinCopies.find? (fun c => c.2 == tag - 65536) = some (a, pn) →
      tget s.kve.pages pn = some e →
      (status = 0 → ∃ t, Runs (.writeAck m tag status) s t ∧ tget t.kve.pages pn = some { e with twinDone := true } ∧
        t.fab.twinPages = satAdd32 s.fab.twinPages 1 ∧ t.acc = s.acc ∧ ∀ j, j ≠ pn → tget t.kve.pages j = tget s.kve.pages j) ∧
      (status ≠ 0 → Runs (.writeAck m tag status) s (breakTwin (modFab (heard m s) fun b =>
        { b with twinCopies := b.twinCopies.filter (· != (a, pn)) }) a))) ∧
    ∀ a, Runs (.twinAck m a status) s (if status = 0 then releaseHeld (heard m s) a else breakTwin (heard m s) a)) ∧
  (∀ (s : State) (id : Nat) (x : Move), moveAt s id = some x →
    (x.remote = false → Runs (.remoteMoveRetry id) s s ∧ Runs (.remoteMoveTimeout id) s s) ∧
    (x.remote = true → (serviceOn s = true → Runs (.remoteMoveRetry id) s (sendRemote s x)) ∧
      Runs (.remoteMoveTimeout id) s (afterRemote s x (moveFailed s x (.mig mrFAILED_FETCH))))) ∧
  (∀ (s : State) (src acc coll la hh k mtag : Nat) (data : Bytes), serviceOn s = true →
    let c := Instr.twinPageReceive src acc coll la hh k mtag data
    (coll ∈ s.fab.purged → Runs c s s) ∧
    (coll ∉ s.fab.purged →
      (twinClass s la hh = none → Runs c s (sendCtl src 0x09 0xFF [mtag, waREFUSED] s)) ∧
      ∀ cl, twinClass s la hh = some cl →
        (twinOpen s src acc coll = false → Runs c s (sendCtl src 0x09 0xFF [mtag, waREFUSED] s)) ∧
        (twinOpen s src acc coll = true →
          (∀ pn e, heldTwinPage s src acc k = some (pn, e) → Runs c s (sendCtl src 0x09 0xFF [mtag, 0] { s with kve :=
            { s.kve with frames := mwrite s.kve.frames (frameKey s e.cls e.frame) (data.take (pageBytes s cl)) } })) ∧
          (heldTwinPage s src acc k = none →
            ((pageDenied s cl coll 1).isSome = true → Runs c s (sendCtl src 0x09 0xFF [mtag, waREFUSED] s)) ∧
            ((pageDenied s cl coll 1).isSome = false → ∃ t pn e, Runs c s (sendCtl src 0x09 0xFF [mtag, 0] t) ∧
              tget t.kve.pages pn = some e ∧ e.index = k ∧ e.cls = cl ∧ e.coll = coll ∧ e.acc = twinHolder src acc ∧
              e.twin = true))))) ∧
  ∀ (m : Msg) (s : State) (acc tpages : Nat) (entry : Bytes) (tokens : List Nat), Heard m s →
    let c := Instr.twinState m acc entry tpages tokens
    (bnum entry 0 1 = asDONE → Runs c s (sendCtl m.src 0x0A 0xFF [1, acc, 0] (dropTwin (heard m s) m.src acc))) ∧
    (bnum entry 0 1 ≠ asDONE →
      (twinOpen s m.src acc (bnum entry 3 1) = false → Runs c s (sendCtl m.src 0x0A 0xFF [1, acc, waREFUSED] (heard m s))) ∧
      (twinOpen s m.src acc (bnum entry 3 1) = true → ∃ t x, Runs c s (sendCtl m.src 0x0A 0xFF [1, acc, 0] t) ∧
        twinAt t m.src acc = some x ∧ x.entry = padTo 64 entry ∧ x.tpages = tpages ∧ x.tokens = tokens))

/-- R481: SEC_COLL_OPEN names a FREE collection and generates both key pairs from the TRNG; it ends STATE if the slot is
not FREE. -/
def Obligations.CollectionOpensWithFreshKeys : Prop :=
  ∀ (h : Hdr) (s : State) (coll : Nat), Accepted h {} s → coll ≤ 63 →
    let c := Instr.secCollOpen h coll
    ((tget s.sec.keys coll).isSome = true → Runs c s (answer h.port h.tag (Ans.err stSTATE) (entered h c s))) ∧
    (tget s.sec.keys coll = none → noOpening s = false → s.sec.trngFail = false →
      ∃ t, Runs c s (answer h.port h.tag (Ans.ok 0) t) ∧
        tget t.sec.keys coll = some { state := 1, xPriv := Config.trng s.fresh 32, kPriv := Config.trng (s.fresh + 1) 64,
                                      key := [], digest := none } ∧
        (∀ j, j ≠ coll → tget t.sec.keys j = tget s.sec.keys j) ∧ coll ∉ t.fab.purged ∧ t.fresh = s.fresh + 2 ∧
        t.obj = s.obj ∧ t.acc = s.acc)

/-- R476-R483, R491-R493: what keeps a collection from being opened; it is keyed by a blob wrapped for them and bound to
an attested digest, and closed: closure starts at once, and its end releases everything the collection held and frees
its slot. SEC_FW_STAGE writes the bundle to the inactive slot and stages it if it verifies; discard, commit and
fallback. An event without its occasion changes nothing: the model's choice, notes/assumptions/1.md. -/
def Obligations.SecurityCollectionsAndFirmware : Prop :=
  ((∀ (h : Hdr) (s : State) (coll : Nat), Accepted h {} s → coll ≤ 63 →
    let c := Instr.secCollOpen h coll
    (noOpening s = true → Runs c s (answer h.port h.tag (Ans.err stSTATE) (entered h c s))) ∧
    (noOpening s = false → tget s.sec.keys coll = none → s.sec.trngFail = true →
      Runs c s (answer h.port h.tag (Ans.err stENTROPY) (entered h c s)))) ∧
  (∀ (h : Hdr) (s : State) (d : Bytes) (coll : Nat), AcceptedData h { dlen := 1236 } s d → coll ≤ 63 →
    let c := Instr.secKeyInstall h coll
    let b := d.take 1236
    let ends (st : Nat) := Runs c s (answer h.port h.tag (Ans.err st) (enteredData h c s))
    (keyState s coll ≠ 1 → ends stSTATE) ∧
    ∀ k, tget s.sec.keys coll = some k → k.state = 1 →
      (bnum b 0 4 ≠ 0x5A524B57 ∨ bnum b 4 1 ≠ 1 ∨ bnum b 6 2 ≠ 0 ∨ bnum b 5 1 ≠ coll → ends stFORMAT) ∧
      (bnum b 0 4 = 0x5A524B57 → bnum b 4 1 = 1 → bnum b 6 2 = 0 → bnum b 5 1 = coll →
        (k.digest ≠ some (slice b 8 48) → ends stDIGEST) ∧
        (k.digest = some (slice b 8 48) →
          let opened := Config.gcmOpen (wrapKey k b coll) (slice b 1176 12) (b.take 56) (slice b 1188 32) (slice b 1220 16)
          (opened = none → ends stAUTH) ∧
          ∀ key, opened = some key → ∃ t, Runs c s (answer h.port h.tag (Ans.ok 0) t) ∧
            tget t.sec.keys coll = some { state := 2, xPriv := [], kPriv := [], key := key, digest := none } ∧
            ∀ j, j ≠ coll → tget t.sec.keys j = tget s.sec.keys j))) ∧
  (∀ (h : Hdr) (s : State) (coll : Nat), Accepted h {} s → coll ≤ 63 →
    let c := Instr.secCollClose h coll
    (keyState s coll = 0 → Runs c s (answer h.port h.tag (Ans.err stSTATE) (entered h c s))) ∧
    (keyState s coll = 3 → Runs c s (answer h.port h.tag (Ans.err stALREADY) (entered h c s))) ∧
    (keyState s coll = 1 → ∃ t, Runs c s (answer h.port h.tag (Ans.ok 0) t) ∧ keyState t coll = 0 ∧
      (∀ j, j ≠ coll → tget t.sec.keys j = tget s.sec.keys j) ∧ t.obj = s.obj) ∧
    (keyState s coll = 2 → Runs c s (startClosure coll 0 (some (h.port, h.tag)) (entered h c s)))) ∧
  (∀ (s : State) (coll cause : Nat) (cmd : Option (Port × Nat)),
    keyState (startClosure coll cause cmd s) coll = 3 ∧
    (∀ d site unit, cipherKey (startClosure coll cause cmd s) d site unit coll = none) ∧
    ∃ x ∈ (startClosure coll cause cmd s).sec.closures, x.coll = coll ∧ x.cause = cause ∧ x.start = s.tick ∧ x.cmd = cmd) ∧
  ∀ (s : State) (coll : Nat),
    ((∀ x ∈ s.sec.closures, x.coll ≠ coll) → Runs (.closureScrub coll) s s) ∧
    ∀ x, s.sec.closures.find? (fun x => x.coll == coll) = some x →
      (serviceOn s = false ∨ mayScrub s x = false → Runs (.closureScrub coll) s s) ∧
      (serviceOn s = true → mayScrub s x = true → Runs (.closureScrub coll) s (afterClosures (finishClosure s x))) ∧
      keyState (finishClosure s x) x.coll = 0 ∧ x.coll ∈ (finishClosure s x).fab.purged ∧
      (∀ i o, objAt (finishClosure s x) i = some o → o.coll ≠ x.coll) ∧
      (∀ e ∈ (finishClosure s x).wgt.adapters, e.2.coll ≠ x.coll) ∧
      ((finishClosure s x).sec.closures.all fun z => z.coll != x.coll) = true ∧
      (finishClosure s x).sec.nclosures = satAdd32 s.sec.nclosures 1) ∧
  ((∀ (h : Hdr) (s : State),
    (Accepted h { recovery := true } s → stageBusy s = false →
      Runs (.secFwStage h) s (reply h.port h.tag h.stream (Ans.err stREFUSED) (countCommand h.port s))) ∧
    ∀ d, AcceptedData h { recovery := true } s d →
      (stageBusy s = true → Runs (.secFwStage h) s (reply h.port h.tag h.stream (Ans.err stBUSY) (countCommand h.port s))) ∧
      (stageBusy s = false → slotSize < h.dlen →
        Runs (.secFwStage h) s (reply h.port h.tag h.stream (Ans.err stSIZE) (countCommand h.port s))) ∧
      (stageBusy s = false → h.dlen ≤ slotSize → ∃ t, Runs (.secFwStage h) s (answer h.port h.tag
          (if bundleOK s.sec d then Ans.ok 0 else Ans.err stREFUSED) t) ∧
        t = { enteredData h (.secFwStage h) s with sec := t.sec } ∧
        t.sec = { s.sec with slots := s.sec.slots.set (inactiveSlot s.sec) d
                             svn := s.sec.svn.set (inactiveSlot s.sec) (bnum d 5 1)
                             staged := bundleOK s.sec d })) ∧
  (∀ (h : Hdr) (s : State), Accepted h {} s →
    (s.sec.staged = true → Runs (.secFwDiscard h) s (replied h (.secFwDiscard h) s 0 fun u =>
      { u with sec := { u.sec with staged := false } })) ∧
    (s.sec.staged = false → Runs (.secFwDiscard h) s (answer h.port h.tag (Ans.err stSTATE) (entered h (.secFwDiscard h) s))) ∧
    (s.sec.staged = true ∨ s.sec.fallback = true →
      Runs (.secFwCommit h) s (answer h.port h.tag (Ans.err stSTATE) (entered h (.secFwCommit h) s))) ∧
    (s.sec.staged = false → s.sec.fallback = false →
      let svn := s.sec.svn.getD s.sec.running 0
      (128 < svn → Runs (.secFwCommit h) s (answer h.port h.tag (Ans.err stLIMIT) (entered h (.secFwCommit h) s))) ∧
      (svn ≤ 128 → Runs (.secFwCommit h) s (replied h (.secFwCommit h) s 0 fun u =>
        { u with sec := { u.sec with rollback := max u.sec.rollback svn } })))) ∧
  ∀ s : State,
    (s.sec.staged = true → s.pkg.phase = .booting ∨ s.pkg.phase = .stuck →
      Runs .fwFallback s (softReset 4 { s with sec := { s.sec with staged := false, fallback := true } })) ∧
    (s.sec.staged = false ∨ (s.pkg.phase ≠ .booting ∧ s.pkg.phase ≠ .stuck) → Runs .fwFallback s s))

/-- R474, R486, R494-R499, R503: nonces, tokens, lifecycle moves, debug sessions, certificates and attested records; the
third failed token in a row refuses nonces until the lock ends. An event without its occasion changes nothing: the
model's choice, notes/assumptions/1.md. -/
def Obligations.TokensNoncesAndRecords : Prop :=
  (∀ (h : Hdr) (s : State), Accepted h { anyone := true, recovery := true } s →
    (s.sec.locked = true → Runs (.secDebugNonce h) s (answer h.port h.tag (Ans.err stLOCKED) (entered h (.secDebugNonce h) s))) ∧
    (s.sec.locked = false → s.sec.trngFail = true →
      Runs (.secDebugNonce h) s (answer h.port h.tag (Ans.err stENTROPY) (entered h (.secDebugNonce h) s))) ∧
    (s.sec.locked = false → s.sec.trngFail = false → ∃ t,
      Runs (.secDebugNonce h) s (answer h.port h.tag { small := Config.trng s.fresh 32 } t) ∧
      t.sec = { s.sec with nonce := some (Config.trng s.fresh 32) } ∧ t.fresh = s.fresh + 1) ∧
    (hasIdentity s.sec = false → Runs (.secCerts h) s (answer h.port h.tag (Ans.err stNO_IDENTITY) (entered h (.secCerts h) s))) ∧
    (hasIdentity s.sec = true → h.port ≠ .mgt → Runs (.secCerts h) s (answer h.port h.tag
      { rdata := some (Config.certs (publicKeys devSeeds ++ publicKeys (aliasSeeds s.sec))) } (entered h (.secCerts h) s)))) ∧
  (∀ (ok : Bool) (s : State), (countAttempt ok s).sec.nonce = none ∧
    (ok = true → (countAttempt ok s).sec.fails = 0 ∧ (countAttempt ok s).sec.locked = s.sec.locked) ∧
    (ok = false → (countAttempt ok s).sec.fails = s.sec.fails + 1 ∧
      (countAttempt ok s).sec.unlockFail = satAdd32 s.sec.unlockFail 1 ∧
      ((countAttempt ok s).sec.locked = true ↔ s.sec.locked = true ∨ 2 ≤ s.sec.fails))) ∧
  (∀ s : State, Runs .nonceLapse s { s with sec := { s.sec with nonce := none } } ∧
    (s.sec.locked = true → Runs .nonceLockEnd s { s with sec := { s.sec with locked := false, fails := 0 } }) ∧
    (s.sec.locked = false → Runs .nonceLockEnd s s) ∧
    Runs .d2SessionExpiry s (closeD2 s) ∧
    (s.sec.level = 2 → closeD2 s =
      { s with sec := { s.sec with level := if s.mon.session then 1 else 0, auth := 0 } }) ∧
    (s.sec.level ≠ 2 → closeD2 s = s) ∧
    ∀ h, Accepted h {} s →
      (s.sec.level = 2 → Runs (.secDebugClose h) s (replied h (.secDebugClose h) s 0 closeD2)) ∧
      (s.sec.level ≠ 2 → Runs (.secDebugClose h) s
        (answer h.port h.tag (Ans.err stSTATE) (entered h (.secDebugClose h) s)))) ∧
  (∀ (h : Hdr) (s : State) (d : Bytes), AcceptedData h { dlen := 5453 } s d →
    let u := enteredData h (.secDebugUnlock h) s
    let v := enteredData h (.secLifecycle h) s
    (unlockStatus s d ≠ stOK →
      Runs (.secDebugUnlock h) s (answer h.port h.tag (Ans.err (unlockStatus s d)) (countAttempt false u))) ∧
    (unlockStatus s d = stOK →
      let w := modSec (countAttempt true u) fun x => { x with pendingD2 := some (bnum d 5 1, some (h.port, h.tag)) }
      (s.sec.lifecycle ≠ lcPRODUCTION → Runs (.secDebugUnlock h) s (openD2 (bnum d 5 1) (some (h.port, h.tag)) w)) ∧
      (s.sec.lifecycle = lcPRODUCTION → Runs (.secDebugUnlock h) s (afterClosures (closeAll 1 w)))) ∧
    (lifecycleStatus s d ≠ stOK →
      Runs (.secLifecycle h) s (answer h.port h.tag (Ans.err (lifecycleStatus s d)) (countAttempt false v))) ∧
    (lifecycleStatus s d = stOK →
      (bnum d 7 1 ≠ lcRETURNED → Runs (.secLifecycle h) s (moveLifecycle (bnum d 7 1) h.port h.tag (countAttempt true v))) ∧
      (bnum d 7 1 = lcRETURNED → Runs (.secLifecycle h) s (afterClosures (closeAll 0 (modSec (countAttempt true v) fun x =>
        { x with pendingLc := some (bnum d 7 1, h.port, h.tag) })))))) ∧
  (∀ (s : State) (auth : Nat) (who : Option (Port × Nat)), (openD2 auth who s).sec =
    { s.sec with level := 2, flag := true, auth := auth, pendingD2 := none, unlocks := satAdd32 s.sec.unlocks 1 }) ∧
  ∀ (h : Hdr) (s : State) (d : Bytes) (coll : Nat), AcceptedData h { anyone := coll == 0xFF, dlen := 20 } s d →
    let c := Instr.secAttest h coll
    let nonce := d.take (d.length - 4)
    let ends (st : Nat) := Runs c s (answer h.port h.tag (Ans.err st) (enteredData h c s))
    (nonce.length < 16 ∨ 64 < nonce.length ∨ (63 < coll ∧ coll ≠ 0xFF) → ends stPARAM) ∧
    (16 ≤ nonce.length → nonce.length ≤ 64 → coll ≤ 63 ∨ coll = 0xFF →
      (s.sec.epochDurable = false → ends stBUSY) ∧
      (s.sec.epochDurable = true →
        (hasIdentity s.sec = false → ends stNO_IDENTITY) ∧
        (hasIdentity s.sec = true →
          (coll ≠ 0xFF → keyState s coll = 3 → ends stSTATE) ∧
          (coll = 0xFF ∨ keyState s coll ≠ 3 → h.port ≠ .mgt → ∃ t,
            Runs c s (answer h.port h.tag { rdata := some (signRecord s (recordPayload s nonce coll)) } t) ∧
            t.sec.attests = satAdd32 s.sec.attests 1 ∧ (coll = 0xFF → t.sec.keys = s.sec.keys) ∧
            (coll ≠ 0xFF → ∀ k, tget s.sec.keys coll = some k → k.state = 1 → tget t.sec.keys coll =
              some { k with digest := some (Config.sha384 (recordPayload s nonce coll)) })))))
end

