-- ==== Sys2Proof/Laws/Fabric.lean ====
section
/-! SUPPORT. What sending on the fabric leaves: a flit put on the wire, a port pumped, a frame launched and a control message
sent change the fabric block only, and of a port neither its state nor what it has received. -/

namespace Sys2Proof.Machine

open Sys2Proof

@[simp] theorem putFlit_state (x : FPort) (h : FlitHdr) (b : Bytes) : (putFlit x h b).state = x.state := rfl
@[simp] theorem putFlit_downs (x : FPort) (h : FlitHdr) (b : Bytes) : (putFlit x h b).downs = x.downs := rfl
@[simp] theorem putFlit_dets (x : FPort) (h : FlitHdr) (b : Bytes) : (putFlit x h b).dets = x.dets := rfl
@[simp] theorem putFlit_rxSeq (x : FPort) (h : FlitHdr) (b : Bytes) : (putFlit x h b).rxSeq = x.rxSeq := rfl
@[simp] theorem putFlit_txSeq (x : FPort) (h : FlitHdr) (b : Bytes) : (putFlit x h b).txSeq = x.txSeq := rfl
@[simp] theorem putFlit_rtx (x : FPort) (h : FlitHdr) (b : Bytes) : (putFlit x h b).rtx = x.rtx := rfl
@[simp] theorem putFlit_txQ (x : FPort) (h : FlitHdr) (b : Bytes) : (putFlit x h b).txQ = x.txQ := rfl
@[simp] theorem putFlit_nakRun (x : FPort) (h : FlitHdr) (b : Bytes) : (putFlit x h b).nakRun = x.nakRun := rfl

/-- R441, R443: what pumping a port leaves as it is. -/
theorem pump_keeps (n : Nat) (x : FPort) : (pump n x).state = x.state ∧ (pump n x).downs = x.downs ∧ (pump n x).dets = x.dets ∧
    (pump n x).rxSeq = x.rxSeq ∧ (pump n x).nbPkg = x.nbPkg ∧ (pump n x).nbPort = x.nbPort ∧ (pump n x).frames = x.frames ∧
    (pump n x).heldRx = x.heldRx := by
  induction n generalizing x with
  | zero => simp [pump]
  | succ n ih =>
    simp only [pump]
    split
    · simp
    · rename_i f i _
      split
      · simp
      · have h := ih { sendFlit x f with slot := i }
        refine ⟨h.1.trans ?_, h.2.1.trans ?_, h.2.2.1.trans ?_, h.2.2.2.1.trans ?_, h.2.2.2.2.1.trans ?_,
          h.2.2.2.2.2.1.trans ?_, h.2.2.2.2.2.2.1.trans ?_, h.2.2.2.2.2.2.2.trans ?_⟩ <;> rfl

@[simp] theorem pump_state (n : Nat) (x : FPort) : (pump n x).state = x.state := (pump_keeps n x).1
@[simp] theorem pump_downs (n : Nat) (x : FPort) : (pump n x).downs = x.downs := (pump_keeps n x).2.1

/-- R442: a frame launched changes the ports only. -/
theorem launch_frame (vc dst coll : Nat) (b : Bytes) (s : State) :
    launch vc dst coll b s = { s with fab := { s.fab with ports := (launch vc dst coll b s).fab.ports } } := by
  unfold launch
  split
  · rfl
  · simp only [pumpPort, modFPort, modFab]

/-- R447: a control message sent changes the ports and what has been sent. -/
theorem sendMsg_frame (m : CMsg) (s : State) :
    sendMsg m s = { s with fab := { s.fab with out := m :: s.fab.out, ports := (sendMsg m s).fab.ports } } :=
  launch_frame ..

/-- R447: sending a control message changes the fabric block only. -/
theorem sendCtl_frame (dst ty group : Nat) (body : List Nat) (s : State) :
    sendCtl dst ty group body s = { s with fab := (sendCtl dst ty group body s).fab } := by
  simp only [sendCtl]
  split
  · rfl
  · rw [sendMsg_frame]

end Sys2Proof.Machine
end

