-- ==== Sys2Proof/Laws/State.lean ====
section
/-! SUPPORT. What each update of the state leaves: one lemma for each field. -/

namespace Sys2Proof.Machine

open Sys2Proof

@[simp] theorem modVat_pending (s : State) (v : Nat) (f : Vat → Vat) : (s.modVat v f).pending = s.pending := rfl
@[simp] theorem modVat_fresh (s : State) (v : Nat) (f : Vat → Vat) : (s.modVat v f).fresh = s.fresh := rfl
@[simp] theorem modVat_tick (s : State) (v : Nat) (f : Vat → Vat) : (s.modVat v f).tick = s.tick := rfl
@[simp] theorem modVat_part (s : State) (v : Nat) (f : Vat → Vat) : (s.modVat v f).part = s.part := rfl
@[simp] theorem modVat_turners (s : State) (v : Nat) (f : Vat → Vat) : (s.modVat v f).turners = s.turners := rfl
@[simp] theorem modVat_near (s : State) (v : Nat) (f : Vat → Vat) : (s.modVat v f).near = s.near := rfl
@[simp] theorem modVat_main (s : State) (v : Nat) (f : Vat → Vat) : (s.modVat v f).main = s.main := rfl
@[simp] theorem modVat_sync (s : State) (v : Nat) (f : Vat → Vat) : (s.modVat v f).sync = s.sync := rfl
@[simp] theorem modVat_gra (s : State) (v : Nat) (f : Vat → Vat) : (s.modVat v f).gra = s.gra := rfl
@[simp] theorem modVat_obj (s : State) (v : Nat) (f : Vat → Vat) : (s.modVat v f).obj = s.obj := rfl
@[simp] theorem modVat_cave (s : State) (v : Nat) (f : Vat → Vat) : (s.modVat v f).cave = s.cave := rfl
@[simp] theorem modVat_dx (s : State) (v : Nat) (f : Vat → Vat) : (s.modVat v f).dx = s.dx := rfl
@[simp] theorem modVat_cmp (s : State) (v : Nat) (f : Vat → Vat) : (s.modVat v f).cmp = s.cmp := rfl
@[simp] theorem modVat_kve (s : State) (v : Nat) (f : Vat → Vat) : (s.modVat v f).kve = s.kve := rfl
@[simp] theorem modVat_acc (s : State) (v : Nat) (f : Vat → Vat) : (s.modVat v f).acc = s.acc := rfl
@[simp] theorem modVat_wgt (s : State) (v : Nat) (f : Vat → Vat) : (s.modVat v f).wgt = s.wgt := rfl
@[simp] theorem modVat_fab (s : State) (v : Nat) (f : Vat → Vat) : (s.modVat v f).fab = s.fab := rfl
@[simp] theorem modVat_sec (s : State) (v : Nat) (f : Vat → Vat) : (s.modVat v f).sec = s.sec := rfl
@[simp] theorem modVat_pwr (s : State) (v : Nat) (f : Vat → Vat) : (s.modVat v f).pwr = s.pwr := rfl
@[simp] theorem modVat_flt (s : State) (v : Nat) (f : Vat → Vat) : (s.modVat v f).flt = s.flt := rfl
@[simp] theorem modVat_host (s : State) (v : Nat) (f : Vat → Vat) : (s.modVat v f).host = s.host := rfl
@[simp] theorem modVat_mon (s : State) (v : Nat) (f : Vat → Vat) : (s.modVat v f).mon = s.mon := rfl
@[simp] theorem modVat_pkg (s : State) (v : Nat) (f : Vat → Vat) : (s.modVat v f).pkg = s.pkg := rfl
@[simp] theorem modVat_rs (s : State) (v : Nat) (f : Vat → Vat) : (s.modVat v f).rs = s.rs := rfl

@[simp] theorem modTrn_pending (s : State) (t : Nat) (f : Turner → Turner) : (s.modTrn t f).pending = s.pending := rfl
@[simp] theorem modTrn_fresh (s : State) (t : Nat) (f : Turner → Turner) : (s.modTrn t f).fresh = s.fresh := rfl
@[simp] theorem modTrn_tick (s : State) (t : Nat) (f : Turner → Turner) : (s.modTrn t f).tick = s.tick := rfl
@[simp] theorem modTrn_part (s : State) (t : Nat) (f : Turner → Turner) : (s.modTrn t f).part = s.part := rfl
@[simp] theorem modTrn_vats (s : State) (t : Nat) (f : Turner → Turner) : (s.modTrn t f).vats = s.vats := rfl
@[simp] theorem modTrn_near (s : State) (t : Nat) (f : Turner → Turner) : (s.modTrn t f).near = s.near := rfl
@[simp] theorem modTrn_main (s : State) (t : Nat) (f : Turner → Turner) : (s.modTrn t f).main = s.main := rfl
@[simp] theorem modTrn_sync (s : State) (t : Nat) (f : Turner → Turner) : (s.modTrn t f).sync = s.sync := rfl
@[simp] theorem modTrn_gra (s : State) (t : Nat) (f : Turner → Turner) : (s.modTrn t f).gra = s.gra := rfl
@[simp] theorem modTrn_obj (s : State) (t : Nat) (f : Turner → Turner) : (s.modTrn t f).obj = s.obj := rfl
@[simp] theorem modTrn_cave (s : State) (t : Nat) (f : Turner → Turner) : (s.modTrn t f).cave = s.cave := rfl
@[simp] theorem modTrn_dx (s : State) (t : Nat) (f : Turner → Turner) : (s.modTrn t f).dx = s.dx := rfl
@[simp] theorem modTrn_cmp (s : State) (t : Nat) (f : Turner → Turner) : (s.modTrn t f).cmp = s.cmp := rfl
@[simp] theorem modTrn_kve (s : State) (t : Nat) (f : Turner → Turner) : (s.modTrn t f).kve = s.kve := rfl
@[simp] theorem modTrn_acc (s : State) (t : Nat) (f : Turner → Turner) : (s.modTrn t f).acc = s.acc := rfl
@[simp] theorem modTrn_wgt (s : State) (t : Nat) (f : Turner → Turner) : (s.modTrn t f).wgt = s.wgt := rfl
@[simp] theorem modTrn_fab (s : State) (t : Nat) (f : Turner → Turner) : (s.modTrn t f).fab = s.fab := rfl
@[simp] theorem modTrn_sec (s : State) (t : Nat) (f : Turner → Turner) : (s.modTrn t f).sec = s.sec := rfl
@[simp] theorem modTrn_pwr (s : State) (t : Nat) (f : Turner → Turner) : (s.modTrn t f).pwr = s.pwr := rfl
@[simp] theorem modTrn_flt (s : State) (t : Nat) (f : Turner → Turner) : (s.modTrn t f).flt = s.flt := rfl
@[simp] theorem modTrn_host (s : State) (t : Nat) (f : Turner → Turner) : (s.modTrn t f).host = s.host := rfl
@[simp] theorem modTrn_mon (s : State) (t : Nat) (f : Turner → Turner) : (s.modTrn t f).mon = s.mon := rfl
@[simp] theorem modTrn_pkg (s : State) (t : Nat) (f : Turner → Turner) : (s.modTrn t f).pkg = s.pkg := rfl
@[simp] theorem modTrn_rs (s : State) (t : Nat) (f : Turner → Turner) : (s.modTrn t f).rs = s.rs := rfl

@[simp] theorem modNear_pending (s : State) (c : Nat) (f : Memory → Memory) : (s.modNear c f).pending = s.pending := rfl
@[simp] theorem modNear_fresh (s : State) (c : Nat) (f : Memory → Memory) : (s.modNear c f).fresh = s.fresh := rfl
@[simp] theorem modNear_tick (s : State) (c : Nat) (f : Memory → Memory) : (s.modNear c f).tick = s.tick := rfl
@[simp] theorem modNear_part (s : State) (c : Nat) (f : Memory → Memory) : (s.modNear c f).part = s.part := rfl
@[simp] theorem modNear_vats (s : State) (c : Nat) (f : Memory → Memory) : (s.modNear c f).vats = s.vats := rfl
@[simp] theorem modNear_turners (s : State) (c : Nat) (f : Memory → Memory) : (s.modNear c f).turners = s.turners := rfl
@[simp] theorem modNear_main (s : State) (c : Nat) (f : Memory → Memory) : (s.modNear c f).main = s.main := rfl
@[simp] theorem modNear_sync (s : State) (c : Nat) (f : Memory → Memory) : (s.modNear c f).sync = s.sync := rfl
@[simp] theorem modNear_gra (s : State) (c : Nat) (f : Memory → Memory) : (s.modNear c f).gra = s.gra := rfl
@[simp] theorem modNear_obj (s : State) (c : Nat) (f : Memory → Memory) : (s.modNear c f).obj = s.obj := rfl
@[simp] theorem modNear_cave (s : State) (c : Nat) (f : Memory → Memory) : (s.modNear c f).cave = s.cave := rfl
@[simp] theorem modNear_dx (s : State) (c : Nat) (f : Memory → Memory) : (s.modNear c f).dx = s.dx := rfl
@[simp] theorem modNear_cmp (s : State) (c : Nat) (f : Memory → Memory) : (s.modNear c f).cmp = s.cmp := rfl
@[simp] theorem modNear_kve (s : State) (c : Nat) (f : Memory → Memory) : (s.modNear c f).kve = s.kve := rfl
@[simp] theorem modNear_acc (s : State) (c : Nat) (f : Memory → Memory) : (s.modNear c f).acc = s.acc := rfl
@[simp] theorem modNear_wgt (s : State) (c : Nat) (f : Memory → Memory) : (s.modNear c f).wgt = s.wgt := rfl
@[simp] theorem modNear_fab (s : State) (c : Nat) (f : Memory → Memory) : (s.modNear c f).fab = s.fab := rfl
@[simp] theorem modNear_sec (s : State) (c : Nat) (f : Memory → Memory) : (s.modNear c f).sec = s.sec := rfl
@[simp] theorem modNear_pwr (s : State) (c : Nat) (f : Memory → Memory) : (s.modNear c f).pwr = s.pwr := rfl
@[simp] theorem modNear_flt (s : State) (c : Nat) (f : Memory → Memory) : (s.modNear c f).flt = s.flt := rfl
@[simp] theorem modNear_host (s : State) (c : Nat) (f : Memory → Memory) : (s.modNear c f).host = s.host := rfl
@[simp] theorem modNear_mon (s : State) (c : Nat) (f : Memory → Memory) : (s.modNear c f).mon = s.mon := rfl
@[simp] theorem modNear_pkg (s : State) (c : Nat) (f : Memory → Memory) : (s.modNear c f).pkg = s.pkg := rfl
@[simp] theorem modNear_rs (s : State) (c : Nat) (f : Memory → Memory) : (s.modNear c f).rs = s.rs := rfl

@[simp] theorem nearWrite_pending (s : State) (c a : Nat) (bs : Bytes) : (s.nearWrite c a bs).pending = s.pending := rfl
@[simp] theorem nearWrite_fresh (s : State) (c a : Nat) (bs : Bytes) : (s.nearWrite c a bs).fresh = s.fresh := rfl
@[simp] theorem nearWrite_tick (s : State) (c a : Nat) (bs : Bytes) : (s.nearWrite c a bs).tick = s.tick := rfl
@[simp] theorem nearWrite_part (s : State) (c a : Nat) (bs : Bytes) : (s.nearWrite c a bs).part = s.part := rfl
@[simp] theorem nearWrite_vats (s : State) (c a : Nat) (bs : Bytes) : (s.nearWrite c a bs).vats = s.vats := rfl
@[simp] theorem nearWrite_turners (s : State) (c a : Nat) (bs : Bytes) : (s.nearWrite c a bs).turners = s.turners := rfl
@[simp] theorem nearWrite_main (s : State) (c a : Nat) (bs : Bytes) : (s.nearWrite c a bs).main = s.main := rfl
@[simp] theorem nearWrite_sync (s : State) (c a : Nat) (bs : Bytes) : (s.nearWrite c a bs).sync = s.sync := rfl
@[simp] theorem nearWrite_gra (s : State) (c a : Nat) (bs : Bytes) : (s.nearWrite c a bs).gra = s.gra := rfl
@[simp] theorem nearWrite_obj (s : State) (c a : Nat) (bs : Bytes) : (s.nearWrite c a bs).obj = s.obj := rfl
@[simp] theorem nearWrite_cave (s : State) (c a : Nat) (bs : Bytes) : (s.nearWrite c a bs).cave = s.cave := rfl
@[simp] theorem nearWrite_dx (s : State) (c a : Nat) (bs : Bytes) : (s.nearWrite c a bs).dx = s.dx := rfl
@[simp] theorem nearWrite_cmp (s : State) (c a : Nat) (bs : Bytes) : (s.nearWrite c a bs).cmp = s.cmp := rfl
@[simp] theorem nearWrite_kve (s : State) (c a : Nat) (bs : Bytes) : (s.nearWrite c a bs).kve = s.kve := rfl
@[simp] theorem nearWrite_acc (s : State) (c a : Nat) (bs : Bytes) : (s.nearWrite c a bs).acc = s.acc := rfl
@[simp] theorem nearWrite_wgt (s : State) (c a : Nat) (bs : Bytes) : (s.nearWrite c a bs).wgt = s.wgt := rfl
@[simp] theorem nearWrite_fab (s : State) (c a : Nat) (bs : Bytes) : (s.nearWrite c a bs).fab = s.fab := rfl
@[simp] theorem nearWrite_sec (s : State) (c a : Nat) (bs : Bytes) : (s.nearWrite c a bs).sec = s.sec := rfl
@[simp] theorem nearWrite_pwr (s : State) (c a : Nat) (bs : Bytes) : (s.nearWrite c a bs).pwr = s.pwr := rfl
@[simp] theorem nearWrite_flt (s : State) (c a : Nat) (bs : Bytes) : (s.nearWrite c a bs).flt = s.flt := rfl
@[simp] theorem nearWrite_host (s : State) (c a : Nat) (bs : Bytes) : (s.nearWrite c a bs).host = s.host := rfl
@[simp] theorem nearWrite_mon (s : State) (c a : Nat) (bs : Bytes) : (s.nearWrite c a bs).mon = s.mon := rfl
@[simp] theorem nearWrite_pkg (s : State) (c a : Nat) (bs : Bytes) : (s.nearWrite c a bs).pkg = s.pkg := rfl
@[simp] theorem nearWrite_rs (s : State) (c a : Nat) (bs : Bytes) : (s.nearWrite c a bs).rs = s.rs := rfl

@[simp] theorem modDx_pending (s : State) (e : Nat) (f : Dx → Dx) : (s.modDx e f).pending = s.pending := rfl
@[simp] theorem modDx_fresh (s : State) (e : Nat) (f : Dx → Dx) : (s.modDx e f).fresh = s.fresh := rfl
@[simp] theorem modDx_tick (s : State) (e : Nat) (f : Dx → Dx) : (s.modDx e f).tick = s.tick := rfl
@[simp] theorem modDx_part (s : State) (e : Nat) (f : Dx → Dx) : (s.modDx e f).part = s.part := rfl
@[simp] theorem modDx_vats (s : State) (e : Nat) (f : Dx → Dx) : (s.modDx e f).vats = s.vats := rfl
@[simp] theorem modDx_turners (s : State) (e : Nat) (f : Dx → Dx) : (s.modDx e f).turners = s.turners := rfl
@[simp] theorem modDx_near (s : State) (e : Nat) (f : Dx → Dx) : (s.modDx e f).near = s.near := rfl
@[simp] theorem modDx_main (s : State) (e : Nat) (f : Dx → Dx) : (s.modDx e f).main = s.main := rfl
@[simp] theorem modDx_sync (s : State) (e : Nat) (f : Dx → Dx) : (s.modDx e f).sync = s.sync := rfl
@[simp] theorem modDx_gra (s : State) (e : Nat) (f : Dx → Dx) : (s.modDx e f).gra = s.gra := rfl
@[simp] theorem modDx_obj (s : State) (e : Nat) (f : Dx → Dx) : (s.modDx e f).obj = s.obj := rfl
@[simp] theorem modDx_cave (s : State) (e : Nat) (f : Dx → Dx) : (s.modDx e f).cave = s.cave := rfl
@[simp] theorem modDx_cmp (s : State) (e : Nat) (f : Dx → Dx) : (s.modDx e f).cmp = s.cmp := rfl
@[simp] theorem modDx_kve (s : State) (e : Nat) (f : Dx → Dx) : (s.modDx e f).kve = s.kve := rfl
@[simp] theorem modDx_acc (s : State) (e : Nat) (f : Dx → Dx) : (s.modDx e f).acc = s.acc := rfl
@[simp] theorem modDx_wgt (s : State) (e : Nat) (f : Dx → Dx) : (s.modDx e f).wgt = s.wgt := rfl
@[simp] theorem modDx_fab (s : State) (e : Nat) (f : Dx → Dx) : (s.modDx e f).fab = s.fab := rfl
@[simp] theorem modDx_sec (s : State) (e : Nat) (f : Dx → Dx) : (s.modDx e f).sec = s.sec := rfl
@[simp] theorem modDx_pwr (s : State) (e : Nat) (f : Dx → Dx) : (s.modDx e f).pwr = s.pwr := rfl
@[simp] theorem modDx_flt (s : State) (e : Nat) (f : Dx → Dx) : (s.modDx e f).flt = s.flt := rfl
@[simp] theorem modDx_host (s : State) (e : Nat) (f : Dx → Dx) : (s.modDx e f).host = s.host := rfl
@[simp] theorem modDx_mon (s : State) (e : Nat) (f : Dx → Dx) : (s.modDx e f).mon = s.mon := rfl
@[simp] theorem modDx_pkg (s : State) (e : Nat) (f : Dx → Dx) : (s.modDx e f).pkg = s.pkg := rfl
@[simp] theorem modDx_rs (s : State) (e : Nat) (f : Dx → Dx) : (s.modDx e f).rs = s.rs := rfl

@[simp] theorem advance_pending (s : State)  : (advance s).pending = s.pending := rfl
@[simp] theorem advance_tick (s : State)  : (advance s).tick = s.tick := rfl
@[simp] theorem advance_part (s : State)  : (advance s).part = s.part := rfl
@[simp] theorem advance_vats (s : State)  : (advance s).vats = s.vats := rfl
@[simp] theorem advance_turners (s : State)  : (advance s).turners = s.turners := rfl
@[simp] theorem advance_near (s : State)  : (advance s).near = s.near := rfl
@[simp] theorem advance_main (s : State)  : (advance s).main = s.main := rfl
@[simp] theorem advance_sync (s : State)  : (advance s).sync = s.sync := rfl
@[simp] theorem advance_gra (s : State)  : (advance s).gra = s.gra := rfl
@[simp] theorem advance_obj (s : State)  : (advance s).obj = s.obj := rfl
@[simp] theorem advance_cave (s : State)  : (advance s).cave = s.cave := rfl
@[simp] theorem advance_dx (s : State)  : (advance s).dx = s.dx := rfl
@[simp] theorem advance_cmp (s : State)  : (advance s).cmp = s.cmp := rfl
@[simp] theorem advance_kve (s : State)  : (advance s).kve = s.kve := rfl
@[simp] theorem advance_acc (s : State)  : (advance s).acc = s.acc := rfl
@[simp] theorem advance_wgt (s : State)  : (advance s).wgt = s.wgt := rfl
@[simp] theorem advance_fab (s : State)  : (advance s).fab = s.fab := rfl
@[simp] theorem advance_sec (s : State)  : (advance s).sec = s.sec := rfl
@[simp] theorem advance_pwr (s : State)  : (advance s).pwr = s.pwr := rfl
@[simp] theorem advance_flt (s : State)  : (advance s).flt = s.flt := rfl
@[simp] theorem advance_host (s : State)  : (advance s).host = s.host := rfl
@[simp] theorem advance_mon (s : State)  : (advance s).mon = s.mon := rfl
@[simp] theorem advance_pkg (s : State)  : (advance s).pkg = s.pkg := rfl
@[simp] theorem advance_rs (s : State)  : (advance s).rs = s.rs := rfl

@[simp] theorem modPort_pending (s : State) (p : Port) (f : PortQ → PortQ) : (s.modPort p f).pending = s.pending := rfl
@[simp] theorem modPort_fresh (s : State) (p : Port) (f : PortQ → PortQ) : (s.modPort p f).fresh = s.fresh := rfl
@[simp] theorem modPort_tick (s : State) (p : Port) (f : PortQ → PortQ) : (s.modPort p f).tick = s.tick := rfl
@[simp] theorem modPort_part (s : State) (p : Port) (f : PortQ → PortQ) : (s.modPort p f).part = s.part := rfl
@[simp] theorem modPort_vats (s : State) (p : Port) (f : PortQ → PortQ) : (s.modPort p f).vats = s.vats := rfl
@[simp] theorem modPort_turners (s : State) (p : Port) (f : PortQ → PortQ) : (s.modPort p f).turners = s.turners := rfl
@[simp] theorem modPort_near (s : State) (p : Port) (f : PortQ → PortQ) : (s.modPort p f).near = s.near := rfl
@[simp] theorem modPort_main (s : State) (p : Port) (f : PortQ → PortQ) : (s.modPort p f).main = s.main := rfl
@[simp] theorem modPort_sync (s : State) (p : Port) (f : PortQ → PortQ) : (s.modPort p f).sync = s.sync := rfl
@[simp] theorem modPort_gra (s : State) (p : Port) (f : PortQ → PortQ) : (s.modPort p f).gra = s.gra := rfl
@[simp] theorem modPort_obj (s : State) (p : Port) (f : PortQ → PortQ) : (s.modPort p f).obj = s.obj := rfl
@[simp] theorem modPort_cave (s : State) (p : Port) (f : PortQ → PortQ) : (s.modPort p f).cave = s.cave := rfl
@[simp] theorem modPort_dx (s : State) (p : Port) (f : PortQ → PortQ) : (s.modPort p f).dx = s.dx := rfl
@[simp] theorem modPort_cmp (s : State) (p : Port) (f : PortQ → PortQ) : (s.modPort p f).cmp = s.cmp := rfl
@[simp] theorem modPort_kve (s : State) (p : Port) (f : PortQ → PortQ) : (s.modPort p f).kve = s.kve := rfl
@[simp] theorem modPort_acc (s : State) (p : Port) (f : PortQ → PortQ) : (s.modPort p f).acc = s.acc := rfl
@[simp] theorem modPort_wgt (s : State) (p : Port) (f : PortQ → PortQ) : (s.modPort p f).wgt = s.wgt := rfl
@[simp] theorem modPort_fab (s : State) (p : Port) (f : PortQ → PortQ) : (s.modPort p f).fab = s.fab := rfl
@[simp] theorem modPort_sec (s : State) (p : Port) (f : PortQ → PortQ) : (s.modPort p f).sec = s.sec := rfl
@[simp] theorem modPort_pwr (s : State) (p : Port) (f : PortQ → PortQ) : (s.modPort p f).pwr = s.pwr := rfl
@[simp] theorem modPort_flt (s : State) (p : Port) (f : PortQ → PortQ) : (s.modPort p f).flt = s.flt := rfl
@[simp] theorem modPort_mon (s : State) (p : Port) (f : PortQ → PortQ) : (s.modPort p f).mon = s.mon := rfl
@[simp] theorem modPort_pkg (s : State) (p : Port) (f : PortQ → PortQ) : (s.modPort p f).pkg = s.pkg := rfl
@[simp] theorem modPort_rs (s : State) (p : Port) (f : PortQ → PortQ) : (s.modPort p f).rs = s.rs := rfl

@[simp] theorem modFab_pending (s : State) (f : Fab → Fab) : (modFab s f).pending = s.pending := rfl
@[simp] theorem modFab_fresh (s : State) (f : Fab → Fab) : (modFab s f).fresh = s.fresh := rfl
@[simp] theorem modFab_tick (s : State) (f : Fab → Fab) : (modFab s f).tick = s.tick := rfl
@[simp] theorem modFab_part (s : State) (f : Fab → Fab) : (modFab s f).part = s.part := rfl
@[simp] theorem modFab_vats (s : State) (f : Fab → Fab) : (modFab s f).vats = s.vats := rfl
@[simp] theorem modFab_turners (s : State) (f : Fab → Fab) : (modFab s f).turners = s.turners := rfl
@[simp] theorem modFab_near (s : State) (f : Fab → Fab) : (modFab s f).near = s.near := rfl
@[simp] theorem modFab_main (s : State) (f : Fab → Fab) : (modFab s f).main = s.main := rfl
@[simp] theorem modFab_sync (s : State) (f : Fab → Fab) : (modFab s f).sync = s.sync := rfl
@[simp] theorem modFab_gra (s : State) (f : Fab → Fab) : (modFab s f).gra = s.gra := rfl
@[simp] theorem modFab_obj (s : State) (f : Fab → Fab) : (modFab s f).obj = s.obj := rfl
@[simp] theorem modFab_cave (s : State) (f : Fab → Fab) : (modFab s f).cave = s.cave := rfl
@[simp] theorem modFab_dx (s : State) (f : Fab → Fab) : (modFab s f).dx = s.dx := rfl
@[simp] theorem modFab_cmp (s : State) (f : Fab → Fab) : (modFab s f).cmp = s.cmp := rfl
@[simp] theorem modFab_kve (s : State) (f : Fab → Fab) : (modFab s f).kve = s.kve := rfl
@[simp] theorem modFab_acc (s : State) (f : Fab → Fab) : (modFab s f).acc = s.acc := rfl
@[simp] theorem modFab_wgt (s : State) (f : Fab → Fab) : (modFab s f).wgt = s.wgt := rfl
@[simp] theorem modFab_sec (s : State) (f : Fab → Fab) : (modFab s f).sec = s.sec := rfl
@[simp] theorem modFab_pwr (s : State) (f : Fab → Fab) : (modFab s f).pwr = s.pwr := rfl
@[simp] theorem modFab_flt (s : State) (f : Fab → Fab) : (modFab s f).flt = s.flt := rfl
@[simp] theorem modFab_host (s : State) (f : Fab → Fab) : (modFab s f).host = s.host := rfl
@[simp] theorem modFab_mon (s : State) (f : Fab → Fab) : (modFab s f).mon = s.mon := rfl
@[simp] theorem modFab_pkg (s : State) (f : Fab → Fab) : (modFab s f).pkg = s.pkg := rfl
@[simp] theorem modFab_rs (s : State) (f : Fab → Fab) : (modFab s f).rs = s.rs := rfl

@[simp] theorem modFPort_pending (s : State) (p : Nat) (f : FPort → FPort) : (modFPort s p f).pending = s.pending := rfl
@[simp] theorem modFPort_fresh (s : State) (p : Nat) (f : FPort → FPort) : (modFPort s p f).fresh = s.fresh := rfl
@[simp] theorem modFPort_tick (s : State) (p : Nat) (f : FPort → FPort) : (modFPort s p f).tick = s.tick := rfl
@[simp] theorem modFPort_part (s : State) (p : Nat) (f : FPort → FPort) : (modFPort s p f).part = s.part := rfl
@[simp] theorem modFPort_vats (s : State) (p : Nat) (f : FPort → FPort) : (modFPort s p f).vats = s.vats := rfl
@[simp] theorem modFPort_turners (s : State) (p : Nat) (f : FPort → FPort) : (modFPort s p f).turners = s.turners := rfl
@[simp] theorem modFPort_near (s : State) (p : Nat) (f : FPort → FPort) : (modFPort s p f).near = s.near := rfl
@[simp] theorem modFPort_main (s : State) (p : Nat) (f : FPort → FPort) : (modFPort s p f).main = s.main := rfl
@[simp] theorem modFPort_sync (s : State) (p : Nat) (f : FPort → FPort) : (modFPort s p f).sync = s.sync := rfl
@[simp] theorem modFPort_gra (s : State) (p : Nat) (f : FPort → FPort) : (modFPort s p f).gra = s.gra := rfl
@[simp] theorem modFPort_obj (s : State) (p : Nat) (f : FPort → FPort) : (modFPort s p f).obj = s.obj := rfl
@[simp] theorem modFPort_cave (s : State) (p : Nat) (f : FPort → FPort) : (modFPort s p f).cave = s.cave := rfl
@[simp] theorem modFPort_dx (s : State) (p : Nat) (f : FPort → FPort) : (modFPort s p f).dx = s.dx := rfl
@[simp] theorem modFPort_cmp (s : State) (p : Nat) (f : FPort → FPort) : (modFPort s p f).cmp = s.cmp := rfl
@[simp] theorem modFPort_kve (s : State) (p : Nat) (f : FPort → FPort) : (modFPort s p f).kve = s.kve := rfl
@[simp] theorem modFPort_acc (s : State) (p : Nat) (f : FPort → FPort) : (modFPort s p f).acc = s.acc := rfl
@[simp] theorem modFPort_wgt (s : State) (p : Nat) (f : FPort → FPort) : (modFPort s p f).wgt = s.wgt := rfl
@[simp] theorem modFPort_sec (s : State) (p : Nat) (f : FPort → FPort) : (modFPort s p f).sec = s.sec := rfl
@[simp] theorem modFPort_pwr (s : State) (p : Nat) (f : FPort → FPort) : (modFPort s p f).pwr = s.pwr := rfl
@[simp] theorem modFPort_flt (s : State) (p : Nat) (f : FPort → FPort) : (modFPort s p f).flt = s.flt := rfl
@[simp] theorem modFPort_host (s : State) (p : Nat) (f : FPort → FPort) : (modFPort s p f).host = s.host := rfl
@[simp] theorem modFPort_mon (s : State) (p : Nat) (f : FPort → FPort) : (modFPort s p f).mon = s.mon := rfl
@[simp] theorem modFPort_pkg (s : State) (p : Nat) (f : FPort → FPort) : (modFPort s p f).pkg = s.pkg := rfl
@[simp] theorem modFPort_rs (s : State) (p : Nat) (f : FPort → FPort) : (modFPort s p f).rs = s.rs := rfl

@[simp] theorem modPwr_pending (s : State) (f : Pwr → Pwr) : (modPwr s f).pending = s.pending := rfl
@[simp] theorem modPwr_fresh (s : State) (f : Pwr → Pwr) : (modPwr s f).fresh = s.fresh := rfl
@[simp] theorem modPwr_tick (s : State) (f : Pwr → Pwr) : (modPwr s f).tick = s.tick := rfl
@[simp] theorem modPwr_part (s : State) (f : Pwr → Pwr) : (modPwr s f).part = s.part := rfl
@[simp] theorem modPwr_vats (s : State) (f : Pwr → Pwr) : (modPwr s f).vats = s.vats := rfl
@[simp] theorem modPwr_turners (s : State) (f : Pwr → Pwr) : (modPwr s f).turners = s.turners := rfl
@[simp] theorem modPwr_near (s : State) (f : Pwr → Pwr) : (modPwr s f).near = s.near := rfl
@[simp] theorem modPwr_main (s : State) (f : Pwr → Pwr) : (modPwr s f).main = s.main := rfl
@[simp] theorem modPwr_sync (s : State) (f : Pwr → Pwr) : (modPwr s f).sync = s.sync := rfl
@[simp] theorem modPwr_gra (s : State) (f : Pwr → Pwr) : (modPwr s f).gra = s.gra := rfl
@[simp] theorem modPwr_obj (s : State) (f : Pwr → Pwr) : (modPwr s f).obj = s.obj := rfl
@[simp] theorem modPwr_cave (s : State) (f : Pwr → Pwr) : (modPwr s f).cave = s.cave := rfl
@[simp] theorem modPwr_dx (s : State) (f : Pwr → Pwr) : (modPwr s f).dx = s.dx := rfl
@[simp] theorem modPwr_cmp (s : State) (f : Pwr → Pwr) : (modPwr s f).cmp = s.cmp := rfl
@[simp] theorem modPwr_kve (s : State) (f : Pwr → Pwr) : (modPwr s f).kve = s.kve := rfl
@[simp] theorem modPwr_acc (s : State) (f : Pwr → Pwr) : (modPwr s f).acc = s.acc := rfl
@[simp] theorem modPwr_wgt (s : State) (f : Pwr → Pwr) : (modPwr s f).wgt = s.wgt := rfl
@[simp] theorem modPwr_fab (s : State) (f : Pwr → Pwr) : (modPwr s f).fab = s.fab := rfl
@[simp] theorem modPwr_sec (s : State) (f : Pwr → Pwr) : (modPwr s f).sec = s.sec := rfl
@[simp] theorem modPwr_flt (s : State) (f : Pwr → Pwr) : (modPwr s f).flt = s.flt := rfl
@[simp] theorem modPwr_host (s : State) (f : Pwr → Pwr) : (modPwr s f).host = s.host := rfl
@[simp] theorem modPwr_mon (s : State) (f : Pwr → Pwr) : (modPwr s f).mon = s.mon := rfl
@[simp] theorem modPwr_pkg (s : State) (f : Pwr → Pwr) : (modPwr s f).pkg = s.pkg := rfl
@[simp] theorem modPwr_rs (s : State) (f : Pwr → Pwr) : (modPwr s f).rs = s.rs := rfl

@[simp] theorem modWgt_pending (s : State) (f : Wgt → Wgt) : (modWgt s f).pending = s.pending := rfl
@[simp] theorem modWgt_fresh (s : State) (f : Wgt → Wgt) : (modWgt s f).fresh = s.fresh := rfl
@[simp] theorem modWgt_tick (s : State) (f : Wgt → Wgt) : (modWgt s f).tick = s.tick := rfl
@[simp] theorem modWgt_part (s : State) (f : Wgt → Wgt) : (modWgt s f).part = s.part := rfl
@[simp] theorem modWgt_vats (s : State) (f : Wgt → Wgt) : (modWgt s f).vats = s.vats := rfl
@[simp] theorem modWgt_turners (s : State) (f : Wgt → Wgt) : (modWgt s f).turners = s.turners := rfl
@[simp] theorem modWgt_near (s : State) (f : Wgt → Wgt) : (modWgt s f).near = s.near := rfl
@[simp] theorem modWgt_main (s : State) (f : Wgt → Wgt) : (modWgt s f).main = s.main := rfl
@[simp] theorem modWgt_sync (s : State) (f : Wgt → Wgt) : (modWgt s f).sync = s.sync := rfl
@[simp] theorem modWgt_gra (s : State) (f : Wgt → Wgt) : (modWgt s f).gra = s.gra := rfl
@[simp] theorem modWgt_obj (s : State) (f : Wgt → Wgt) : (modWgt s f).obj = s.obj := rfl
@[simp] theorem modWgt_cave (s : State) (f : Wgt → Wgt) : (modWgt s f).cave = s.cave := rfl
@[simp] theorem modWgt_dx (s : State) (f : Wgt → Wgt) : (modWgt s f).dx = s.dx := rfl
@[simp] theorem modWgt_cmp (s : State) (f : Wgt → Wgt) : (modWgt s f).cmp = s.cmp := rfl
@[simp] theorem modWgt_kve (s : State) (f : Wgt → Wgt) : (modWgt s f).kve = s.kve := rfl
@[simp] theorem modWgt_acc (s : State) (f : Wgt → Wgt) : (modWgt s f).acc = s.acc := rfl
@[simp] theorem modWgt_fab (s : State) (f : Wgt → Wgt) : (modWgt s f).fab = s.fab := rfl
@[simp] theorem modWgt_sec (s : State) (f : Wgt → Wgt) : (modWgt s f).sec = s.sec := rfl
@[simp] theorem modWgt_pwr (s : State) (f : Wgt → Wgt) : (modWgt s f).pwr = s.pwr := rfl
@[simp] theorem modWgt_flt (s : State) (f : Wgt → Wgt) : (modWgt s f).flt = s.flt := rfl
@[simp] theorem modWgt_host (s : State) (f : Wgt → Wgt) : (modWgt s f).host = s.host := rfl
@[simp] theorem modWgt_mon (s : State) (f : Wgt → Wgt) : (modWgt s f).mon = s.mon := rfl
@[simp] theorem modWgt_pkg (s : State) (f : Wgt → Wgt) : (modWgt s f).pkg = s.pkg := rfl
@[simp] theorem modWgt_rs (s : State) (f : Wgt → Wgt) : (modWgt s f).rs = s.rs := rfl

@[simp] theorem modSec_pending (s : State) (f : Sec → Sec) : (modSec s f).pending = s.pending := rfl
@[simp] theorem modSec_fresh (s : State) (f : Sec → Sec) : (modSec s f).fresh = s.fresh := rfl
@[simp] theorem modSec_tick (s : State) (f : Sec → Sec) : (modSec s f).tick = s.tick := rfl
@[simp] theorem modSec_part (s : State) (f : Sec → Sec) : (modSec s f).part = s.part := rfl
@[simp] theorem modSec_vats (s : State) (f : Sec → Sec) : (modSec s f).vats = s.vats := rfl
@[simp] theorem modSec_turners (s : State) (f : Sec → Sec) : (modSec s f).turners = s.turners := rfl
@[simp] theorem modSec_near (s : State) (f : Sec → Sec) : (modSec s f).near = s.near := rfl
@[simp] theorem modSec_main (s : State) (f : Sec → Sec) : (modSec s f).main = s.main := rfl
@[simp] theorem modSec_sync (s : State) (f : Sec → Sec) : (modSec s f).sync = s.sync := rfl
@[simp] theorem modSec_gra (s : State) (f : Sec → Sec) : (modSec s f).gra = s.gra := rfl
@[simp] theorem modSec_obj (s : State) (f : Sec → Sec) : (modSec s f).obj = s.obj := rfl
@[simp] theorem modSec_cave (s : State) (f : Sec → Sec) : (modSec s f).cave = s.cave := rfl
@[simp] theorem modSec_dx (s : State) (f : Sec → Sec) : (modSec s f).dx = s.dx := rfl
@[simp] theorem modSec_cmp (s : State) (f : Sec → Sec) : (modSec s f).cmp = s.cmp := rfl
@[simp] theorem modSec_kve (s : State) (f : Sec → Sec) : (modSec s f).kve = s.kve := rfl
@[simp] theorem modSec_acc (s : State) (f : Sec → Sec) : (modSec s f).acc = s.acc := rfl
@[simp] theorem modSec_wgt (s : State) (f : Sec → Sec) : (modSec s f).wgt = s.wgt := rfl
@[simp] theorem modSec_fab (s : State) (f : Sec → Sec) : (modSec s f).fab = s.fab := rfl
@[simp] theorem modSec_pwr (s : State) (f : Sec → Sec) : (modSec s f).pwr = s.pwr := rfl
@[simp] theorem modSec_flt (s : State) (f : Sec → Sec) : (modSec s f).flt = s.flt := rfl
@[simp] theorem modSec_host (s : State) (f : Sec → Sec) : (modSec s f).host = s.host := rfl
@[simp] theorem modSec_mon (s : State) (f : Sec → Sec) : (modSec s f).mon = s.mon := rfl
@[simp] theorem modSec_pkg (s : State) (f : Sec → Sec) : (modSec s f).pkg = s.pkg := rfl
@[simp] theorem modSec_rs (s : State) (f : Sec → Sec) : (modSec s f).rs = s.rs := rfl

@[simp] theorem modObj_pending (s : State) (i : Nat) (f : Obj → Obj) : (modObj s i f).pending = s.pending := rfl
@[simp] theorem modObj_fresh (s : State) (i : Nat) (f : Obj → Obj) : (modObj s i f).fresh = s.fresh := rfl
@[simp] theorem modObj_tick (s : State) (i : Nat) (f : Obj → Obj) : (modObj s i f).tick = s.tick := rfl
@[simp] theorem modObj_part (s : State) (i : Nat) (f : Obj → Obj) : (modObj s i f).part = s.part := rfl
@[simp] theorem modObj_vats (s : State) (i : Nat) (f : Obj → Obj) : (modObj s i f).vats = s.vats := rfl
@[simp] theorem modObj_turners (s : State) (i : Nat) (f : Obj → Obj) : (modObj s i f).turners = s.turners := rfl
@[simp] theorem modObj_near (s : State) (i : Nat) (f : Obj → Obj) : (modObj s i f).near = s.near := rfl
@[simp] theorem modObj_main (s : State) (i : Nat) (f : Obj → Obj) : (modObj s i f).main = s.main := rfl
@[simp] theorem modObj_sync (s : State) (i : Nat) (f : Obj → Obj) : (modObj s i f).sync = s.sync := rfl
@[simp] theorem modObj_gra (s : State) (i : Nat) (f : Obj → Obj) : (modObj s i f).gra = s.gra := rfl
@[simp] theorem modObj_cave (s : State) (i : Nat) (f : Obj → Obj) : (modObj s i f).cave = s.cave := rfl
@[simp] theorem modObj_dx (s : State) (i : Nat) (f : Obj → Obj) : (modObj s i f).dx = s.dx := rfl
@[simp] theorem modObj_cmp (s : State) (i : Nat) (f : Obj → Obj) : (modObj s i f).cmp = s.cmp := rfl
@[simp] theorem modObj_kve (s : State) (i : Nat) (f : Obj → Obj) : (modObj s i f).kve = s.kve := rfl
@[simp] theorem modObj_acc (s : State) (i : Nat) (f : Obj → Obj) : (modObj s i f).acc = s.acc := rfl
@[simp] theorem modObj_wgt (s : State) (i : Nat) (f : Obj → Obj) : (modObj s i f).wgt = s.wgt := rfl
@[simp] theorem modObj_fab (s : State) (i : Nat) (f : Obj → Obj) : (modObj s i f).fab = s.fab := rfl
@[simp] theorem modObj_sec (s : State) (i : Nat) (f : Obj → Obj) : (modObj s i f).sec = s.sec := rfl
@[simp] theorem modObj_pwr (s : State) (i : Nat) (f : Obj → Obj) : (modObj s i f).pwr = s.pwr := rfl
@[simp] theorem modObj_flt (s : State) (i : Nat) (f : Obj → Obj) : (modObj s i f).flt = s.flt := rfl
@[simp] theorem modObj_host (s : State) (i : Nat) (f : Obj → Obj) : (modObj s i f).host = s.host := rfl
@[simp] theorem modObj_mon (s : State) (i : Nat) (f : Obj → Obj) : (modObj s i f).mon = s.mon := rfl
@[simp] theorem modObj_pkg (s : State) (i : Nat) (f : Obj → Obj) : (modObj s i f).pkg = s.pkg := rfl
@[simp] theorem modObj_rs (s : State) (i : Nat) (f : Obj → Obj) : (modObj s i f).rs = s.rs := rfl

@[simp] theorem modGraph_pending (s : State) (g : Nat) (f : Graph → Graph) : (modGraph s g f).pending = s.pending := rfl
@[simp] theorem modGraph_fresh (s : State) (g : Nat) (f : Graph → Graph) : (modGraph s g f).fresh = s.fresh := rfl
@[simp] theorem modGraph_tick (s : State) (g : Nat) (f : Graph → Graph) : (modGraph s g f).tick = s.tick := rfl
@[simp] theorem modGraph_part (s : State) (g : Nat) (f : Graph → Graph) : (modGraph s g f).part = s.part := rfl
@[simp] theorem modGraph_vats (s : State) (g : Nat) (f : Graph → Graph) : (modGraph s g f).vats = s.vats := rfl
@[simp] theorem modGraph_turners (s : State) (g : Nat) (f : Graph → Graph) : (modGraph s g f).turners = s.turners := rfl
@[simp] theorem modGraph_near (s : State) (g : Nat) (f : Graph → Graph) : (modGraph s g f).near = s.near := rfl
@[simp] theorem modGraph_main (s : State) (g : Nat) (f : Graph → Graph) : (modGraph s g f).main = s.main := rfl
@[simp] theorem modGraph_sync (s : State) (g : Nat) (f : Graph → Graph) : (modGraph s g f).sync = s.sync := rfl
@[simp] theorem modGraph_obj (s : State) (g : Nat) (f : Graph → Graph) : (modGraph s g f).obj = s.obj := rfl
@[simp] theorem modGraph_cave (s : State) (g : Nat) (f : Graph → Graph) : (modGraph s g f).cave = s.cave := rfl
@[simp] theorem modGraph_dx (s : State) (g : Nat) (f : Graph → Graph) : (modGraph s g f).dx = s.dx := rfl
@[simp] theorem modGraph_cmp (s : State) (g : Nat) (f : Graph → Graph) : (modGraph s g f).cmp = s.cmp := rfl
@[simp] theorem modGraph_kve (s : State) (g : Nat) (f : Graph → Graph) : (modGraph s g f).kve = s.kve := rfl
@[simp] theorem modGraph_acc (s : State) (g : Nat) (f : Graph → Graph) : (modGraph s g f).acc = s.acc := rfl
@[simp] theorem modGraph_wgt (s : State) (g : Nat) (f : Graph → Graph) : (modGraph s g f).wgt = s.wgt := rfl
@[simp] theorem modGraph_fab (s : State) (g : Nat) (f : Graph → Graph) : (modGraph s g f).fab = s.fab := rfl
@[simp] theorem modGraph_sec (s : State) (g : Nat) (f : Graph → Graph) : (modGraph s g f).sec = s.sec := rfl
@[simp] theorem modGraph_pwr (s : State) (g : Nat) (f : Graph → Graph) : (modGraph s g f).pwr = s.pwr := rfl
@[simp] theorem modGraph_flt (s : State) (g : Nat) (f : Graph → Graph) : (modGraph s g f).flt = s.flt := rfl
@[simp] theorem modGraph_host (s : State) (g : Nat) (f : Graph → Graph) : (modGraph s g f).host = s.host := rfl
@[simp] theorem modGraph_mon (s : State) (g : Nat) (f : Graph → Graph) : (modGraph s g f).mon = s.mon := rfl
@[simp] theorem modGraph_pkg (s : State) (g : Nat) (f : Graph → Graph) : (modGraph s g f).pkg = s.pkg := rfl
@[simp] theorem modGraph_rs (s : State) (g : Nat) (f : Graph → Graph) : (modGraph s g f).rs = s.rs := rfl

@[simp] theorem modAcc_pending (s : State) (a : Nat) (f : Acc → Acc) : (modAcc s a f).pending = s.pending := rfl
@[simp] theorem modAcc_fresh (s : State) (a : Nat) (f : Acc → Acc) : (modAcc s a f).fresh = s.fresh := rfl
@[simp] theorem modAcc_tick (s : State) (a : Nat) (f : Acc → Acc) : (modAcc s a f).tick = s.tick := rfl
@[simp] theorem modAcc_part (s : State) (a : Nat) (f : Acc → Acc) : (modAcc s a f).part = s.part := rfl
@[simp] theorem modAcc_vats (s : State) (a : Nat) (f : Acc → Acc) : (modAcc s a f).vats = s.vats := rfl
@[simp] theorem modAcc_turners (s : State) (a : Nat) (f : Acc → Acc) : (modAcc s a f).turners = s.turners := rfl
@[simp] theorem modAcc_near (s : State) (a : Nat) (f : Acc → Acc) : (modAcc s a f).near = s.near := rfl
@[simp] theorem modAcc_main (s : State) (a : Nat) (f : Acc → Acc) : (modAcc s a f).main = s.main := rfl
@[simp] theorem modAcc_sync (s : State) (a : Nat) (f : Acc → Acc) : (modAcc s a f).sync = s.sync := rfl
@[simp] theorem modAcc_gra (s : State) (a : Nat) (f : Acc → Acc) : (modAcc s a f).gra = s.gra := rfl
@[simp] theorem modAcc_obj (s : State) (a : Nat) (f : Acc → Acc) : (modAcc s a f).obj = s.obj := rfl
@[simp] theorem modAcc_cave (s : State) (a : Nat) (f : Acc → Acc) : (modAcc s a f).cave = s.cave := rfl
@[simp] theorem modAcc_dx (s : State) (a : Nat) (f : Acc → Acc) : (modAcc s a f).dx = s.dx := rfl
@[simp] theorem modAcc_cmp (s : State) (a : Nat) (f : Acc → Acc) : (modAcc s a f).cmp = s.cmp := rfl
@[simp] theorem modAcc_kve (s : State) (a : Nat) (f : Acc → Acc) : (modAcc s a f).kve = s.kve := rfl
@[simp] theorem modAcc_wgt (s : State) (a : Nat) (f : Acc → Acc) : (modAcc s a f).wgt = s.wgt := rfl
@[simp] theorem modAcc_fab (s : State) (a : Nat) (f : Acc → Acc) : (modAcc s a f).fab = s.fab := rfl
@[simp] theorem modAcc_sec (s : State) (a : Nat) (f : Acc → Acc) : (modAcc s a f).sec = s.sec := rfl
@[simp] theorem modAcc_pwr (s : State) (a : Nat) (f : Acc → Acc) : (modAcc s a f).pwr = s.pwr := rfl
@[simp] theorem modAcc_flt (s : State) (a : Nat) (f : Acc → Acc) : (modAcc s a f).flt = s.flt := rfl
@[simp] theorem modAcc_host (s : State) (a : Nat) (f : Acc → Acc) : (modAcc s a f).host = s.host := rfl
@[simp] theorem modAcc_mon (s : State) (a : Nat) (f : Acc → Acc) : (modAcc s a f).mon = s.mon := rfl
@[simp] theorem modAcc_pkg (s : State) (a : Nat) (f : Acc → Acc) : (modAcc s a f).pkg = s.pkg := rfl
@[simp] theorem modAcc_rs (s : State) (a : Nat) (f : Acc → Acc) : (modAcc s a f).rs = s.rs := rfl

@[simp] theorem modPage_pending (s : State) (p : Nat) (f : Page → Page) : (modPage s p f).pending = s.pending := rfl
@[simp] theorem modPage_fresh (s : State) (p : Nat) (f : Page → Page) : (modPage s p f).fresh = s.fresh := rfl
@[simp] theorem modPage_tick (s : State) (p : Nat) (f : Page → Page) : (modPage s p f).tick = s.tick := rfl
@[simp] theorem modPage_part (s : State) (p : Nat) (f : Page → Page) : (modPage s p f).part = s.part := rfl
@[simp] theorem modPage_vats (s : State) (p : Nat) (f : Page → Page) : (modPage s p f).vats = s.vats := rfl
@[simp] theorem modPage_turners (s : State) (p : Nat) (f : Page → Page) : (modPage s p f).turners = s.turners := rfl
@[simp] theorem modPage_near (s : State) (p : Nat) (f : Page → Page) : (modPage s p f).near = s.near := rfl
@[simp] theorem modPage_main (s : State) (p : Nat) (f : Page → Page) : (modPage s p f).main = s.main := rfl
@[simp] theorem modPage_sync (s : State) (p : Nat) (f : Page → Page) : (modPage s p f).sync = s.sync := rfl
@[simp] theorem modPage_gra (s : State) (p : Nat) (f : Page → Page) : (modPage s p f).gra = s.gra := rfl
@[simp] theorem modPage_obj (s : State) (p : Nat) (f : Page → Page) : (modPage s p f).obj = s.obj := rfl
@[simp] theorem modPage_cave (s : State) (p : Nat) (f : Page → Page) : (modPage s p f).cave = s.cave := rfl
@[simp] theorem modPage_dx (s : State) (p : Nat) (f : Page → Page) : (modPage s p f).dx = s.dx := rfl
@[simp] theorem modPage_cmp (s : State) (p : Nat) (f : Page → Page) : (modPage s p f).cmp = s.cmp := rfl
@[simp] theorem modPage_acc (s : State) (p : Nat) (f : Page → Page) : (modPage s p f).acc = s.acc := rfl
@[simp] theorem modPage_wgt (s : State) (p : Nat) (f : Page → Page) : (modPage s p f).wgt = s.wgt := rfl
@[simp] theorem modPage_fab (s : State) (p : Nat) (f : Page → Page) : (modPage s p f).fab = s.fab := rfl
@[simp] theorem modPage_sec (s : State) (p : Nat) (f : Page → Page) : (modPage s p f).sec = s.sec := rfl
@[simp] theorem modPage_pwr (s : State) (p : Nat) (f : Page → Page) : (modPage s p f).pwr = s.pwr := rfl
@[simp] theorem modPage_flt (s : State) (p : Nat) (f : Page → Page) : (modPage s p f).flt = s.flt := rfl
@[simp] theorem modPage_host (s : State) (p : Nat) (f : Page → Page) : (modPage s p f).host = s.host := rfl
@[simp] theorem modPage_mon (s : State) (p : Nat) (f : Page → Page) : (modPage s p f).mon = s.mon := rfl
@[simp] theorem modPage_pkg (s : State) (p : Nat) (f : Page → Page) : (modPage s p f).pkg = s.pkg := rfl
@[simp] theorem modPage_rs (s : State) (p : Nat) (f : Page → Page) : (modPage s p f).rs = s.rs := rfl

@[simp] theorem modCave_pending (s : State) (f : Cave → Cave) : (modCave s f).pending = s.pending := rfl
@[simp] theorem modCave_fresh (s : State) (f : Cave → Cave) : (modCave s f).fresh = s.fresh := rfl
@[simp] theorem modCave_tick (s : State) (f : Cave → Cave) : (modCave s f).tick = s.tick := rfl
@[simp] theorem modCave_part (s : State) (f : Cave → Cave) : (modCave s f).part = s.part := rfl
@[simp] theorem modCave_vats (s : State) (f : Cave → Cave) : (modCave s f).vats = s.vats := rfl
@[simp] theorem modCave_turners (s : State) (f : Cave → Cave) : (modCave s f).turners = s.turners := rfl
@[simp] theorem modCave_near (s : State) (f : Cave → Cave) : (modCave s f).near = s.near := rfl
@[simp] theorem modCave_main (s : State) (f : Cave → Cave) : (modCave s f).main = s.main := rfl
@[simp] theorem modCave_sync (s : State) (f : Cave → Cave) : (modCave s f).sync = s.sync := rfl
@[simp] theorem modCave_gra (s : State) (f : Cave → Cave) : (modCave s f).gra = s.gra := rfl
@[simp] theorem modCave_obj (s : State) (f : Cave → Cave) : (modCave s f).obj = s.obj := rfl
@[simp] theorem modCave_dx (s : State) (f : Cave → Cave) : (modCave s f).dx = s.dx := rfl
@[simp] theorem modCave_cmp (s : State) (f : Cave → Cave) : (modCave s f).cmp = s.cmp := rfl
@[simp] theorem modCave_kve (s : State) (f : Cave → Cave) : (modCave s f).kve = s.kve := rfl
@[simp] theorem modCave_acc (s : State) (f : Cave → Cave) : (modCave s f).acc = s.acc := rfl
@[simp] theorem modCave_wgt (s : State) (f : Cave → Cave) : (modCave s f).wgt = s.wgt := rfl
@[simp] theorem modCave_fab (s : State) (f : Cave → Cave) : (modCave s f).fab = s.fab := rfl
@[simp] theorem modCave_sec (s : State) (f : Cave → Cave) : (modCave s f).sec = s.sec := rfl
@[simp] theorem modCave_pwr (s : State) (f : Cave → Cave) : (modCave s f).pwr = s.pwr := rfl
@[simp] theorem modCave_flt (s : State) (f : Cave → Cave) : (modCave s f).flt = s.flt := rfl
@[simp] theorem modCave_host (s : State) (f : Cave → Cave) : (modCave s f).host = s.host := rfl
@[simp] theorem modCave_mon (s : State) (f : Cave → Cave) : (modCave s f).mon = s.mon := rfl
@[simp] theorem modCave_pkg (s : State) (f : Cave → Cave) : (modCave s f).pkg = s.pkg := rfl
@[simp] theorem modCave_rs (s : State) (f : Cave → Cave) : (modCave s f).rs = s.rs := rfl

@[simp] theorem modCmp_pending (s : State) (f : Cmp → Cmp) : (modCmp s f).pending = s.pending := rfl
@[simp] theorem modCmp_fresh (s : State) (f : Cmp → Cmp) : (modCmp s f).fresh = s.fresh := rfl
@[simp] theorem modCmp_tick (s : State) (f : Cmp → Cmp) : (modCmp s f).tick = s.tick := rfl
@[simp] theorem modCmp_part (s : State) (f : Cmp → Cmp) : (modCmp s f).part = s.part := rfl
@[simp] theorem modCmp_vats (s : State) (f : Cmp → Cmp) : (modCmp s f).vats = s.vats := rfl
@[simp] theorem modCmp_turners (s : State) (f : Cmp → Cmp) : (modCmp s f).turners = s.turners := rfl
@[simp] theorem modCmp_near (s : State) (f : Cmp → Cmp) : (modCmp s f).near = s.near := rfl
@[simp] theorem modCmp_main (s : State) (f : Cmp → Cmp) : (modCmp s f).main = s.main := rfl
@[simp] theorem modCmp_sync (s : State) (f : Cmp → Cmp) : (modCmp s f).sync = s.sync := rfl
@[simp] theorem modCmp_gra (s : State) (f : Cmp → Cmp) : (modCmp s f).gra = s.gra := rfl
@[simp] theorem modCmp_obj (s : State) (f : Cmp → Cmp) : (modCmp s f).obj = s.obj := rfl
@[simp] theorem modCmp_cave (s : State) (f : Cmp → Cmp) : (modCmp s f).cave = s.cave := rfl
@[simp] theorem modCmp_dx (s : State) (f : Cmp → Cmp) : (modCmp s f).dx = s.dx := rfl
@[simp] theorem modCmp_kve (s : State) (f : Cmp → Cmp) : (modCmp s f).kve = s.kve := rfl
@[simp] theorem modCmp_acc (s : State) (f : Cmp → Cmp) : (modCmp s f).acc = s.acc := rfl
@[simp] theorem modCmp_wgt (s : State) (f : Cmp → Cmp) : (modCmp s f).wgt = s.wgt := rfl
@[simp] theorem modCmp_fab (s : State) (f : Cmp → Cmp) : (modCmp s f).fab = s.fab := rfl
@[simp] theorem modCmp_sec (s : State) (f : Cmp → Cmp) : (modCmp s f).sec = s.sec := rfl
@[simp] theorem modCmp_pwr (s : State) (f : Cmp → Cmp) : (modCmp s f).pwr = s.pwr := rfl
@[simp] theorem modCmp_flt (s : State) (f : Cmp → Cmp) : (modCmp s f).flt = s.flt := rfl
@[simp] theorem modCmp_host (s : State) (f : Cmp → Cmp) : (modCmp s f).host = s.host := rfl
@[simp] theorem modCmp_mon (s : State) (f : Cmp → Cmp) : (modCmp s f).mon = s.mon := rfl
@[simp] theorem modCmp_pkg (s : State) (f : Cmp → Cmp) : (modCmp s f).pkg = s.pkg := rfl
@[simp] theorem modCmp_rs (s : State) (f : Cmp → Cmp) : (modCmp s f).rs = s.rs := rfl

@[simp] theorem modFlt_pending (s : State) (f : Flt → Flt) : (modFlt s f).pending = s.pending := rfl
@[simp] theorem modFlt_fresh (s : State) (f : Flt → Flt) : (modFlt s f).fresh = s.fresh := rfl
@[simp] theorem modFlt_tick (s : State) (f : Flt → Flt) : (modFlt s f).tick = s.tick := rfl
@[simp] theorem modFlt_part (s : State) (f : Flt → Flt) : (modFlt s f).part = s.part := rfl
@[simp] theorem modFlt_vats (s : State) (f : Flt → Flt) : (modFlt s f).vats = s.vats := rfl
@[simp] theorem modFlt_turners (s : State) (f : Flt → Flt) : (modFlt s f).turners = s.turners := rfl
@[simp] theorem modFlt_near (s : State) (f : Flt → Flt) : (modFlt s f).near = s.near := rfl
@[simp] theorem modFlt_main (s : State) (f : Flt → Flt) : (modFlt s f).main = s.main := rfl
@[simp] theorem modFlt_sync (s : State) (f : Flt → Flt) : (modFlt s f).sync = s.sync := rfl
@[simp] theorem modFlt_gra (s : State) (f : Flt → Flt) : (modFlt s f).gra = s.gra := rfl
@[simp] theorem modFlt_obj (s : State) (f : Flt → Flt) : (modFlt s f).obj = s.obj := rfl
@[simp] theorem modFlt_cave (s : State) (f : Flt → Flt) : (modFlt s f).cave = s.cave := rfl
@[simp] theorem modFlt_dx (s : State) (f : Flt → Flt) : (modFlt s f).dx = s.dx := rfl
@[simp] theorem modFlt_cmp (s : State) (f : Flt → Flt) : (modFlt s f).cmp = s.cmp := rfl
@[simp] theorem modFlt_kve (s : State) (f : Flt → Flt) : (modFlt s f).kve = s.kve := rfl
@[simp] theorem modFlt_acc (s : State) (f : Flt → Flt) : (modFlt s f).acc = s.acc := rfl
@[simp] theorem modFlt_wgt (s : State) (f : Flt → Flt) : (modFlt s f).wgt = s.wgt := rfl
@[simp] theorem modFlt_fab (s : State) (f : Flt → Flt) : (modFlt s f).fab = s.fab := rfl
@[simp] theorem modFlt_sec (s : State) (f : Flt → Flt) : (modFlt s f).sec = s.sec := rfl
@[simp] theorem modFlt_pwr (s : State) (f : Flt → Flt) : (modFlt s f).pwr = s.pwr := rfl
@[simp] theorem modFlt_host (s : State) (f : Flt → Flt) : (modFlt s f).host = s.host := rfl
@[simp] theorem modFlt_mon (s : State) (f : Flt → Flt) : (modFlt s f).mon = s.mon := rfl
@[simp] theorem modFlt_pkg (s : State) (f : Flt → Flt) : (modFlt s f).pkg = s.pkg := rfl
@[simp] theorem modFlt_rs (s : State) (f : Flt → Flt) : (modFlt s f).rs = s.rs := rfl

@[simp] theorem modPkg_pending (s : State) (f : Pkg → Pkg) : (modPkg s f).pending = s.pending := rfl
@[simp] theorem modPkg_fresh (s : State) (f : Pkg → Pkg) : (modPkg s f).fresh = s.fresh := rfl
@[simp] theorem modPkg_tick (s : State) (f : Pkg → Pkg) : (modPkg s f).tick = s.tick := rfl
@[simp] theorem modPkg_part (s : State) (f : Pkg → Pkg) : (modPkg s f).part = s.part := rfl
@[simp] theorem modPkg_vats (s : State) (f : Pkg → Pkg) : (modPkg s f).vats = s.vats := rfl
@[simp] theorem modPkg_turners (s : State) (f : Pkg → Pkg) : (modPkg s f).turners = s.turners := rfl
@[simp] theorem modPkg_near (s : State) (f : Pkg → Pkg) : (modPkg s f).near = s.near := rfl
@[simp] theorem modPkg_main (s : State) (f : Pkg → Pkg) : (modPkg s f).main = s.main := rfl
@[simp] theorem modPkg_sync (s : State) (f : Pkg → Pkg) : (modPkg s f).sync = s.sync := rfl
@[simp] theorem modPkg_gra (s : State) (f : Pkg → Pkg) : (modPkg s f).gra = s.gra := rfl
@[simp] theorem modPkg_obj (s : State) (f : Pkg → Pkg) : (modPkg s f).obj = s.obj := rfl
@[simp] theorem modPkg_cave (s : State) (f : Pkg → Pkg) : (modPkg s f).cave = s.cave := rfl
@[simp] theorem modPkg_dx (s : State) (f : Pkg → Pkg) : (modPkg s f).dx = s.dx := rfl
@[simp] theorem modPkg_cmp (s : State) (f : Pkg → Pkg) : (modPkg s f).cmp = s.cmp := rfl
@[simp] theorem modPkg_kve (s : State) (f : Pkg → Pkg) : (modPkg s f).kve = s.kve := rfl
@[simp] theorem modPkg_acc (s : State) (f : Pkg → Pkg) : (modPkg s f).acc = s.acc := rfl
@[simp] theorem modPkg_wgt (s : State) (f : Pkg → Pkg) : (modPkg s f).wgt = s.wgt := rfl
@[simp] theorem modPkg_fab (s : State) (f : Pkg → Pkg) : (modPkg s f).fab = s.fab := rfl
@[simp] theorem modPkg_sec (s : State) (f : Pkg → Pkg) : (modPkg s f).sec = s.sec := rfl
@[simp] theorem modPkg_pwr (s : State) (f : Pkg → Pkg) : (modPkg s f).pwr = s.pwr := rfl
@[simp] theorem modPkg_flt (s : State) (f : Pkg → Pkg) : (modPkg s f).flt = s.flt := rfl
@[simp] theorem modPkg_host (s : State) (f : Pkg → Pkg) : (modPkg s f).host = s.host := rfl
@[simp] theorem modPkg_mon (s : State) (f : Pkg → Pkg) : (modPkg s f).mon = s.mon := rfl
@[simp] theorem modPkg_rs (s : State) (f : Pkg → Pkg) : (modPkg s f).rs = s.rs := rfl

@[simp] theorem modFab_fab (s : State) (f : Fab → Fab) : (modFab s f).fab = f s.fab := rfl
@[simp] theorem modPwr_pwr (s : State) (f : Pwr → Pwr) : (modPwr s f).pwr = f s.pwr := rfl
@[simp] theorem modWgt_wgt (s : State) (f : Wgt → Wgt) : (modWgt s f).wgt = f s.wgt := rfl
@[simp] theorem modSec_sec (s : State) (f : Sec → Sec) : (modSec s f).sec = f s.sec := rfl
@[simp] theorem modCave_cave (s : State) (f : Cave → Cave) : (modCave s f).cave = f s.cave := rfl
@[simp] theorem modCmp_cmp (s : State) (f : Cmp → Cmp) : (modCmp s f).cmp = f s.cmp := rfl
@[simp] theorem modFlt_flt (s : State) (f : Flt → Flt) : (modFlt s f).flt = f s.flt := rfl
@[simp] theorem modPkg_pkg (s : State) (f : Pkg → Pkg) : (modPkg s f).pkg = f s.pkg := rfl
@[simp] theorem advance_fresh (s : State) : (advance s).fresh = s.fresh + 1 := rfl

/-- A vat that the package has reads as changed. -/
theorem vat_modVat (s : State) (v : Nat) (f : Vat → Vat) (h : v < s.vats.length) : (s.modVat v f).vat v = f (s.vat v) := by
  simp [State.vat, State.modVat, List.getD, h]

/-- Every other vat reads as before. -/
theorem vat_modVat_ne (s : State) (v u : Nat) (f : Vat → Vat) (h : u ≠ v) : (s.modVat v f).vat u = s.vat u := by
  simp [State.vat, State.modVat, List.getD, Ne.symm h]

/-- A turner that the package has reads as changed. -/
theorem trn_modTrn (s : State) (t : Nat) (f : Turner → Turner) (h : t < s.turners.length) :
    (s.modTrn t f).trn t = f (s.trn t) := by
  simp [State.trn, State.modTrn, List.getD, h]

/-- Every other turner reads as before. -/
theorem trn_modTrn_ne (s : State) (t u : Nat) (f : Turner → Turner) (h : u ≠ t) : (s.modTrn t f).trn u = s.trn u := by
  simp [State.trn, State.modTrn, List.getD, Ne.symm h]

/-- A near store that the package has reads as changed. -/
theorem nearOf_modNear (s : State) (c : Nat) (f : Memory → Memory) (h : c < s.near.length) :
    (s.modNear c f).nearOf c = f (s.nearOf c) := by
  simp [State.nearOf, State.modNear, List.getD, h]

/-- Every other near store reads as before. -/
theorem nearOf_modNear_ne (s : State) (c d : Nat) (f : Memory → Memory) (h : d ≠ c) : (s.modNear c f).nearOf d = s.nearOf d := by
  simp [State.nearOf, State.modNear, List.getD, Ne.symm h]

end Sys2Proof.Machine
end

