-- ==== Sys2Proof/Laws/Records.lean ====
section
/-! SUPPORT. Command records: what acceptance leaves, and the one equation from which the run of an accepted command follows. -/

namespace Sys2Proof.Machine

open Sys2Proof

@[simp] theorem findOut_countCommand (q p : Port) (tag : Nat) (s : State) :
    findOut p tag (countCommand q s) = findOut p tag s := by
  cases p <;> rfl

@[simp] theorem refusal_countCommand (h : Hdr) (n : Need) (s : State) :
    refusal h n (countCommand h.port s) = refusal h n s := by
  unfold refusal
  rfl

/-- A command record without data that is accepted has its effect at once. -/
theorem hostCmdPre_accepted {h : Hdr} {n : Need} {s : State} (a : Accepted h n s) (pre : State → Option Ans) (eff : Effect)
    (c : Instr) (hp : pre (countCommand h.port s) = none) :
    hostCmdPre h n pre eff c s = runEffect h.port h.tag eff [] (entered h c s) := by
  unfold hostCmdPre
  simp [a.taken, a.fine, a.bare, hp, entered]

theorem hostCmd_accepted {h : Hdr} {n : Need} {s : State} (a : Accepted h n s) (eff : Effect) (c : Instr) :
    hostCmd h n eff c s = runEffect h.port h.tag eff [] (entered h c s) :=
  hostCmdPre_accepted a _ eff c rfl

/-- An effect that answers OK at once. -/
theorem hostCmd_ok {h : Hdr} {n : Need} {s : State} (a : Accepted h n s) (eff : Effect) (c : Instr) (v : Nat) (t : State)
    (he : eff [] (entered h c s) = (some (Ans.ok v), t)) : hostCmd h n eff c s = answer h.port h.tag (Ans.ok v) t := by
  rw [hostCmd_accepted a]
  simp [runEffect, he, capMgt, Ans.ok]

/-- An effect that waits. -/
theorem hostCmd_wait {h : Hdr} {n : Need} {s : State} (a : Accepted h n s) (eff : Effect) (c : Instr) (t : State)
    (he : eff [] (entered h c s) = (none, t)) : hostCmd h n eff c s = t := by
  rw [hostCmd_accepted a]
  simp [runEffect, he]

end Sys2Proof.Machine
end

