-- ==== Sys2Proof/Laws/Host.lean ====
section
/-! SUPPORT. What queueing a record, an event or a reply leaves: every part of the state but the traffic of the ports. -/

namespace Sys2Proof.Machine

open Sys2Proof

@[simp] theorem State_modPort_host_link (p : Port) (f : PortQ → PortQ) (s : State) : (s.modPort p f).host.link = s.host.link := by
  cases p <;> rfl
@[simp] theorem State_modPort_host_linkPm (p : Port) (f : PortQ → PortQ) (s : State) : (s.modPort p f).host.linkPm = s.host.linkPm := by
  cases p <;> rfl
@[simp] theorem State_modPort_host_configured (p : Port) (f : PortQ → PortQ) (s : State) : (s.modPort p f).host.configured = s.host.configured := by
  cases p <;> rfl
@[simp] theorem State_modPort_host_commands (p : Port) (f : PortQ → PortQ) (s : State) : (s.modPort p f).host.commands = s.host.commands := by
  cases p <;> rfl
@[simp] theorem State_modPort_host_records (p : Port) (f : PortQ → PortQ) (s : State) : (s.modPort p f).host.records = s.host.records := by
  cases p <;> rfl
@[simp] theorem State_modPort_host_discarded (p : Port) (f : PortQ → PortQ) (s : State) : (s.modPort p f).host.discarded = s.host.discarded := by
  cases p <;> rfl
@[simp] theorem State_modPort_host_csOut (p : Port) (f : PortQ → PortQ) (s : State) : (s.modPort p f).host.csOut = s.host.csOut := by
  cases p <;> rfl
@[simp] theorem State_modPort_host_stalls (p : Port) (f : PortQ → PortQ) (s : State) : (s.modPort p f).host.stalls = s.host.stalls := by
  cases p <;> rfl
@[simp] theorem State_modPort_host_owner (p : Port) (f : PortQ → PortQ) (s : State) : (s.modPort p f).host.owner = s.host.owner := by
  cases p <;> rfl
@[simp] theorem State_modPort_host_ownState (p : Port) (f : PortQ → PortQ) (s : State) : (s.modPort p f).host.ownState = s.host.ownState := by
  cases p <;> rfl
@[simp] theorem State_modPort_host_target (p : Port) (f : PortQ → PortQ) (s : State) : (s.modPort p f).host.target = s.host.target := by
  cases p <;> rfl
@[simp] theorem State_modPort_host_claims (p : Port) (f : PortQ → PortQ) (s : State) : (s.modPort p f).host.claims = s.host.claims := by
  cases p <;> rfl
@[simp] theorem State_modPort_host_denied (p : Port) (f : PortQ → PortQ) (s : State) : (s.modPort p f).host.denied = s.host.denied := by
  cases p <;> rfl
@[simp] theorem State_modPort_host_changes (p : Port) (f : PortQ → PortQ) (s : State) : (s.modPort p f).host.changes = s.host.changes := by
  cases p <;> rfl
@[simp] theorem State_modPort_host_staged (p : Port) (f : PortQ → PortQ) (s : State) : (s.modPort p f).host.staged = s.host.staged := by
  cases p <;> rfl
@[simp] theorem State_modPort_host_applying (p : Port) (f : PortQ → PortQ) (s : State) : (s.modPort p f).host.applying = s.host.applying := by
  cases p <;> rfl
@[simp] theorem State_modPort_host_chgTick (p : Port) (f : PortQ → PortQ) (s : State) : (s.modPort p f).host.chgTick = s.host.chgTick := by
  cases p <;> rfl
@[simp] theorem State_modPort_host_conflict (p : Port) (f : PortQ → PortQ) (s : State) : (s.modPort p f).host.conflict = s.host.conflict := by
  cases p <;> rfl
@[simp] theorem State_modPort_host_chgSel (p : Port) (f : PortQ → PortQ) (s : State) : (s.modPort p f).host.chgSel = s.host.chgSel := by
  cases p <;> rfl
@[simp] theorem State_modPort_host_applied (p : Port) (f : PortQ → PortQ) (s : State) : (s.modPort p f).host.applied = s.host.applied := by
  cases p <;> rfl
@[simp] theorem State_modPort_host_refused (p : Port) (f : PortQ → PortQ) (s : State) : (s.modPort p f).host.refused = s.host.refused := by
  cases p <;> rfl
@[simp] theorem State_modPort_host_mgtCmd (p : Port) (f : PortQ → PortQ) (s : State) : (s.modPort p f).host.mgtCmd = s.host.mgtCmd := by
  cases p <;> rfl
@[simp] theorem State_modPort_host_mgtData (p : Port) (f : PortQ → PortQ) (s : State) : (s.modPort p f).host.mgtData = s.host.mgtData := by
  cases p <;> rfl
@[simp] theorem State_modPort_host_mgtOut (p : Port) (f : PortQ → PortQ) (s : State) : (s.modPort p f).host.mgtOut = s.host.mgtOut := by
  cases p <;> rfl
@[simp] theorem State_modPort_host_dynAddr (p : Port) (f : PortQ → PortQ) (s : State) : (s.modPort p f).host.dynAddr = s.host.dynAddr := by
  cases p <;> rfl
@[simp] theorem State_modPort_host_hdr (p : Port) (f : PortQ → PortQ) (s : State) : (s.modPort p f).host.hdr = s.host.hdr := by
  cases p <;> rfl
@[simp] theorem State_modPort_host_ibi (p : Port) (f : PortQ → PortQ) (s : State) : (s.modPort p f).host.ibi = s.host.ibi := by
  cases p <;> rfl
@[simp] theorem State_modPort_host_nacks (p : Port) (f : PortQ → PortQ) (s : State) : (s.modPort p f).host.nacks = s.host.nacks := by
  cases p <;> rfl

@[simp] theorem pushRec_pending (p : Port) (r : Rec) (s : State) : (pushRec p r s).pending = s.pending := by
  unfold pushRec ibiIf; (repeat' split) <;> first | rfl | simp
@[simp] theorem pushRec_fresh (p : Port) (r : Rec) (s : State) : (pushRec p r s).fresh = s.fresh := by
  unfold pushRec ibiIf; (repeat' split) <;> first | rfl | simp
@[simp] theorem pushRec_tick (p : Port) (r : Rec) (s : State) : (pushRec p r s).tick = s.tick := by
  unfold pushRec ibiIf; (repeat' split) <;> first | rfl | simp
@[simp] theorem pushRec_part (p : Port) (r : Rec) (s : State) : (pushRec p r s).part = s.part := by
  unfold pushRec ibiIf; (repeat' split) <;> first | rfl | simp
@[simp] theorem pushRec_vats (p : Port) (r : Rec) (s : State) : (pushRec p r s).vats = s.vats := by
  unfold pushRec ibiIf; (repeat' split) <;> first | rfl | simp
@[simp] theorem pushRec_turners (p : Port) (r : Rec) (s : State) : (pushRec p r s).turners = s.turners := by
  unfold pushRec ibiIf; (repeat' split) <;> first | rfl | simp
@[simp] theorem pushRec_near (p : Port) (r : Rec) (s : State) : (pushRec p r s).near = s.near := by
  unfold pushRec ibiIf; (repeat' split) <;> first | rfl | simp
@[simp] theorem pushRec_main (p : Port) (r : Rec) (s : State) : (pushRec p r s).main = s.main := by
  unfold pushRec ibiIf; (repeat' split) <;> first | rfl | simp
@[simp] theorem pushRec_sync (p : Port) (r : Rec) (s : State) : (pushRec p r s).sync = s.sync := by
  unfold pushRec ibiIf; (repeat' split) <;> first | rfl | simp
@[simp] theorem pushRec_gra (p : Port) (r : Rec) (s : State) : (pushRec p r s).gra = s.gra := by
  unfold pushRec ibiIf; (repeat' split) <;> first | rfl | simp
@[simp] theorem pushRec_obj (p : Port) (r : Rec) (s : State) : (pushRec p r s).obj = s.obj := by
  unfold pushRec ibiIf; (repeat' split) <;> first | rfl | simp
@[simp] theorem pushRec_cave (p : Port) (r : Rec) (s : State) : (pushRec p r s).cave = s.cave := by
  unfold pushRec ibiIf; (repeat' split) <;> first | rfl | simp
@[simp] theorem pushRec_dx (p : Port) (r : Rec) (s : State) : (pushRec p r s).dx = s.dx := by
  unfold pushRec ibiIf; (repeat' split) <;> first | rfl | simp
@[simp] theorem pushRec_cmp (p : Port) (r : Rec) (s : State) : (pushRec p r s).cmp = s.cmp := by
  unfold pushRec ibiIf; (repeat' split) <;> first | rfl | simp
@[simp] theorem pushRec_kve (p : Port) (r : Rec) (s : State) : (pushRec p r s).kve = s.kve := by
  unfold pushRec ibiIf; (repeat' split) <;> first | rfl | simp
@[simp] theorem pushRec_acc (p : Port) (r : Rec) (s : State) : (pushRec p r s).acc = s.acc := by
  unfold pushRec ibiIf; (repeat' split) <;> first | rfl | simp
@[simp] theorem pushRec_wgt (p : Port) (r : Rec) (s : State) : (pushRec p r s).wgt = s.wgt := by
  unfold pushRec ibiIf; (repeat' split) <;> first | rfl | simp
@[simp] theorem pushRec_fab (p : Port) (r : Rec) (s : State) : (pushRec p r s).fab = s.fab := by
  unfold pushRec ibiIf; (repeat' split) <;> first | rfl | simp
@[simp] theorem pushRec_sec (p : Port) (r : Rec) (s : State) : (pushRec p r s).sec = s.sec := by
  unfold pushRec ibiIf; (repeat' split) <;> first | rfl | simp
@[simp] theorem pushRec_pwr (p : Port) (r : Rec) (s : State) : (pushRec p r s).pwr = s.pwr := by
  unfold pushRec ibiIf; (repeat' split) <;> first | rfl | simp
@[simp] theorem pushRec_flt (p : Port) (r : Rec) (s : State) : (pushRec p r s).flt = s.flt := by
  unfold pushRec ibiIf; (repeat' split) <;> first | rfl | simp
@[simp] theorem pushRec_mon (p : Port) (r : Rec) (s : State) : (pushRec p r s).mon = s.mon := by
  unfold pushRec ibiIf; (repeat' split) <;> first | rfl | simp
@[simp] theorem pushRec_pkg (p : Port) (r : Rec) (s : State) : (pushRec p r s).pkg = s.pkg := by
  unfold pushRec ibiIf; (repeat' split) <;> first | rfl | simp
@[simp] theorem pushRec_rs (p : Port) (r : Rec) (s : State) : (pushRec p r s).rs = s.rs := by
  unfold pushRec ibiIf; (repeat' split) <;> first | rfl | simp
@[simp] theorem pushRec_host_link (p : Port) (r : Rec) (s : State) : (pushRec p r s).host.link = s.host.link := by
  unfold pushRec ibiIf; (repeat' split) <;> first | rfl | simp
@[simp] theorem pushRec_host_linkPm (p : Port) (r : Rec) (s : State) : (pushRec p r s).host.linkPm = s.host.linkPm := by
  unfold pushRec ibiIf; (repeat' split) <;> first | rfl | simp
@[simp] theorem pushRec_host_configured (p : Port) (r : Rec) (s : State) : (pushRec p r s).host.configured = s.host.configured := by
  unfold pushRec ibiIf; (repeat' split) <;> first | rfl | simp
@[simp] theorem pushRec_host_commands (p : Port) (r : Rec) (s : State) : (pushRec p r s).host.commands = s.host.commands := by
  unfold pushRec ibiIf; (repeat' split) <;> first | rfl | simp
@[simp] theorem pushRec_host_records (p : Port) (r : Rec) (s : State) : (pushRec p r s).host.records = s.host.records := by
  unfold pushRec ibiIf; (repeat' split) <;> first | rfl | simp
@[simp] theorem pushRec_host_csOut (p : Port) (r : Rec) (s : State) : (pushRec p r s).host.csOut = s.host.csOut := by
  unfold pushRec ibiIf; (repeat' split) <;> first | rfl | simp
@[simp] theorem pushRec_host_stalls (p : Port) (r : Rec) (s : State) : (pushRec p r s).host.stalls = s.host.stalls := by
  unfold pushRec ibiIf; (repeat' split) <;> first | rfl | simp
@[simp] theorem pushRec_host_owner (p : Port) (r : Rec) (s : State) : (pushRec p r s).host.owner = s.host.owner := by
  unfold pushRec ibiIf; (repeat' split) <;> first | rfl | simp
@[simp] theorem pushRec_host_ownState (p : Port) (r : Rec) (s : State) : (pushRec p r s).host.ownState = s.host.ownState := by
  unfold pushRec ibiIf; (repeat' split) <;> first | rfl | simp
@[simp] theorem pushRec_host_target (p : Port) (r : Rec) (s : State) : (pushRec p r s).host.target = s.host.target := by
  unfold pushRec ibiIf; (repeat' split) <;> first | rfl | simp
@[simp] theorem pushRec_host_claims (p : Port) (r : Rec) (s : State) : (pushRec p r s).host.claims = s.host.claims := by
  unfold pushRec ibiIf; (repeat' split) <;> first | rfl | simp
@[simp] theorem pushRec_host_denied (p : Port) (r : Rec) (s : State) : (pushRec p r s).host.denied = s.host.denied := by
  unfold pushRec ibiIf; (repeat' split) <;> first | rfl | simp
@[simp] theorem pushRec_host_changes (p : Port) (r : Rec) (s : State) : (pushRec p r s).host.changes = s.host.changes := by
  unfold pushRec ibiIf; (repeat' split) <;> first | rfl | simp
@[simp] theorem pushRec_host_staged (p : Port) (r : Rec) (s : State) : (pushRec p r s).host.staged = s.host.staged := by
  unfold pushRec ibiIf; (repeat' split) <;> first | rfl | simp
@[simp] theorem pushRec_host_applying (p : Port) (r : Rec) (s : State) : (pushRec p r s).host.applying = s.host.applying := by
  unfold pushRec ibiIf; (repeat' split) <;> first | rfl | simp
@[simp] theorem pushRec_host_chgTick (p : Port) (r : Rec) (s : State) : (pushRec p r s).host.chgTick = s.host.chgTick := by
  unfold pushRec ibiIf; (repeat' split) <;> first | rfl | simp
@[simp] theorem pushRec_host_conflict (p : Port) (r : Rec) (s : State) : (pushRec p r s).host.conflict = s.host.conflict := by
  unfold pushRec ibiIf; (repeat' split) <;> first | rfl | simp
@[simp] theorem pushRec_host_chgSel (p : Port) (r : Rec) (s : State) : (pushRec p r s).host.chgSel = s.host.chgSel := by
  unfold pushRec ibiIf; (repeat' split) <;> first | rfl | simp
@[simp] theorem pushRec_host_applied (p : Port) (r : Rec) (s : State) : (pushRec p r s).host.applied = s.host.applied := by
  unfold pushRec ibiIf; (repeat' split) <;> first | rfl | simp
@[simp] theorem pushRec_host_refused (p : Port) (r : Rec) (s : State) : (pushRec p r s).host.refused = s.host.refused := by
  unfold pushRec ibiIf; (repeat' split) <;> first | rfl | simp
@[simp] theorem pushRec_host_mgtCmd (p : Port) (r : Rec) (s : State) : (pushRec p r s).host.mgtCmd = s.host.mgtCmd := by
  unfold pushRec ibiIf; (repeat' split) <;> first | rfl | simp
@[simp] theorem pushRec_host_mgtData (p : Port) (r : Rec) (s : State) : (pushRec p r s).host.mgtData = s.host.mgtData := by
  unfold pushRec ibiIf; (repeat' split) <;> first | rfl | simp
@[simp] theorem pushRec_host_mgtOut (p : Port) (r : Rec) (s : State) : (pushRec p r s).host.mgtOut = s.host.mgtOut := by
  unfold pushRec ibiIf; (repeat' split) <;> first | rfl | simp
@[simp] theorem pushRec_host_dynAddr (p : Port) (r : Rec) (s : State) : (pushRec p r s).host.dynAddr = s.host.dynAddr := by
  unfold pushRec ibiIf; (repeat' split) <;> first | rfl | simp
@[simp] theorem pushRec_host_hdr (p : Port) (r : Rec) (s : State) : (pushRec p r s).host.hdr = s.host.hdr := by
  unfold pushRec ibiIf; (repeat' split) <;> first | rfl | simp
@[simp] theorem pushRec_host_nacks (p : Port) (r : Rec) (s : State) : (pushRec p r s).host.nacks = s.host.nacks := by
  unfold pushRec ibiIf; (repeat' split) <;> first | rfl | simp

@[simp] theorem pushEvt_pending (p : Port) (r : Rec) (s : State) : (pushEvt p r s).pending = s.pending := by
  unfold pushEvt ibiIf; (repeat' split) <;> first | rfl | simp
@[simp] theorem pushEvt_fresh (p : Port) (r : Rec) (s : State) : (pushEvt p r s).fresh = s.fresh := by
  unfold pushEvt ibiIf; (repeat' split) <;> first | rfl | simp
@[simp] theorem pushEvt_tick (p : Port) (r : Rec) (s : State) : (pushEvt p r s).tick = s.tick := by
  unfold pushEvt ibiIf; (repeat' split) <;> first | rfl | simp
@[simp] theorem pushEvt_part (p : Port) (r : Rec) (s : State) : (pushEvt p r s).part = s.part := by
  unfold pushEvt ibiIf; (repeat' split) <;> first | rfl | simp
@[simp] theorem pushEvt_vats (p : Port) (r : Rec) (s : State) : (pushEvt p r s).vats = s.vats := by
  unfold pushEvt ibiIf; (repeat' split) <;> first | rfl | simp
@[simp] theorem pushEvt_turners (p : Port) (r : Rec) (s : State) : (pushEvt p r s).turners = s.turners := by
  unfold pushEvt ibiIf; (repeat' split) <;> first | rfl | simp
@[simp] theorem pushEvt_near (p : Port) (r : Rec) (s : State) : (pushEvt p r s).near = s.near := by
  unfold pushEvt ibiIf; (repeat' split) <;> first | rfl | simp
@[simp] theorem pushEvt_main (p : Port) (r : Rec) (s : State) : (pushEvt p r s).main = s.main := by
  unfold pushEvt ibiIf; (repeat' split) <;> first | rfl | simp
@[simp] theorem pushEvt_sync (p : Port) (r : Rec) (s : State) : (pushEvt p r s).sync = s.sync := by
  unfold pushEvt ibiIf; (repeat' split) <;> first | rfl | simp
@[simp] theorem pushEvt_gra (p : Port) (r : Rec) (s : State) : (pushEvt p r s).gra = s.gra := by
  unfold pushEvt ibiIf; (repeat' split) <;> first | rfl | simp
@[simp] theorem pushEvt_obj (p : Port) (r : Rec) (s : State) : (pushEvt p r s).obj = s.obj := by
  unfold pushEvt ibiIf; (repeat' split) <;> first | rfl | simp
@[simp] theorem pushEvt_cave (p : Port) (r : Rec) (s : State) : (pushEvt p r s).cave = s.cave := by
  unfold pushEvt ibiIf; (repeat' split) <;> first | rfl | simp
@[simp] theorem pushEvt_dx (p : Port) (r : Rec) (s : State) : (pushEvt p r s).dx = s.dx := by
  unfold pushEvt ibiIf; (repeat' split) <;> first | rfl | simp
@[simp] theorem pushEvt_cmp (p : Port) (r : Rec) (s : State) : (pushEvt p r s).cmp = s.cmp := by
  unfold pushEvt ibiIf; (repeat' split) <;> first | rfl | simp
@[simp] theorem pushEvt_kve (p : Port) (r : Rec) (s : State) : (pushEvt p r s).kve = s.kve := by
  unfold pushEvt ibiIf; (repeat' split) <;> first | rfl | simp
@[simp] theorem pushEvt_acc (p : Port) (r : Rec) (s : State) : (pushEvt p r s).acc = s.acc := by
  unfold pushEvt ibiIf; (repeat' split) <;> first | rfl | simp
@[simp] theorem pushEvt_wgt (p : Port) (r : Rec) (s : State) : (pushEvt p r s).wgt = s.wgt := by
  unfold pushEvt ibiIf; (repeat' split) <;> first | rfl | simp
@[simp] theorem pushEvt_fab (p : Port) (r : Rec) (s : State) : (pushEvt p r s).fab = s.fab := by
  unfold pushEvt ibiIf; (repeat' split) <;> first | rfl | simp
@[simp] theorem pushEvt_sec (p : Port) (r : Rec) (s : State) : (pushEvt p r s).sec = s.sec := by
  unfold pushEvt ibiIf; (repeat' split) <;> first | rfl | simp
@[simp] theorem pushEvt_pwr (p : Port) (r : Rec) (s : State) : (pushEvt p r s).pwr = s.pwr := by
  unfold pushEvt ibiIf; (repeat' split) <;> first | rfl | simp
@[simp] theorem pushEvt_flt (p : Port) (r : Rec) (s : State) : (pushEvt p r s).flt = s.flt := by
  unfold pushEvt ibiIf; (repeat' split) <;> first | rfl | simp
@[simp] theorem pushEvt_mon (p : Port) (r : Rec) (s : State) : (pushEvt p r s).mon = s.mon := by
  unfold pushEvt ibiIf; (repeat' split) <;> first | rfl | simp
@[simp] theorem pushEvt_pkg (p : Port) (r : Rec) (s : State) : (pushEvt p r s).pkg = s.pkg := by
  unfold pushEvt ibiIf; (repeat' split) <;> first | rfl | simp
@[simp] theorem pushEvt_rs (p : Port) (r : Rec) (s : State) : (pushEvt p r s).rs = s.rs := by
  unfold pushEvt ibiIf; (repeat' split) <;> first | rfl | simp
@[simp] theorem pushEvt_host_link (p : Port) (r : Rec) (s : State) : (pushEvt p r s).host.link = s.host.link := by
  unfold pushEvt ibiIf; (repeat' split) <;> first | rfl | simp
@[simp] theorem pushEvt_host_linkPm (p : Port) (r : Rec) (s : State) : (pushEvt p r s).host.linkPm = s.host.linkPm := by
  unfold pushEvt ibiIf; (repeat' split) <;> first | rfl | simp
@[simp] theorem pushEvt_host_configured (p : Port) (r : Rec) (s : State) : (pushEvt p r s).host.configured = s.host.configured := by
  unfold pushEvt ibiIf; (repeat' split) <;> first | rfl | simp
@[simp] theorem pushEvt_host_commands (p : Port) (r : Rec) (s : State) : (pushEvt p r s).host.commands = s.host.commands := by
  unfold pushEvt ibiIf; (repeat' split) <;> first | rfl | simp
@[simp] theorem pushEvt_host_records (p : Port) (r : Rec) (s : State) : (pushEvt p r s).host.records = s.host.records := by
  unfold pushEvt ibiIf; (repeat' split) <;> first | rfl | simp
@[simp] theorem pushEvt_host_discarded (p : Port) (r : Rec) (s : State) : (pushEvt p r s).host.discarded = s.host.discarded := by
  unfold pushEvt ibiIf; (repeat' split) <;> first | rfl | simp
@[simp] theorem pushEvt_host_csOut (p : Port) (r : Rec) (s : State) : (pushEvt p r s).host.csOut = s.host.csOut := by
  unfold pushEvt ibiIf; (repeat' split) <;> first | rfl | simp
@[simp] theorem pushEvt_host_stalls (p : Port) (r : Rec) (s : State) : (pushEvt p r s).host.stalls = s.host.stalls := by
  unfold pushEvt ibiIf; (repeat' split) <;> first | rfl | simp
@[simp] theorem pushEvt_host_owner (p : Port) (r : Rec) (s : State) : (pushEvt p r s).host.owner = s.host.owner := by
  unfold pushEvt ibiIf; (repeat' split) <;> first | rfl | simp
@[simp] theorem pushEvt_host_ownState (p : Port) (r : Rec) (s : State) : (pushEvt p r s).host.ownState = s.host.ownState := by
  unfold pushEvt ibiIf; (repeat' split) <;> first | rfl | simp
@[simp] theorem pushEvt_host_target (p : Port) (r : Rec) (s : State) : (pushEvt p r s).host.target = s.host.target := by
  unfold pushEvt ibiIf; (repeat' split) <;> first | rfl | simp
@[simp] theorem pushEvt_host_claims (p : Port) (r : Rec) (s : State) : (pushEvt p r s).host.claims = s.host.claims := by
  unfold pushEvt ibiIf; (repeat' split) <;> first | rfl | simp
@[simp] theorem pushEvt_host_denied (p : Port) (r : Rec) (s : State) : (pushEvt p r s).host.denied = s.host.denied := by
  unfold pushEvt ibiIf; (repeat' split) <;> first | rfl | simp
@[simp] theorem pushEvt_host_changes (p : Port) (r : Rec) (s : State) : (pushEvt p r s).host.changes = s.host.changes := by
  unfold pushEvt ibiIf; (repeat' split) <;> first | rfl | simp
@[simp] theorem pushEvt_host_staged (p : Port) (r : Rec) (s : State) : (pushEvt p r s).host.staged = s.host.staged := by
  unfold pushEvt ibiIf; (repeat' split) <;> first | rfl | simp
@[simp] theorem pushEvt_host_applying (p : Port) (r : Rec) (s : State) : (pushEvt p r s).host.applying = s.host.applying := by
  unfold pushEvt ibiIf; (repeat' split) <;> first | rfl | simp
@[simp] theorem pushEvt_host_chgTick (p : Port) (r : Rec) (s : State) : (pushEvt p r s).host.chgTick = s.host.chgTick := by
  unfold pushEvt ibiIf; (repeat' split) <;> first | rfl | simp
@[simp] theorem pushEvt_host_conflict (p : Port) (r : Rec) (s : State) : (pushEvt p r s).host.conflict = s.host.conflict := by
  unfold pushEvt ibiIf; (repeat' split) <;> first | rfl | simp
@[simp] theorem pushEvt_host_chgSel (p : Port) (r : Rec) (s : State) : (pushEvt p r s).host.chgSel = s.host.chgSel := by
  unfold pushEvt ibiIf; (repeat' split) <;> first | rfl | simp
@[simp] theorem pushEvt_host_applied (p : Port) (r : Rec) (s : State) : (pushEvt p r s).host.applied = s.host.applied := by
  unfold pushEvt ibiIf; (repeat' split) <;> first | rfl | simp
@[simp] theorem pushEvt_host_refused (p : Port) (r : Rec) (s : State) : (pushEvt p r s).host.refused = s.host.refused := by
  unfold pushEvt ibiIf; (repeat' split) <;> first | rfl | simp
@[simp] theorem pushEvt_host_mgtCmd (p : Port) (r : Rec) (s : State) : (pushEvt p r s).host.mgtCmd = s.host.mgtCmd := by
  unfold pushEvt ibiIf; (repeat' split) <;> first | rfl | simp
@[simp] theorem pushEvt_host_mgtData (p : Port) (r : Rec) (s : State) : (pushEvt p r s).host.mgtData = s.host.mgtData := by
  unfold pushEvt ibiIf; (repeat' split) <;> first | rfl | simp
@[simp] theorem pushEvt_host_mgtOut (p : Port) (r : Rec) (s : State) : (pushEvt p r s).host.mgtOut = s.host.mgtOut := by
  unfold pushEvt ibiIf; (repeat' split) <;> first | rfl | simp
@[simp] theorem pushEvt_host_dynAddr (p : Port) (r : Rec) (s : State) : (pushEvt p r s).host.dynAddr = s.host.dynAddr := by
  unfold pushEvt ibiIf; (repeat' split) <;> first | rfl | simp
@[simp] theorem pushEvt_host_hdr (p : Port) (r : Rec) (s : State) : (pushEvt p r s).host.hdr = s.host.hdr := by
  unfold pushEvt ibiIf; (repeat' split) <;> first | rfl | simp
@[simp] theorem pushEvt_host_nacks (p : Port) (r : Rec) (s : State) : (pushEvt p r s).host.nacks = s.host.nacks := by
  unfold pushEvt ibiIf; (repeat' split) <;> first | rfl | simp

@[simp] theorem reply_pending (p : Port) (tag stream : Nat) (a : Ans) (s : State) : (reply p tag stream a s).pending = s.pending := by
  simp only [reply]; (repeat' split) <;> simp
@[simp] theorem reply_fresh (p : Port) (tag stream : Nat) (a : Ans) (s : State) : (reply p tag stream a s).fresh = s.fresh := by
  simp only [reply]; (repeat' split) <;> simp
@[simp] theorem reply_tick (p : Port) (tag stream : Nat) (a : Ans) (s : State) : (reply p tag stream a s).tick = s.tick := by
  simp only [reply]; (repeat' split) <;> simp
@[simp] theorem reply_part (p : Port) (tag stream : Nat) (a : Ans) (s : State) : (reply p tag stream a s).part = s.part := by
  simp only [reply]; (repeat' split) <;> simp
@[simp] theorem reply_vats (p : Port) (tag stream : Nat) (a : Ans) (s : State) : (reply p tag stream a s).vats = s.vats := by
  simp only [reply]; (repeat' split) <;> simp
@[simp] theorem reply_turners (p : Port) (tag stream : Nat) (a : Ans) (s : State) : (reply p tag stream a s).turners = s.turners := by
  simp only [reply]; (repeat' split) <;> simp
@[simp] theorem reply_near (p : Port) (tag stream : Nat) (a : Ans) (s : State) : (reply p tag stream a s).near = s.near := by
  simp only [reply]; (repeat' split) <;> simp
@[simp] theorem reply_main (p : Port) (tag stream : Nat) (a : Ans) (s : State) : (reply p tag stream a s).main = s.main := by
  simp only [reply]; (repeat' split) <;> simp
@[simp] theorem reply_sync (p : Port) (tag stream : Nat) (a : Ans) (s : State) : (reply p tag stream a s).sync = s.sync := by
  simp only [reply]; (repeat' split) <;> simp
@[simp] theorem reply_gra (p : Port) (tag stream : Nat) (a : Ans) (s : State) : (reply p tag stream a s).gra = s.gra := by
  simp only [reply]; (repeat' split) <;> simp
@[simp] theorem reply_obj (p : Port) (tag stream : Nat) (a : Ans) (s : State) : (reply p tag stream a s).obj = s.obj := by
  simp only [reply]; (repeat' split) <;> simp
@[simp] theorem reply_cave (p : Port) (tag stream : Nat) (a : Ans) (s : State) : (reply p tag stream a s).cave = s.cave := by
  simp only [reply]; (repeat' split) <;> simp
@[simp] theorem reply_dx (p : Port) (tag stream : Nat) (a : Ans) (s : State) : (reply p tag stream a s).dx = s.dx := by
  simp only [reply]; (repeat' split) <;> simp
@[simp] theorem reply_cmp (p : Port) (tag stream : Nat) (a : Ans) (s : State) : (reply p tag stream a s).cmp = s.cmp := by
  simp only [reply]; (repeat' split) <;> simp
@[simp] theorem reply_kve (p : Port) (tag stream : Nat) (a : Ans) (s : State) : (reply p tag stream a s).kve = s.kve := by
  simp only [reply]; (repeat' split) <;> simp
@[simp] theorem reply_acc (p : Port) (tag stream : Nat) (a : Ans) (s : State) : (reply p tag stream a s).acc = s.acc := by
  simp only [reply]; (repeat' split) <;> simp
@[simp] theorem reply_wgt (p : Port) (tag stream : Nat) (a : Ans) (s : State) : (reply p tag stream a s).wgt = s.wgt := by
  simp only [reply]; (repeat' split) <;> simp
@[simp] theorem reply_fab (p : Port) (tag stream : Nat) (a : Ans) (s : State) : (reply p tag stream a s).fab = s.fab := by
  simp only [reply]; (repeat' split) <;> simp
@[simp] theorem reply_sec (p : Port) (tag stream : Nat) (a : Ans) (s : State) : (reply p tag stream a s).sec = s.sec := by
  simp only [reply]; (repeat' split) <;> simp
@[simp] theorem reply_pwr (p : Port) (tag stream : Nat) (a : Ans) (s : State) : (reply p tag stream a s).pwr = s.pwr := by
  simp only [reply]; (repeat' split) <;> simp
@[simp] theorem reply_flt (p : Port) (tag stream : Nat) (a : Ans) (s : State) : (reply p tag stream a s).flt = s.flt := by
  simp only [reply]; (repeat' split) <;> simp
@[simp] theorem reply_mon (p : Port) (tag stream : Nat) (a : Ans) (s : State) : (reply p tag stream a s).mon = s.mon := by
  simp only [reply]; (repeat' split) <;> simp
@[simp] theorem reply_pkg (p : Port) (tag stream : Nat) (a : Ans) (s : State) : (reply p tag stream a s).pkg = s.pkg := by
  simp only [reply]; (repeat' split) <;> simp
@[simp] theorem reply_rs (p : Port) (tag stream : Nat) (a : Ans) (s : State) : (reply p tag stream a s).rs = s.rs := by
  simp only [reply]; (repeat' split) <;> simp
@[simp] theorem reply_host_link (p : Port) (tag stream : Nat) (a : Ans) (s : State) : (reply p tag stream a s).host.link = s.host.link := by
  simp only [reply]; (repeat' split) <;> simp
@[simp] theorem reply_host_linkPm (p : Port) (tag stream : Nat) (a : Ans) (s : State) : (reply p tag stream a s).host.linkPm = s.host.linkPm := by
  simp only [reply]; (repeat' split) <;> simp
@[simp] theorem reply_host_configured (p : Port) (tag stream : Nat) (a : Ans) (s : State) : (reply p tag stream a s).host.configured = s.host.configured := by
  simp only [reply]; (repeat' split) <;> simp
@[simp] theorem reply_host_commands (p : Port) (tag stream : Nat) (a : Ans) (s : State) : (reply p tag stream a s).host.commands = s.host.commands := by
  simp only [reply]; (repeat' split) <;> simp
@[simp] theorem reply_host_records (p : Port) (tag stream : Nat) (a : Ans) (s : State) : (reply p tag stream a s).host.records = s.host.records := by
  simp only [reply]; (repeat' split) <;> simp
@[simp] theorem reply_host_csOut (p : Port) (tag stream : Nat) (a : Ans) (s : State) : (reply p tag stream a s).host.csOut = s.host.csOut := by
  simp only [reply]; (repeat' split) <;> simp
@[simp] theorem reply_host_stalls (p : Port) (tag stream : Nat) (a : Ans) (s : State) : (reply p tag stream a s).host.stalls = s.host.stalls := by
  simp only [reply]; (repeat' split) <;> simp
@[simp] theorem reply_host_owner (p : Port) (tag stream : Nat) (a : Ans) (s : State) : (reply p tag stream a s).host.owner = s.host.owner := by
  simp only [reply]; (repeat' split) <;> simp
@[simp] theorem reply_host_ownState (p : Port) (tag stream : Nat) (a : Ans) (s : State) : (reply p tag stream a s).host.ownState = s.host.ownState := by
  simp only [reply]; (repeat' split) <;> simp
@[simp] theorem reply_host_target (p : Port) (tag stream : Nat) (a : Ans) (s : State) : (reply p tag stream a s).host.target = s.host.target := by
  simp only [reply]; (repeat' split) <;> simp
@[simp] theorem reply_host_claims (p : Port) (tag stream : Nat) (a : Ans) (s : State) : (reply p tag stream a s).host.claims = s.host.claims := by
  simp only [reply]; (repeat' split) <;> simp
@[simp] theorem reply_host_denied (p : Port) (tag stream : Nat) (a : Ans) (s : State) : (reply p tag stream a s).host.denied = s.host.denied := by
  simp only [reply]; (repeat' split) <;> simp
@[simp] theorem reply_host_changes (p : Port) (tag stream : Nat) (a : Ans) (s : State) : (reply p tag stream a s).host.changes = s.host.changes := by
  simp only [reply]; (repeat' split) <;> simp
@[simp] theorem reply_host_staged (p : Port) (tag stream : Nat) (a : Ans) (s : State) : (reply p tag stream a s).host.staged = s.host.staged := by
  simp only [reply]; (repeat' split) <;> simp
@[simp] theorem reply_host_applying (p : Port) (tag stream : Nat) (a : Ans) (s : State) : (reply p tag stream a s).host.applying = s.host.applying := by
  simp only [reply]; (repeat' split) <;> simp
@[simp] theorem reply_host_chgTick (p : Port) (tag stream : Nat) (a : Ans) (s : State) : (reply p tag stream a s).host.chgTick = s.host.chgTick := by
  simp only [reply]; (repeat' split) <;> simp
@[simp] theorem reply_host_conflict (p : Port) (tag stream : Nat) (a : Ans) (s : State) : (reply p tag stream a s).host.conflict = s.host.conflict := by
  simp only [reply]; (repeat' split) <;> simp
@[simp] theorem reply_host_chgSel (p : Port) (tag stream : Nat) (a : Ans) (s : State) : (reply p tag stream a s).host.chgSel = s.host.chgSel := by
  simp only [reply]; (repeat' split) <;> simp
@[simp] theorem reply_host_applied (p : Port) (tag stream : Nat) (a : Ans) (s : State) : (reply p tag stream a s).host.applied = s.host.applied := by
  simp only [reply]; (repeat' split) <;> simp
@[simp] theorem reply_host_refused (p : Port) (tag stream : Nat) (a : Ans) (s : State) : (reply p tag stream a s).host.refused = s.host.refused := by
  simp only [reply]; (repeat' split) <;> simp
@[simp] theorem reply_host_mgtCmd (p : Port) (tag stream : Nat) (a : Ans) (s : State) : (reply p tag stream a s).host.mgtCmd = s.host.mgtCmd := by
  simp only [reply]; (repeat' split) <;> simp
@[simp] theorem reply_host_mgtOut (p : Port) (tag stream : Nat) (a : Ans) (s : State) : (reply p tag stream a s).host.mgtOut = s.host.mgtOut := by
  simp only [reply]; (repeat' split) <;> simp
@[simp] theorem reply_host_dynAddr (p : Port) (tag stream : Nat) (a : Ans) (s : State) : (reply p tag stream a s).host.dynAddr = s.host.dynAddr := by
  simp only [reply]; (repeat' split) <;> simp
@[simp] theorem reply_host_hdr (p : Port) (tag stream : Nat) (a : Ans) (s : State) : (reply p tag stream a s).host.hdr = s.host.hdr := by
  simp only [reply]; (repeat' split) <;> simp
@[simp] theorem reply_host_nacks (p : Port) (tag stream : Nat) (a : Ans) (s : State) : (reply p tag stream a s).host.nacks = s.host.nacks := by
  simp only [reply]; (repeat' split) <;> simp

@[simp] theorem dropOut_pending (p : Port) (tag : Nat) (s : State) : (dropOut p tag s).pending = s.pending := by
  simp [dropOut]
@[simp] theorem dropOut_fresh (p : Port) (tag : Nat) (s : State) : (dropOut p tag s).fresh = s.fresh := by
  simp [dropOut]
@[simp] theorem dropOut_tick (p : Port) (tag : Nat) (s : State) : (dropOut p tag s).tick = s.tick := by
  simp [dropOut]
@[simp] theorem dropOut_part (p : Port) (tag : Nat) (s : State) : (dropOut p tag s).part = s.part := by
  simp [dropOut]
@[simp] theorem dropOut_vats (p : Port) (tag : Nat) (s : State) : (dropOut p tag s).vats = s.vats := by
  simp [dropOut]
@[simp] theorem dropOut_turners (p : Port) (tag : Nat) (s : State) : (dropOut p tag s).turners = s.turners := by
  simp [dropOut]
@[simp] theorem dropOut_near (p : Port) (tag : Nat) (s : State) : (dropOut p tag s).near = s.near := by
  simp [dropOut]
@[simp] theorem dropOut_main (p : Port) (tag : Nat) (s : State) : (dropOut p tag s).main = s.main := by
  simp [dropOut]
@[simp] theorem dropOut_sync (p : Port) (tag : Nat) (s : State) : (dropOut p tag s).sync = s.sync := by
  simp [dropOut]
@[simp] theorem dropOut_gra (p : Port) (tag : Nat) (s : State) : (dropOut p tag s).gra = s.gra := by
  simp [dropOut]
@[simp] theorem dropOut_obj (p : Port) (tag : Nat) (s : State) : (dropOut p tag s).obj = s.obj := by
  simp [dropOut]
@[simp] theorem dropOut_cave (p : Port) (tag : Nat) (s : State) : (dropOut p tag s).cave = s.cave := by
  simp [dropOut]
@[simp] theorem dropOut_dx (p : Port) (tag : Nat) (s : State) : (dropOut p tag s).dx = s.dx := by
  simp [dropOut]
@[simp] theorem dropOut_cmp (p : Port) (tag : Nat) (s : State) : (dropOut p tag s).cmp = s.cmp := by
  simp [dropOut]
@[simp] theorem dropOut_kve (p : Port) (tag : Nat) (s : State) : (dropOut p tag s).kve = s.kve := by
  simp [dropOut]
@[simp] theorem dropOut_acc (p : Port) (tag : Nat) (s : State) : (dropOut p tag s).acc = s.acc := by
  simp [dropOut]
@[simp] theorem dropOut_wgt (p : Port) (tag : Nat) (s : State) : (dropOut p tag s).wgt = s.wgt := by
  simp [dropOut]
@[simp] theorem dropOut_fab (p : Port) (tag : Nat) (s : State) : (dropOut p tag s).fab = s.fab := by
  simp [dropOut]
@[simp] theorem dropOut_sec (p : Port) (tag : Nat) (s : State) : (dropOut p tag s).sec = s.sec := by
  simp [dropOut]
@[simp] theorem dropOut_pwr (p : Port) (tag : Nat) (s : State) : (dropOut p tag s).pwr = s.pwr := by
  simp [dropOut]
@[simp] theorem dropOut_flt (p : Port) (tag : Nat) (s : State) : (dropOut p tag s).flt = s.flt := by
  simp [dropOut]
@[simp] theorem dropOut_mon (p : Port) (tag : Nat) (s : State) : (dropOut p tag s).mon = s.mon := by
  simp [dropOut]
@[simp] theorem dropOut_pkg (p : Port) (tag : Nat) (s : State) : (dropOut p tag s).pkg = s.pkg := by
  simp [dropOut]
@[simp] theorem dropOut_rs (p : Port) (tag : Nat) (s : State) : (dropOut p tag s).rs = s.rs := by
  simp [dropOut]
@[simp] theorem dropOut_host_link (p : Port) (tag : Nat) (s : State) : (dropOut p tag s).host.link = s.host.link := by
  simp [dropOut]
@[simp] theorem dropOut_host_linkPm (p : Port) (tag : Nat) (s : State) : (dropOut p tag s).host.linkPm = s.host.linkPm := by
  simp [dropOut]
@[simp] theorem dropOut_host_configured (p : Port) (tag : Nat) (s : State) : (dropOut p tag s).host.configured = s.host.configured := by
  simp [dropOut]
@[simp] theorem dropOut_host_commands (p : Port) (tag : Nat) (s : State) : (dropOut p tag s).host.commands = s.host.commands := by
  simp [dropOut]
@[simp] theorem dropOut_host_records (p : Port) (tag : Nat) (s : State) : (dropOut p tag s).host.records = s.host.records := by
  simp [dropOut]
@[simp] theorem dropOut_host_discarded (p : Port) (tag : Nat) (s : State) : (dropOut p tag s).host.discarded = s.host.discarded := by
  simp [dropOut]
@[simp] theorem dropOut_host_csOut (p : Port) (tag : Nat) (s : State) : (dropOut p tag s).host.csOut = s.host.csOut := by
  simp [dropOut]
@[simp] theorem dropOut_host_stalls (p : Port) (tag : Nat) (s : State) : (dropOut p tag s).host.stalls = s.host.stalls := by
  simp [dropOut]
@[simp] theorem dropOut_host_owner (p : Port) (tag : Nat) (s : State) : (dropOut p tag s).host.owner = s.host.owner := by
  simp [dropOut]
@[simp] theorem dropOut_host_ownState (p : Port) (tag : Nat) (s : State) : (dropOut p tag s).host.ownState = s.host.ownState := by
  simp [dropOut]
@[simp] theorem dropOut_host_target (p : Port) (tag : Nat) (s : State) : (dropOut p tag s).host.target = s.host.target := by
  simp [dropOut]
@[simp] theorem dropOut_host_claims (p : Port) (tag : Nat) (s : State) : (dropOut p tag s).host.claims = s.host.claims := by
  simp [dropOut]
@[simp] theorem dropOut_host_denied (p : Port) (tag : Nat) (s : State) : (dropOut p tag s).host.denied = s.host.denied := by
  simp [dropOut]
@[simp] theorem dropOut_host_changes (p : Port) (tag : Nat) (s : State) : (dropOut p tag s).host.changes = s.host.changes := by
  simp [dropOut]
@[simp] theorem dropOut_host_staged (p : Port) (tag : Nat) (s : State) : (dropOut p tag s).host.staged = s.host.staged := by
  simp [dropOut]
@[simp] theorem dropOut_host_applying (p : Port) (tag : Nat) (s : State) : (dropOut p tag s).host.applying = s.host.applying := by
  simp [dropOut]
@[simp] theorem dropOut_host_chgTick (p : Port) (tag : Nat) (s : State) : (dropOut p tag s).host.chgTick = s.host.chgTick := by
  simp [dropOut]
@[simp] theorem dropOut_host_conflict (p : Port) (tag : Nat) (s : State) : (dropOut p tag s).host.conflict = s.host.conflict := by
  simp [dropOut]
@[simp] theorem dropOut_host_chgSel (p : Port) (tag : Nat) (s : State) : (dropOut p tag s).host.chgSel = s.host.chgSel := by
  simp [dropOut]
@[simp] theorem dropOut_host_applied (p : Port) (tag : Nat) (s : State) : (dropOut p tag s).host.applied = s.host.applied := by
  simp [dropOut]
@[simp] theorem dropOut_host_refused (p : Port) (tag : Nat) (s : State) : (dropOut p tag s).host.refused = s.host.refused := by
  simp [dropOut]
@[simp] theorem dropOut_host_mgtCmd (p : Port) (tag : Nat) (s : State) : (dropOut p tag s).host.mgtCmd = s.host.mgtCmd := by
  simp [dropOut]
@[simp] theorem dropOut_host_mgtData (p : Port) (tag : Nat) (s : State) : (dropOut p tag s).host.mgtData = s.host.mgtData := by
  simp [dropOut]
@[simp] theorem dropOut_host_mgtOut (p : Port) (tag : Nat) (s : State) : (dropOut p tag s).host.mgtOut = s.host.mgtOut := by
  simp [dropOut]
@[simp] theorem dropOut_host_dynAddr (p : Port) (tag : Nat) (s : State) : (dropOut p tag s).host.dynAddr = s.host.dynAddr := by
  simp [dropOut]
@[simp] theorem dropOut_host_hdr (p : Port) (tag : Nat) (s : State) : (dropOut p tag s).host.hdr = s.host.hdr := by
  simp [dropOut]
@[simp] theorem dropOut_host_ibi (p : Port) (tag : Nat) (s : State) : (dropOut p tag s).host.ibi = s.host.ibi := by
  simp [dropOut]
@[simp] theorem dropOut_host_nacks (p : Port) (tag : Nat) (s : State) : (dropOut p tag s).host.nacks = s.host.nacks := by
  simp [dropOut]

@[simp] theorem answer_pending (p : Port) (tag : Nat) (a : Ans) (s : State) : (answer p tag a s).pending = s.pending := by
  unfold answer; split <;> simp
@[simp] theorem answer_fresh (p : Port) (tag : Nat) (a : Ans) (s : State) : (answer p tag a s).fresh = s.fresh := by
  unfold answer; split <;> simp
@[simp] theorem answer_tick (p : Port) (tag : Nat) (a : Ans) (s : State) : (answer p tag a s).tick = s.tick := by
  unfold answer; split <;> simp
@[simp] theorem answer_part (p : Port) (tag : Nat) (a : Ans) (s : State) : (answer p tag a s).part = s.part := by
  unfold answer; split <;> simp
@[simp] theorem answer_vats (p : Port) (tag : Nat) (a : Ans) (s : State) : (answer p tag a s).vats = s.vats := by
  unfold answer; split <;> simp
@[simp] theorem answer_turners (p : Port) (tag : Nat) (a : Ans) (s : State) : (answer p tag a s).turners = s.turners := by
  unfold answer; split <;> simp
@[simp] theorem answer_near (p : Port) (tag : Nat) (a : Ans) (s : State) : (answer p tag a s).near = s.near := by
  unfold answer; split <;> simp
@[simp] theorem answer_main (p : Port) (tag : Nat) (a : Ans) (s : State) : (answer p tag a s).main = s.main := by
  unfold answer; split <;> simp
@[simp] theorem answer_sync (p : Port) (tag : Nat) (a : Ans) (s : State) : (answer p tag a s).sync = s.sync := by
  unfold answer; split <;> simp
@[simp] theorem answer_gra (p : Port) (tag : Nat) (a : Ans) (s : State) : (answer p tag a s).gra = s.gra := by
  unfold answer; split <;> simp
@[simp] theorem answer_obj (p : Port) (tag : Nat) (a : Ans) (s : State) : (answer p tag a s).obj = s.obj := by
  unfold answer; split <;> simp
@[simp] theorem answer_cave (p : Port) (tag : Nat) (a : Ans) (s : State) : (answer p tag a s).cave = s.cave := by
  unfold answer; split <;> simp
@[simp] theorem answer_dx (p : Port) (tag : Nat) (a : Ans) (s : State) : (answer p tag a s).dx = s.dx := by
  unfold answer; split <;> simp
@[simp] theorem answer_cmp (p : Port) (tag : Nat) (a : Ans) (s : State) : (answer p tag a s).cmp = s.cmp := by
  unfold answer; split <;> simp
@[simp] theorem answer_kve (p : Port) (tag : Nat) (a : Ans) (s : State) : (answer p tag a s).kve = s.kve := by
  unfold answer; split <;> simp
@[simp] theorem answer_acc (p : Port) (tag : Nat) (a : Ans) (s : State) : (answer p tag a s).acc = s.acc := by
  unfold answer; split <;> simp
@[simp] theorem answer_wgt (p : Port) (tag : Nat) (a : Ans) (s : State) : (answer p tag a s).wgt = s.wgt := by
  unfold answer; split <;> simp
@[simp] theorem answer_fab (p : Port) (tag : Nat) (a : Ans) (s : State) : (answer p tag a s).fab = s.fab := by
  unfold answer; split <;> simp
@[simp] theorem answer_sec (p : Port) (tag : Nat) (a : Ans) (s : State) : (answer p tag a s).sec = s.sec := by
  unfold answer; split <;> simp
@[simp] theorem answer_pwr (p : Port) (tag : Nat) (a : Ans) (s : State) : (answer p tag a s).pwr = s.pwr := by
  unfold answer; split <;> simp
@[simp] theorem answer_flt (p : Port) (tag : Nat) (a : Ans) (s : State) : (answer p tag a s).flt = s.flt := by
  unfold answer; split <;> simp
@[simp] theorem answer_mon (p : Port) (tag : Nat) (a : Ans) (s : State) : (answer p tag a s).mon = s.mon := by
  unfold answer; split <;> simp
@[simp] theorem answer_pkg (p : Port) (tag : Nat) (a : Ans) (s : State) : (answer p tag a s).pkg = s.pkg := by
  unfold answer; split <;> simp
@[simp] theorem answer_rs (p : Port) (tag : Nat) (a : Ans) (s : State) : (answer p tag a s).rs = s.rs := by
  unfold answer; split <;> simp
@[simp] theorem answer_host_link (p : Port) (tag : Nat) (a : Ans) (s : State) : (answer p tag a s).host.link = s.host.link := by
  unfold answer; split <;> simp
@[simp] theorem answer_host_linkPm (p : Port) (tag : Nat) (a : Ans) (s : State) : (answer p tag a s).host.linkPm = s.host.linkPm := by
  unfold answer; split <;> simp
@[simp] theorem answer_host_configured (p : Port) (tag : Nat) (a : Ans) (s : State) : (answer p tag a s).host.configured = s.host.configured := by
  unfold answer; split <;> simp
@[simp] theorem answer_host_commands (p : Port) (tag : Nat) (a : Ans) (s : State) : (answer p tag a s).host.commands = s.host.commands := by
  unfold answer; split <;> simp
@[simp] theorem answer_host_records (p : Port) (tag : Nat) (a : Ans) (s : State) : (answer p tag a s).host.records = s.host.records := by
  unfold answer; split <;> simp
@[simp] theorem answer_host_csOut (p : Port) (tag : Nat) (a : Ans) (s : State) : (answer p tag a s).host.csOut = s.host.csOut := by
  unfold answer; split <;> simp
@[simp] theorem answer_host_stalls (p : Port) (tag : Nat) (a : Ans) (s : State) : (answer p tag a s).host.stalls = s.host.stalls := by
  unfold answer; split <;> simp
@[simp] theorem answer_host_owner (p : Port) (tag : Nat) (a : Ans) (s : State) : (answer p tag a s).host.owner = s.host.owner := by
  unfold answer; split <;> simp
@[simp] theorem answer_host_ownState (p : Port) (tag : Nat) (a : Ans) (s : State) : (answer p tag a s).host.ownState = s.host.ownState := by
  unfold answer; split <;> simp
@[simp] theorem answer_host_target (p : Port) (tag : Nat) (a : Ans) (s : State) : (answer p tag a s).host.target = s.host.target := by
  unfold answer; split <;> simp
@[simp] theorem answer_host_claims (p : Port) (tag : Nat) (a : Ans) (s : State) : (answer p tag a s).host.claims = s.host.claims := by
  unfold answer; split <;> simp
@[simp] theorem answer_host_denied (p : Port) (tag : Nat) (a : Ans) (s : State) : (answer p tag a s).host.denied = s.host.denied := by
  unfold answer; split <;> simp
@[simp] theorem answer_host_changes (p : Port) (tag : Nat) (a : Ans) (s : State) : (answer p tag a s).host.changes = s.host.changes := by
  unfold answer; split <;> simp
@[simp] theorem answer_host_staged (p : Port) (tag : Nat) (a : Ans) (s : State) : (answer p tag a s).host.staged = s.host.staged := by
  unfold answer; split <;> simp
@[simp] theorem answer_host_applying (p : Port) (tag : Nat) (a : Ans) (s : State) : (answer p tag a s).host.applying = s.host.applying := by
  unfold answer; split <;> simp
@[simp] theorem answer_host_chgTick (p : Port) (tag : Nat) (a : Ans) (s : State) : (answer p tag a s).host.chgTick = s.host.chgTick := by
  unfold answer; split <;> simp
@[simp] theorem answer_host_conflict (p : Port) (tag : Nat) (a : Ans) (s : State) : (answer p tag a s).host.conflict = s.host.conflict := by
  unfold answer; split <;> simp
@[simp] theorem answer_host_chgSel (p : Port) (tag : Nat) (a : Ans) (s : State) : (answer p tag a s).host.chgSel = s.host.chgSel := by
  unfold answer; split <;> simp
@[simp] theorem answer_host_applied (p : Port) (tag : Nat) (a : Ans) (s : State) : (answer p tag a s).host.applied = s.host.applied := by
  unfold answer; split <;> simp
@[simp] theorem answer_host_refused (p : Port) (tag : Nat) (a : Ans) (s : State) : (answer p tag a s).host.refused = s.host.refused := by
  unfold answer; split <;> simp
@[simp] theorem answer_host_mgtCmd (p : Port) (tag : Nat) (a : Ans) (s : State) : (answer p tag a s).host.mgtCmd = s.host.mgtCmd := by
  unfold answer; split <;> simp
@[simp] theorem answer_host_mgtOut (p : Port) (tag : Nat) (a : Ans) (s : State) : (answer p tag a s).host.mgtOut = s.host.mgtOut := by
  unfold answer; split <;> simp
@[simp] theorem answer_host_dynAddr (p : Port) (tag : Nat) (a : Ans) (s : State) : (answer p tag a s).host.dynAddr = s.host.dynAddr := by
  unfold answer; split <;> simp
@[simp] theorem answer_host_hdr (p : Port) (tag : Nat) (a : Ans) (s : State) : (answer p tag a s).host.hdr = s.host.hdr := by
  unfold answer; split <;> simp
@[simp] theorem answer_host_nacks (p : Port) (tag : Nat) (a : Ans) (s : State) : (answer p tag a s).host.nacks = s.host.nacks := by
  unfold answer; split <;> simp

@[simp] theorem addOut_pending (h : Hdr) (w : Bool) (c : Instr) (s : State) : (addOut h w c s).pending = s.pending := by
  simp [addOut]
@[simp] theorem addOut_fresh (h : Hdr) (w : Bool) (c : Instr) (s : State) : (addOut h w c s).fresh = s.fresh := by
  simp [addOut]
@[simp] theorem addOut_tick (h : Hdr) (w : Bool) (c : Instr) (s : State) : (addOut h w c s).tick = s.tick := by
  simp [addOut]
@[simp] theorem addOut_part (h : Hdr) (w : Bool) (c : Instr) (s : State) : (addOut h w c s).part = s.part := by
  simp [addOut]
@[simp] theorem addOut_vats (h : Hdr) (w : Bool) (c : Instr) (s : State) : (addOut h w c s).vats = s.vats := by
  simp [addOut]
@[simp] theorem addOut_turners (h : Hdr) (w : Bool) (c : Instr) (s : State) : (addOut h w c s).turners = s.turners := by
  simp [addOut]
@[simp] theorem addOut_near (h : Hdr) (w : Bool) (c : Instr) (s : State) : (addOut h w c s).near = s.near := by
  simp [addOut]
@[simp] theorem addOut_main (h : Hdr) (w : Bool) (c : Instr) (s : State) : (addOut h w c s).main = s.main := by
  simp [addOut]
@[simp] theorem addOut_sync (h : Hdr) (w : Bool) (c : Instr) (s : State) : (addOut h w c s).sync = s.sync := by
  simp [addOut]
@[simp] theorem addOut_gra (h : Hdr) (w : Bool) (c : Instr) (s : State) : (addOut h w c s).gra = s.gra := by
  simp [addOut]
@[simp] theorem addOut_obj (h : Hdr) (w : Bool) (c : Instr) (s : State) : (addOut h w c s).obj = s.obj := by
  simp [addOut]
@[simp] theorem addOut_cave (h : Hdr) (w : Bool) (c : Instr) (s : State) : (addOut h w c s).cave = s.cave := by
  simp [addOut]
@[simp] theorem addOut_dx (h : Hdr) (w : Bool) (c : Instr) (s : State) : (addOut h w c s).dx = s.dx := by
  simp [addOut]
@[simp] theorem addOut_cmp (h : Hdr) (w : Bool) (c : Instr) (s : State) : (addOut h w c s).cmp = s.cmp := by
  simp [addOut]
@[simp] theorem addOut_kve (h : Hdr) (w : Bool) (c : Instr) (s : State) : (addOut h w c s).kve = s.kve := by
  simp [addOut]
@[simp] theorem addOut_acc (h : Hdr) (w : Bool) (c : Instr) (s : State) : (addOut h w c s).acc = s.acc := by
  simp [addOut]
@[simp] theorem addOut_wgt (h : Hdr) (w : Bool) (c : Instr) (s : State) : (addOut h w c s).wgt = s.wgt := by
  simp [addOut]
@[simp] theorem addOut_fab (h : Hdr) (w : Bool) (c : Instr) (s : State) : (addOut h w c s).fab = s.fab := by
  simp [addOut]
@[simp] theorem addOut_sec (h : Hdr) (w : Bool) (c : Instr) (s : State) : (addOut h w c s).sec = s.sec := by
  simp [addOut]
@[simp] theorem addOut_pwr (h : Hdr) (w : Bool) (c : Instr) (s : State) : (addOut h w c s).pwr = s.pwr := by
  simp [addOut]
@[simp] theorem addOut_flt (h : Hdr) (w : Bool) (c : Instr) (s : State) : (addOut h w c s).flt = s.flt := by
  simp [addOut]
@[simp] theorem addOut_mon (h : Hdr) (w : Bool) (c : Instr) (s : State) : (addOut h w c s).mon = s.mon := by
  simp [addOut]
@[simp] theorem addOut_pkg (h : Hdr) (w : Bool) (c : Instr) (s : State) : (addOut h w c s).pkg = s.pkg := by
  simp [addOut]
@[simp] theorem addOut_rs (h : Hdr) (w : Bool) (c : Instr) (s : State) : (addOut h w c s).rs = s.rs := by
  simp [addOut]
@[simp] theorem addOut_host_link (h : Hdr) (w : Bool) (c : Instr) (s : State) : (addOut h w c s).host.link = s.host.link := by
  simp [addOut]
@[simp] theorem addOut_host_linkPm (h : Hdr) (w : Bool) (c : Instr) (s : State) : (addOut h w c s).host.linkPm = s.host.linkPm := by
  simp [addOut]
@[simp] theorem addOut_host_configured (h : Hdr) (w : Bool) (c : Instr) (s : State) : (addOut h w c s).host.configured = s.host.configured := by
  simp [addOut]
@[simp] theorem addOut_host_commands (h : Hdr) (w : Bool) (c : Instr) (s : State) : (addOut h w c s).host.commands = s.host.commands := by
  simp [addOut]
@[simp] theorem addOut_host_records (h : Hdr) (w : Bool) (c : Instr) (s : State) : (addOut h w c s).host.records = s.host.records := by
  simp [addOut]
@[simp] theorem addOut_host_discarded (h : Hdr) (w : Bool) (c : Instr) (s : State) : (addOut h w c s).host.discarded = s.host.discarded := by
  simp [addOut]
@[simp] theorem addOut_host_csOut (h : Hdr) (w : Bool) (c : Instr) (s : State) : (addOut h w c s).host.csOut = s.host.csOut := by
  simp [addOut]
@[simp] theorem addOut_host_stalls (h : Hdr) (w : Bool) (c : Instr) (s : State) : (addOut h w c s).host.stalls = s.host.stalls := by
  simp [addOut]
@[simp] theorem addOut_host_owner (h : Hdr) (w : Bool) (c : Instr) (s : State) : (addOut h w c s).host.owner = s.host.owner := by
  simp [addOut]
@[simp] theorem addOut_host_ownState (h : Hdr) (w : Bool) (c : Instr) (s : State) : (addOut h w c s).host.ownState = s.host.ownState := by
  simp [addOut]
@[simp] theorem addOut_host_target (h : Hdr) (w : Bool) (c : Instr) (s : State) : (addOut h w c s).host.target = s.host.target := by
  simp [addOut]
@[simp] theorem addOut_host_claims (h : Hdr) (w : Bool) (c : Instr) (s : State) : (addOut h w c s).host.claims = s.host.claims := by
  simp [addOut]
@[simp] theorem addOut_host_denied (h : Hdr) (w : Bool) (c : Instr) (s : State) : (addOut h w c s).host.denied = s.host.denied := by
  simp [addOut]
@[simp] theorem addOut_host_changes (h : Hdr) (w : Bool) (c : Instr) (s : State) : (addOut h w c s).host.changes = s.host.changes := by
  simp [addOut]
@[simp] theorem addOut_host_staged (h : Hdr) (w : Bool) (c : Instr) (s : State) : (addOut h w c s).host.staged = s.host.staged := by
  simp [addOut]
@[simp] theorem addOut_host_applying (h : Hdr) (w : Bool) (c : Instr) (s : State) : (addOut h w c s).host.applying = s.host.applying := by
  simp [addOut]
@[simp] theorem addOut_host_chgTick (h : Hdr) (w : Bool) (c : Instr) (s : State) : (addOut h w c s).host.chgTick = s.host.chgTick := by
  simp [addOut]
@[simp] theorem addOut_host_conflict (h : Hdr) (w : Bool) (c : Instr) (s : State) : (addOut h w c s).host.conflict = s.host.conflict := by
  simp [addOut]
@[simp] theorem addOut_host_chgSel (h : Hdr) (w : Bool) (c : Instr) (s : State) : (addOut h w c s).host.chgSel = s.host.chgSel := by
  simp [addOut]
@[simp] theorem addOut_host_applied (h : Hdr) (w : Bool) (c : Instr) (s : State) : (addOut h w c s).host.applied = s.host.applied := by
  simp [addOut]
@[simp] theorem addOut_host_refused (h : Hdr) (w : Bool) (c : Instr) (s : State) : (addOut h w c s).host.refused = s.host.refused := by
  simp [addOut]
@[simp] theorem addOut_host_mgtCmd (h : Hdr) (w : Bool) (c : Instr) (s : State) : (addOut h w c s).host.mgtCmd = s.host.mgtCmd := by
  simp [addOut]
@[simp] theorem addOut_host_mgtData (h : Hdr) (w : Bool) (c : Instr) (s : State) : (addOut h w c s).host.mgtData = s.host.mgtData := by
  simp [addOut]
@[simp] theorem addOut_host_mgtOut (h : Hdr) (w : Bool) (c : Instr) (s : State) : (addOut h w c s).host.mgtOut = s.host.mgtOut := by
  simp [addOut]
@[simp] theorem addOut_host_dynAddr (h : Hdr) (w : Bool) (c : Instr) (s : State) : (addOut h w c s).host.dynAddr = s.host.dynAddr := by
  simp [addOut]
@[simp] theorem addOut_host_hdr (h : Hdr) (w : Bool) (c : Instr) (s : State) : (addOut h w c s).host.hdr = s.host.hdr := by
  simp [addOut]
@[simp] theorem addOut_host_ibi (h : Hdr) (w : Bool) (c : Instr) (s : State) : (addOut h w c s).host.ibi = s.host.ibi := by
  simp [addOut]
@[simp] theorem addOut_host_nacks (h : Hdr) (w : Bool) (c : Instr) (s : State) : (addOut h w c s).host.nacks = s.host.nacks := by
  simp [addOut]

@[simp] theorem countCommand_pending (p : Port) (s : State) : (countCommand p s).pending = s.pending := by
  rfl
@[simp] theorem countCommand_fresh (p : Port) (s : State) : (countCommand p s).fresh = s.fresh := by
  rfl
@[simp] theorem countCommand_tick (p : Port) (s : State) : (countCommand p s).tick = s.tick := by
  rfl
@[simp] theorem countCommand_part (p : Port) (s : State) : (countCommand p s).part = s.part := by
  rfl
@[simp] theorem countCommand_vats (p : Port) (s : State) : (countCommand p s).vats = s.vats := by
  rfl
@[simp] theorem countCommand_turners (p : Port) (s : State) : (countCommand p s).turners = s.turners := by
  rfl
@[simp] theorem countCommand_near (p : Port) (s : State) : (countCommand p s).near = s.near := by
  rfl
@[simp] theorem countCommand_main (p : Port) (s : State) : (countCommand p s).main = s.main := by
  rfl
@[simp] theorem countCommand_sync (p : Port) (s : State) : (countCommand p s).sync = s.sync := by
  rfl
@[simp] theorem countCommand_gra (p : Port) (s : State) : (countCommand p s).gra = s.gra := by
  rfl
@[simp] theorem countCommand_obj (p : Port) (s : State) : (countCommand p s).obj = s.obj := by
  rfl
@[simp] theorem countCommand_cave (p : Port) (s : State) : (countCommand p s).cave = s.cave := by
  rfl
@[simp] theorem countCommand_dx (p : Port) (s : State) : (countCommand p s).dx = s.dx := by
  rfl
@[simp] theorem countCommand_cmp (p : Port) (s : State) : (countCommand p s).cmp = s.cmp := by
  rfl
@[simp] theorem countCommand_kve (p : Port) (s : State) : (countCommand p s).kve = s.kve := by
  rfl
@[simp] theorem countCommand_acc (p : Port) (s : State) : (countCommand p s).acc = s.acc := by
  rfl
@[simp] theorem countCommand_wgt (p : Port) (s : State) : (countCommand p s).wgt = s.wgt := by
  rfl
@[simp] theorem countCommand_fab (p : Port) (s : State) : (countCommand p s).fab = s.fab := by
  rfl
@[simp] theorem countCommand_sec (p : Port) (s : State) : (countCommand p s).sec = s.sec := by
  rfl
@[simp] theorem countCommand_pwr (p : Port) (s : State) : (countCommand p s).pwr = s.pwr := by
  rfl
@[simp] theorem countCommand_flt (p : Port) (s : State) : (countCommand p s).flt = s.flt := by
  rfl
@[simp] theorem countCommand_mon (p : Port) (s : State) : (countCommand p s).mon = s.mon := by
  rfl
@[simp] theorem countCommand_pkg (p : Port) (s : State) : (countCommand p s).pkg = s.pkg := by
  rfl
@[simp] theorem countCommand_rs (p : Port) (s : State) : (countCommand p s).rs = s.rs := by
  rfl
@[simp] theorem countCommand_host_usb (p : Port) (s : State) : (countCommand p s).host.usb = s.host.usb := by
  rfl
@[simp] theorem countCommand_host_mgt (p : Port) (s : State) : (countCommand p s).host.mgt = s.host.mgt := by
  rfl
@[simp] theorem countCommand_host_fabric (p : Port) (s : State) : (countCommand p s).host.fabric = s.host.fabric := by
  rfl
@[simp] theorem countCommand_host_monitor (p : Port) (s : State) : (countCommand p s).host.monitor = s.host.monitor := by
  rfl
@[simp] theorem countCommand_host_link (p : Port) (s : State) : (countCommand p s).host.link = s.host.link := by
  rfl
@[simp] theorem countCommand_host_linkPm (p : Port) (s : State) : (countCommand p s).host.linkPm = s.host.linkPm := by
  rfl
@[simp] theorem countCommand_host_configured (p : Port) (s : State) : (countCommand p s).host.configured = s.host.configured := by
  rfl
@[simp] theorem countCommand_host_records (p : Port) (s : State) : (countCommand p s).host.records = s.host.records := by
  rfl
@[simp] theorem countCommand_host_discarded (p : Port) (s : State) : (countCommand p s).host.discarded = s.host.discarded := by
  rfl
@[simp] theorem countCommand_host_csOut (p : Port) (s : State) : (countCommand p s).host.csOut = s.host.csOut := by
  rfl
@[simp] theorem countCommand_host_stalls (p : Port) (s : State) : (countCommand p s).host.stalls = s.host.stalls := by
  rfl
@[simp] theorem countCommand_host_owner (p : Port) (s : State) : (countCommand p s).host.owner = s.host.owner := by
  rfl
@[simp] theorem countCommand_host_ownState (p : Port) (s : State) : (countCommand p s).host.ownState = s.host.ownState := by
  rfl
@[simp] theorem countCommand_host_target (p : Port) (s : State) : (countCommand p s).host.target = s.host.target := by
  rfl
@[simp] theorem countCommand_host_claims (p : Port) (s : State) : (countCommand p s).host.claims = s.host.claims := by
  rfl
@[simp] theorem countCommand_host_denied (p : Port) (s : State) : (countCommand p s).host.denied = s.host.denied := by
  rfl
@[simp] theorem countCommand_host_changes (p : Port) (s : State) : (countCommand p s).host.changes = s.host.changes := by
  rfl
@[simp] theorem countCommand_host_staged (p : Port) (s : State) : (countCommand p s).host.staged = s.host.staged := by
  rfl
@[simp] theorem countCommand_host_applying (p : Port) (s : State) : (countCommand p s).host.applying = s.host.applying := by
  rfl
@[simp] theorem countCommand_host_chgTick (p : Port) (s : State) : (countCommand p s).host.chgTick = s.host.chgTick := by
  rfl
@[simp] theorem countCommand_host_conflict (p : Port) (s : State) : (countCommand p s).host.conflict = s.host.conflict := by
  rfl
@[simp] theorem countCommand_host_chgSel (p : Port) (s : State) : (countCommand p s).host.chgSel = s.host.chgSel := by
  rfl
@[simp] theorem countCommand_host_applied (p : Port) (s : State) : (countCommand p s).host.applied = s.host.applied := by
  rfl
@[simp] theorem countCommand_host_refused (p : Port) (s : State) : (countCommand p s).host.refused = s.host.refused := by
  rfl
@[simp] theorem countCommand_host_mgtCmd (p : Port) (s : State) : (countCommand p s).host.mgtCmd = s.host.mgtCmd := by
  rfl
@[simp] theorem countCommand_host_mgtData (p : Port) (s : State) : (countCommand p s).host.mgtData = s.host.mgtData := by
  rfl
@[simp] theorem countCommand_host_mgtOut (p : Port) (s : State) : (countCommand p s).host.mgtOut = s.host.mgtOut := by
  rfl
@[simp] theorem countCommand_host_dynAddr (p : Port) (s : State) : (countCommand p s).host.dynAddr = s.host.dynAddr := by
  rfl
@[simp] theorem countCommand_host_hdr (p : Port) (s : State) : (countCommand p s).host.hdr = s.host.hdr := by
  rfl
@[simp] theorem countCommand_host_ibi (p : Port) (s : State) : (countCommand p s).host.ibi = s.host.ibi := by
  rfl
@[simp] theorem countCommand_host_nacks (p : Port) (s : State) : (countCommand p s).host.nacks = s.host.nacks := by
  rfl

@[simp] theorem entered_pending (h : Hdr) (c : Instr) (s : State) : (entered h c s).pending = s.pending := by
  simp [entered]
@[simp] theorem entered_fresh (h : Hdr) (c : Instr) (s : State) : (entered h c s).fresh = s.fresh := by
  simp [entered]
@[simp] theorem entered_tick (h : Hdr) (c : Instr) (s : State) : (entered h c s).tick = s.tick := by
  simp [entered]
@[simp] theorem entered_part (h : Hdr) (c : Instr) (s : State) : (entered h c s).part = s.part := by
  simp [entered]
@[simp] theorem entered_vats (h : Hdr) (c : Instr) (s : State) : (entered h c s).vats = s.vats := by
  simp [entered]
@[simp] theorem entered_turners (h : Hdr) (c : Instr) (s : State) : (entered h c s).turners = s.turners := by
  simp [entered]
@[simp] theorem entered_near (h : Hdr) (c : Instr) (s : State) : (entered h c s).near = s.near := by
  simp [entered]
@[simp] theorem entered_main (h : Hdr) (c : Instr) (s : State) : (entered h c s).main = s.main := by
  simp [entered]
@[simp] theorem entered_sync (h : Hdr) (c : Instr) (s : State) : (entered h c s).sync = s.sync := by
  simp [entered]
@[simp] theorem entered_gra (h : Hdr) (c : Instr) (s : State) : (entered h c s).gra = s.gra := by
  simp [entered]
@[simp] theorem entered_obj (h : Hdr) (c : Instr) (s : State) : (entered h c s).obj = s.obj := by
  simp [entered]
@[simp] theorem entered_cave (h : Hdr) (c : Instr) (s : State) : (entered h c s).cave = s.cave := by
  simp [entered]
@[simp] theorem entered_dx (h : Hdr) (c : Instr) (s : State) : (entered h c s).dx = s.dx := by
  simp [entered]
@[simp] theorem entered_cmp (h : Hdr) (c : Instr) (s : State) : (entered h c s).cmp = s.cmp := by
  simp [entered]
@[simp] theorem entered_kve (h : Hdr) (c : Instr) (s : State) : (entered h c s).kve = s.kve := by
  simp [entered]
@[simp] theorem entered_acc (h : Hdr) (c : Instr) (s : State) : (entered h c s).acc = s.acc := by
  simp [entered]
@[simp] theorem entered_wgt (h : Hdr) (c : Instr) (s : State) : (entered h c s).wgt = s.wgt := by
  simp [entered]
@[simp] theorem entered_fab (h : Hdr) (c : Instr) (s : State) : (entered h c s).fab = s.fab := by
  simp [entered]
@[simp] theorem entered_sec (h : Hdr) (c : Instr) (s : State) : (entered h c s).sec = s.sec := by
  simp [entered]
@[simp] theorem entered_pwr (h : Hdr) (c : Instr) (s : State) : (entered h c s).pwr = s.pwr := by
  simp [entered]
@[simp] theorem entered_flt (h : Hdr) (c : Instr) (s : State) : (entered h c s).flt = s.flt := by
  simp [entered]
@[simp] theorem entered_mon (h : Hdr) (c : Instr) (s : State) : (entered h c s).mon = s.mon := by
  simp [entered]
@[simp] theorem entered_pkg (h : Hdr) (c : Instr) (s : State) : (entered h c s).pkg = s.pkg := by
  simp [entered]
@[simp] theorem entered_rs (h : Hdr) (c : Instr) (s : State) : (entered h c s).rs = s.rs := by
  simp [entered]
@[simp] theorem entered_host_link (h : Hdr) (c : Instr) (s : State) : (entered h c s).host.link = s.host.link := by
  simp [entered]
@[simp] theorem entered_host_linkPm (h : Hdr) (c : Instr) (s : State) : (entered h c s).host.linkPm = s.host.linkPm := by
  simp [entered]
@[simp] theorem entered_host_configured (h : Hdr) (c : Instr) (s : State) : (entered h c s).host.configured = s.host.configured := by
  simp [entered]
@[simp] theorem entered_host_records (h : Hdr) (c : Instr) (s : State) : (entered h c s).host.records = s.host.records := by
  simp [entered]
@[simp] theorem entered_host_discarded (h : Hdr) (c : Instr) (s : State) : (entered h c s).host.discarded = s.host.discarded := by
  simp [entered]
@[simp] theorem entered_host_csOut (h : Hdr) (c : Instr) (s : State) : (entered h c s).host.csOut = s.host.csOut := by
  simp [entered]
@[simp] theorem entered_host_stalls (h : Hdr) (c : Instr) (s : State) : (entered h c s).host.stalls = s.host.stalls := by
  simp [entered]
@[simp] theorem entered_host_owner (h : Hdr) (c : Instr) (s : State) : (entered h c s).host.owner = s.host.owner := by
  simp [entered]
@[simp] theorem entered_host_ownState (h : Hdr) (c : Instr) (s : State) : (entered h c s).host.ownState = s.host.ownState := by
  simp [entered]
@[simp] theorem entered_host_target (h : Hdr) (c : Instr) (s : State) : (entered h c s).host.target = s.host.target := by
  simp [entered]
@[simp] theorem entered_host_claims (h : Hdr) (c : Instr) (s : State) : (entered h c s).host.claims = s.host.claims := by
  simp [entered]
@[simp] theorem entered_host_denied (h : Hdr) (c : Instr) (s : State) : (entered h c s).host.denied = s.host.denied := by
  simp [entered]
@[simp] theorem entered_host_changes (h : Hdr) (c : Instr) (s : State) : (entered h c s).host.changes = s.host.changes := by
  simp [entered]
@[simp] theorem entered_host_staged (h : Hdr) (c : Instr) (s : State) : (entered h c s).host.staged = s.host.staged := by
  simp [entered]
@[simp] theorem entered_host_applying (h : Hdr) (c : Instr) (s : State) : (entered h c s).host.applying = s.host.applying := by
  simp [entered]
@[simp] theorem entered_host_chgTick (h : Hdr) (c : Instr) (s : State) : (entered h c s).host.chgTick = s.host.chgTick := by
  simp [entered]
@[simp] theorem entered_host_conflict (h : Hdr) (c : Instr) (s : State) : (entered h c s).host.conflict = s.host.conflict := by
  simp [entered]
@[simp] theorem entered_host_chgSel (h : Hdr) (c : Instr) (s : State) : (entered h c s).host.chgSel = s.host.chgSel := by
  simp [entered]
@[simp] theorem entered_host_applied (h : Hdr) (c : Instr) (s : State) : (entered h c s).host.applied = s.host.applied := by
  simp [entered]
@[simp] theorem entered_host_refused (h : Hdr) (c : Instr) (s : State) : (entered h c s).host.refused = s.host.refused := by
  simp [entered]
@[simp] theorem entered_host_mgtCmd (h : Hdr) (c : Instr) (s : State) : (entered h c s).host.mgtCmd = s.host.mgtCmd := by
  simp [entered]
@[simp] theorem entered_host_mgtData (h : Hdr) (c : Instr) (s : State) : (entered h c s).host.mgtData = s.host.mgtData := by
  simp [entered]
@[simp] theorem entered_host_mgtOut (h : Hdr) (c : Instr) (s : State) : (entered h c s).host.mgtOut = s.host.mgtOut := by
  simp [entered]
@[simp] theorem entered_host_dynAddr (h : Hdr) (c : Instr) (s : State) : (entered h c s).host.dynAddr = s.host.dynAddr := by
  simp [entered]
@[simp] theorem entered_host_hdr (h : Hdr) (c : Instr) (s : State) : (entered h c s).host.hdr = s.host.hdr := by
  simp [entered]
@[simp] theorem entered_host_ibi (h : Hdr) (c : Instr) (s : State) : (entered h c s).host.ibi = s.host.ibi := by
  simp [entered]
@[simp] theorem entered_host_nacks (h : Hdr) (c : Instr) (s : State) : (entered h c s).host.nacks = s.host.nacks := by
  simp [entered]

@[simp] theorem wakeHost_pending (s : State) : (wakeHost s).pending = s.pending := by
  unfold wakeHost; split <;> rfl
@[simp] theorem wakeHost_fresh (s : State) : (wakeHost s).fresh = s.fresh := by
  unfold wakeHost; split <;> rfl
@[simp] theorem wakeHost_tick (s : State) : (wakeHost s).tick = s.tick := by
  unfold wakeHost; split <;> rfl
@[simp] theorem wakeHost_part (s : State) : (wakeHost s).part = s.part := by
  unfold wakeHost; split <;> rfl
@[simp] theorem wakeHost_vats (s : State) : (wakeHost s).vats = s.vats := by
  unfold wakeHost; split <;> rfl
@[simp] theorem wakeHost_turners (s : State) : (wakeHost s).turners = s.turners := by
  unfold wakeHost; split <;> rfl
@[simp] theorem wakeHost_near (s : State) : (wakeHost s).near = s.near := by
  unfold wakeHost; split <;> rfl
@[simp] theorem wakeHost_main (s : State) : (wakeHost s).main = s.main := by
  unfold wakeHost; split <;> rfl
@[simp] theorem wakeHost_sync (s : State) : (wakeHost s).sync = s.sync := by
  unfold wakeHost; split <;> rfl
@[simp] theorem wakeHost_gra (s : State) : (wakeHost s).gra = s.gra := by
  unfold wakeHost; split <;> rfl
@[simp] theorem wakeHost_obj (s : State) : (wakeHost s).obj = s.obj := by
  unfold wakeHost; split <;> rfl
@[simp] theorem wakeHost_cave (s : State) : (wakeHost s).cave = s.cave := by
  unfold wakeHost; split <;> rfl
@[simp] theorem wakeHost_dx (s : State) : (wakeHost s).dx = s.dx := by
  unfold wakeHost; split <;> rfl
@[simp] theorem wakeHost_cmp (s : State) : (wakeHost s).cmp = s.cmp := by
  unfold wakeHost; split <;> rfl
@[simp] theorem wakeHost_kve (s : State) : (wakeHost s).kve = s.kve := by
  unfold wakeHost; split <;> rfl
@[simp] theorem wakeHost_acc (s : State) : (wakeHost s).acc = s.acc := by
  unfold wakeHost; split <;> rfl
@[simp] theorem wakeHost_wgt (s : State) : (wakeHost s).wgt = s.wgt := by
  unfold wakeHost; split <;> rfl
@[simp] theorem wakeHost_fab (s : State) : (wakeHost s).fab = s.fab := by
  unfold wakeHost; split <;> rfl
@[simp] theorem wakeHost_sec (s : State) : (wakeHost s).sec = s.sec := by
  unfold wakeHost; split <;> rfl
@[simp] theorem wakeHost_pwr (s : State) : (wakeHost s).pwr = s.pwr := by
  unfold wakeHost; split <;> rfl
@[simp] theorem wakeHost_flt (s : State) : (wakeHost s).flt = s.flt := by
  unfold wakeHost; split <;> rfl
@[simp] theorem wakeHost_host (s : State) : (wakeHost s).host = s.host := by
  unfold wakeHost; split <;> rfl
@[simp] theorem wakeHost_mon (s : State) : (wakeHost s).mon = s.mon := by
  unfold wakeHost; split <;> rfl
@[simp] theorem wakeHost_rs (s : State) : (wakeHost s).rs = s.rs := by
  unfold wakeHost; split <;> rfl

@[simp] theorem traceEvent_pending (code : Nat) (b : Bytes) (s : State) : (traceEvent code b s).pending = s.pending := by
  unfold traceEvent; split <;> rfl
@[simp] theorem traceEvent_fresh (code : Nat) (b : Bytes) (s : State) : (traceEvent code b s).fresh = s.fresh := by
  unfold traceEvent; split <;> rfl
@[simp] theorem traceEvent_tick (code : Nat) (b : Bytes) (s : State) : (traceEvent code b s).tick = s.tick := by
  unfold traceEvent; split <;> rfl
@[simp] theorem traceEvent_part (code : Nat) (b : Bytes) (s : State) : (traceEvent code b s).part = s.part := by
  unfold traceEvent; split <;> rfl
@[simp] theorem traceEvent_vats (code : Nat) (b : Bytes) (s : State) : (traceEvent code b s).vats = s.vats := by
  unfold traceEvent; split <;> rfl
@[simp] theorem traceEvent_turners (code : Nat) (b : Bytes) (s : State) : (traceEvent code b s).turners = s.turners := by
  unfold traceEvent; split <;> rfl
@[simp] theorem traceEvent_near (code : Nat) (b : Bytes) (s : State) : (traceEvent code b s).near = s.near := by
  unfold traceEvent; split <;> rfl
@[simp] theorem traceEvent_main (code : Nat) (b : Bytes) (s : State) : (traceEvent code b s).main = s.main := by
  unfold traceEvent; split <;> rfl
@[simp] theorem traceEvent_sync (code : Nat) (b : Bytes) (s : State) : (traceEvent code b s).sync = s.sync := by
  unfold traceEvent; split <;> rfl
@[simp] theorem traceEvent_gra (code : Nat) (b : Bytes) (s : State) : (traceEvent code b s).gra = s.gra := by
  unfold traceEvent; split <;> rfl
@[simp] theorem traceEvent_obj (code : Nat) (b : Bytes) (s : State) : (traceEvent code b s).obj = s.obj := by
  unfold traceEvent; split <;> rfl
@[simp] theorem traceEvent_cave (code : Nat) (b : Bytes) (s : State) : (traceEvent code b s).cave = s.cave := by
  unfold traceEvent; split <;> rfl
@[simp] theorem traceEvent_dx (code : Nat) (b : Bytes) (s : State) : (traceEvent code b s).dx = s.dx := by
  unfold traceEvent; split <;> rfl
@[simp] theorem traceEvent_cmp (code : Nat) (b : Bytes) (s : State) : (traceEvent code b s).cmp = s.cmp := by
  unfold traceEvent; split <;> rfl
@[simp] theorem traceEvent_kve (code : Nat) (b : Bytes) (s : State) : (traceEvent code b s).kve = s.kve := by
  unfold traceEvent; split <;> rfl
@[simp] theorem traceEvent_acc (code : Nat) (b : Bytes) (s : State) : (traceEvent code b s).acc = s.acc := by
  unfold traceEvent; split <;> rfl
@[simp] theorem traceEvent_wgt (code : Nat) (b : Bytes) (s : State) : (traceEvent code b s).wgt = s.wgt := by
  unfold traceEvent; split <;> rfl
@[simp] theorem traceEvent_fab (code : Nat) (b : Bytes) (s : State) : (traceEvent code b s).fab = s.fab := by
  unfold traceEvent; split <;> rfl
@[simp] theorem traceEvent_sec (code : Nat) (b : Bytes) (s : State) : (traceEvent code b s).sec = s.sec := by
  unfold traceEvent; split <;> rfl
@[simp] theorem traceEvent_pwr (code : Nat) (b : Bytes) (s : State) : (traceEvent code b s).pwr = s.pwr := by
  unfold traceEvent; split <;> rfl
@[simp] theorem traceEvent_flt (code : Nat) (b : Bytes) (s : State) : (traceEvent code b s).flt = s.flt := by
  unfold traceEvent; split <;> rfl
@[simp] theorem traceEvent_host (code : Nat) (b : Bytes) (s : State) : (traceEvent code b s).host = s.host := by
  unfold traceEvent; split <;> rfl
@[simp] theorem traceEvent_pkg (code : Nat) (b : Bytes) (s : State) : (traceEvent code b s).pkg = s.pkg := by
  unfold traceEvent; split <;> rfl
@[simp] theorem traceEvent_rs (code : Nat) (b : Bytes) (s : State) : (traceEvent code b s).rs = s.rs := by
  unfold traceEvent; split <;> rfl

@[simp] theorem monSay_pending (st : Nat) (c : String) (d : List Nat) (s : State) : (monSay st c d s).pending = s.pending := by
  rfl
@[simp] theorem monSay_fresh (st : Nat) (c : String) (d : List Nat) (s : State) : (monSay st c d s).fresh = s.fresh := by
  rfl
@[simp] theorem monSay_tick (st : Nat) (c : String) (d : List Nat) (s : State) : (monSay st c d s).tick = s.tick := by
  rfl
@[simp] theorem monSay_part (st : Nat) (c : String) (d : List Nat) (s : State) : (monSay st c d s).part = s.part := by
  rfl
@[simp] theorem monSay_vats (st : Nat) (c : String) (d : List Nat) (s : State) : (monSay st c d s).vats = s.vats := by
  rfl
@[simp] theorem monSay_turners (st : Nat) (c : String) (d : List Nat) (s : State) : (monSay st c d s).turners = s.turners := by
  rfl
@[simp] theorem monSay_near (st : Nat) (c : String) (d : List Nat) (s : State) : (monSay st c d s).near = s.near := by
  rfl
@[simp] theorem monSay_main (st : Nat) (c : String) (d : List Nat) (s : State) : (monSay st c d s).main = s.main := by
  rfl
@[simp] theorem monSay_sync (st : Nat) (c : String) (d : List Nat) (s : State) : (monSay st c d s).sync = s.sync := by
  rfl
@[simp] theorem monSay_gra (st : Nat) (c : String) (d : List Nat) (s : State) : (monSay st c d s).gra = s.gra := by
  rfl
@[simp] theorem monSay_obj (st : Nat) (c : String) (d : List Nat) (s : State) : (monSay st c d s).obj = s.obj := by
  rfl
@[simp] theorem monSay_cave (st : Nat) (c : String) (d : List Nat) (s : State) : (monSay st c d s).cave = s.cave := by
  rfl
@[simp] theorem monSay_dx (st : Nat) (c : String) (d : List Nat) (s : State) : (monSay st c d s).dx = s.dx := by
  rfl
@[simp] theorem monSay_cmp (st : Nat) (c : String) (d : List Nat) (s : State) : (monSay st c d s).cmp = s.cmp := by
  rfl
@[simp] theorem monSay_kve (st : Nat) (c : String) (d : List Nat) (s : State) : (monSay st c d s).kve = s.kve := by
  rfl
@[simp] theorem monSay_acc (st : Nat) (c : String) (d : List Nat) (s : State) : (monSay st c d s).acc = s.acc := by
  rfl
@[simp] theorem monSay_wgt (st : Nat) (c : String) (d : List Nat) (s : State) : (monSay st c d s).wgt = s.wgt := by
  rfl
@[simp] theorem monSay_fab (st : Nat) (c : String) (d : List Nat) (s : State) : (monSay st c d s).fab = s.fab := by
  rfl
@[simp] theorem monSay_sec (st : Nat) (c : String) (d : List Nat) (s : State) : (monSay st c d s).sec = s.sec := by
  rfl
@[simp] theorem monSay_pwr (st : Nat) (c : String) (d : List Nat) (s : State) : (monSay st c d s).pwr = s.pwr := by
  rfl
@[simp] theorem monSay_flt (st : Nat) (c : String) (d : List Nat) (s : State) : (monSay st c d s).flt = s.flt := by
  rfl
@[simp] theorem monSay_host (st : Nat) (c : String) (d : List Nat) (s : State) : (monSay st c d s).host = s.host := by
  rfl
@[simp] theorem monSay_pkg (st : Nat) (c : String) (d : List Nat) (s : State) : (monSay st c d s).pkg = s.pkg := by
  rfl
@[simp] theorem monSay_rs (st : Nat) (c : String) (d : List Nat) (s : State) : (monSay st c d s).rs = s.rs := by
  rfl

/-- Events queued for the ports of a list. -/
theorem foldl_pushEvt {β : Type} (g : State → β) (hg : ∀ p r t, g (pushEvt p r t) = g t) (ps : List Port) (r : Rec) (s : State) :
    g (ps.foldl (fun t p => pushEvt p r t) s) = g s := by
  induction ps generalizing s with
  | nil => rfl
  | cons p ps ih => simp [ih, hg]

@[simp] theorem sendEvent_pending (code : Nat) (b : Bytes) (s : State) : (sendEvent code b s).pending = s.pending := by
  simp only [sendEvent, wakeHost_pending, traceEvent_pending]
  exact foldl_pushEvt (·.pending) (fun p r t => pushEvt_pending p r t) _ _ s
@[simp] theorem sendEvent_fresh (code : Nat) (b : Bytes) (s : State) : (sendEvent code b s).fresh = s.fresh := by
  simp only [sendEvent, wakeHost_fresh, traceEvent_fresh]
  exact foldl_pushEvt (·.fresh) (fun p r t => pushEvt_fresh p r t) _ _ s
@[simp] theorem sendEvent_tick (code : Nat) (b : Bytes) (s : State) : (sendEvent code b s).tick = s.tick := by
  simp only [sendEvent, wakeHost_tick, traceEvent_tick]
  exact foldl_pushEvt (·.tick) (fun p r t => pushEvt_tick p r t) _ _ s
@[simp] theorem sendEvent_part (code : Nat) (b : Bytes) (s : State) : (sendEvent code b s).part = s.part := by
  simp only [sendEvent, wakeHost_part, traceEvent_part]
  exact foldl_pushEvt (·.part) (fun p r t => pushEvt_part p r t) _ _ s
@[simp] theorem sendEvent_vats (code : Nat) (b : Bytes) (s : State) : (sendEvent code b s).vats = s.vats := by
  simp only [sendEvent, wakeHost_vats, traceEvent_vats]
  exact foldl_pushEvt (·.vats) (fun p r t => pushEvt_vats p r t) _ _ s
@[simp] theorem sendEvent_turners (code : Nat) (b : Bytes) (s : State) : (sendEvent code b s).turners = s.turners := by
  simp only [sendEvent, wakeHost_turners, traceEvent_turners]
  exact foldl_pushEvt (·.turners) (fun p r t => pushEvt_turners p r t) _ _ s
@[simp] theorem sendEvent_near (code : Nat) (b : Bytes) (s : State) : (sendEvent code b s).near = s.near := by
  simp only [sendEvent, wakeHost_near, traceEvent_near]
  exact foldl_pushEvt (·.near) (fun p r t => pushEvt_near p r t) _ _ s
@[simp] theorem sendEvent_main (code : Nat) (b : Bytes) (s : State) : (sendEvent code b s).main = s.main := by
  simp only [sendEvent, wakeHost_main, traceEvent_main]
  exact foldl_pushEvt (·.main) (fun p r t => pushEvt_main p r t) _ _ s
@[simp] theorem sendEvent_sync (code : Nat) (b : Bytes) (s : State) : (sendEvent code b s).sync = s.sync := by
  simp only [sendEvent, wakeHost_sync, traceEvent_sync]
  exact foldl_pushEvt (·.sync) (fun p r t => pushEvt_sync p r t) _ _ s
@[simp] theorem sendEvent_gra (code : Nat) (b : Bytes) (s : State) : (sendEvent code b s).gra = s.gra := by
  simp only [sendEvent, wakeHost_gra, traceEvent_gra]
  exact foldl_pushEvt (·.gra) (fun p r t => pushEvt_gra p r t) _ _ s
@[simp] theorem sendEvent_obj (code : Nat) (b : Bytes) (s : State) : (sendEvent code b s).obj = s.obj := by
  simp only [sendEvent, wakeHost_obj, traceEvent_obj]
  exact foldl_pushEvt (·.obj) (fun p r t => pushEvt_obj p r t) _ _ s
@[simp] theorem sendEvent_cave (code : Nat) (b : Bytes) (s : State) : (sendEvent code b s).cave = s.cave := by
  simp only [sendEvent, wakeHost_cave, traceEvent_cave]
  exact foldl_pushEvt (·.cave) (fun p r t => pushEvt_cave p r t) _ _ s
@[simp] theorem sendEvent_dx (code : Nat) (b : Bytes) (s : State) : (sendEvent code b s).dx = s.dx := by
  simp only [sendEvent, wakeHost_dx, traceEvent_dx]
  exact foldl_pushEvt (·.dx) (fun p r t => pushEvt_dx p r t) _ _ s
@[simp] theorem sendEvent_cmp (code : Nat) (b : Bytes) (s : State) : (sendEvent code b s).cmp = s.cmp := by
  simp only [sendEvent, wakeHost_cmp, traceEvent_cmp]
  exact foldl_pushEvt (·.cmp) (fun p r t => pushEvt_cmp p r t) _ _ s
@[simp] theorem sendEvent_kve (code : Nat) (b : Bytes) (s : State) : (sendEvent code b s).kve = s.kve := by
  simp only [sendEvent, wakeHost_kve, traceEvent_kve]
  exact foldl_pushEvt (·.kve) (fun p r t => pushEvt_kve p r t) _ _ s
@[simp] theorem sendEvent_acc (code : Nat) (b : Bytes) (s : State) : (sendEvent code b s).acc = s.acc := by
  simp only [sendEvent, wakeHost_acc, traceEvent_acc]
  exact foldl_pushEvt (·.acc) (fun p r t => pushEvt_acc p r t) _ _ s
@[simp] theorem sendEvent_wgt (code : Nat) (b : Bytes) (s : State) : (sendEvent code b s).wgt = s.wgt := by
  simp only [sendEvent, wakeHost_wgt, traceEvent_wgt]
  exact foldl_pushEvt (·.wgt) (fun p r t => pushEvt_wgt p r t) _ _ s
@[simp] theorem sendEvent_fab (code : Nat) (b : Bytes) (s : State) : (sendEvent code b s).fab = s.fab := by
  simp only [sendEvent, wakeHost_fab, traceEvent_fab]
  exact foldl_pushEvt (·.fab) (fun p r t => pushEvt_fab p r t) _ _ s
@[simp] theorem sendEvent_sec (code : Nat) (b : Bytes) (s : State) : (sendEvent code b s).sec = s.sec := by
  simp only [sendEvent, wakeHost_sec, traceEvent_sec]
  exact foldl_pushEvt (·.sec) (fun p r t => pushEvt_sec p r t) _ _ s
@[simp] theorem sendEvent_pwr (code : Nat) (b : Bytes) (s : State) : (sendEvent code b s).pwr = s.pwr := by
  simp only [sendEvent, wakeHost_pwr, traceEvent_pwr]
  exact foldl_pushEvt (·.pwr) (fun p r t => pushEvt_pwr p r t) _ _ s
@[simp] theorem sendEvent_flt (code : Nat) (b : Bytes) (s : State) : (sendEvent code b s).flt = s.flt := by
  simp only [sendEvent, wakeHost_flt, traceEvent_flt]
  exact foldl_pushEvt (·.flt) (fun p r t => pushEvt_flt p r t) _ _ s
@[simp] theorem sendEvent_rs (code : Nat) (b : Bytes) (s : State) : (sendEvent code b s).rs = s.rs := by
  simp only [sendEvent, wakeHost_rs, traceEvent_rs]
  exact foldl_pushEvt (·.rs) (fun p r t => pushEvt_rs p r t) _ _ s
@[simp] theorem sendEvent_host_link (code : Nat) (b : Bytes) (s : State) : (sendEvent code b s).host.link = s.host.link := by
  simp only [sendEvent, wakeHost_host, traceEvent_host]
  exact foldl_pushEvt (·.host.link) (fun p r t => pushEvt_host_link p r t) _ _ s
@[simp] theorem sendEvent_host_linkPm (code : Nat) (b : Bytes) (s : State) : (sendEvent code b s).host.linkPm = s.host.linkPm := by
  simp only [sendEvent, wakeHost_host, traceEvent_host]
  exact foldl_pushEvt (·.host.linkPm) (fun p r t => pushEvt_host_linkPm p r t) _ _ s
@[simp] theorem sendEvent_host_configured (code : Nat) (b : Bytes) (s : State) : (sendEvent code b s).host.configured = s.host.configured := by
  simp only [sendEvent, wakeHost_host, traceEvent_host]
  exact foldl_pushEvt (·.host.configured) (fun p r t => pushEvt_host_configured p r t) _ _ s
@[simp] theorem sendEvent_host_commands (code : Nat) (b : Bytes) (s : State) : (sendEvent code b s).host.commands = s.host.commands := by
  simp only [sendEvent, wakeHost_host, traceEvent_host]
  exact foldl_pushEvt (·.host.commands) (fun p r t => pushEvt_host_commands p r t) _ _ s
@[simp] theorem sendEvent_host_records (code : Nat) (b : Bytes) (s : State) : (sendEvent code b s).host.records = s.host.records := by
  simp only [sendEvent, wakeHost_host, traceEvent_host]
  exact foldl_pushEvt (·.host.records) (fun p r t => pushEvt_host_records p r t) _ _ s
@[simp] theorem sendEvent_host_discarded (code : Nat) (b : Bytes) (s : State) : (sendEvent code b s).host.discarded = s.host.discarded := by
  simp only [sendEvent, wakeHost_host, traceEvent_host]
  exact foldl_pushEvt (·.host.discarded) (fun p r t => pushEvt_host_discarded p r t) _ _ s
@[simp] theorem sendEvent_host_csOut (code : Nat) (b : Bytes) (s : State) : (sendEvent code b s).host.csOut = s.host.csOut := by
  simp only [sendEvent, wakeHost_host, traceEvent_host]
  exact foldl_pushEvt (·.host.csOut) (fun p r t => pushEvt_host_csOut p r t) _ _ s
@[simp] theorem sendEvent_host_stalls (code : Nat) (b : Bytes) (s : State) : (sendEvent code b s).host.stalls = s.host.stalls := by
  simp only [sendEvent, wakeHost_host, traceEvent_host]
  exact foldl_pushEvt (·.host.stalls) (fun p r t => pushEvt_host_stalls p r t) _ _ s
@[simp] theorem sendEvent_host_owner (code : Nat) (b : Bytes) (s : State) : (sendEvent code b s).host.owner = s.host.owner := by
  simp only [sendEvent, wakeHost_host, traceEvent_host]
  exact foldl_pushEvt (·.host.owner) (fun p r t => pushEvt_host_owner p r t) _ _ s
@[simp] theorem sendEvent_host_ownState (code : Nat) (b : Bytes) (s : State) : (sendEvent code b s).host.ownState = s.host.ownState := by
  simp only [sendEvent, wakeHost_host, traceEvent_host]
  exact foldl_pushEvt (·.host.ownState) (fun p r t => pushEvt_host_ownState p r t) _ _ s
@[simp] theorem sendEvent_host_target (code : Nat) (b : Bytes) (s : State) : (sendEvent code b s).host.target = s.host.target := by
  simp only [sendEvent, wakeHost_host, traceEvent_host]
  exact foldl_pushEvt (·.host.target) (fun p r t => pushEvt_host_target p r t) _ _ s
@[simp] theorem sendEvent_host_claims (code : Nat) (b : Bytes) (s : State) : (sendEvent code b s).host.claims = s.host.claims := by
  simp only [sendEvent, wakeHost_host, traceEvent_host]
  exact foldl_pushEvt (·.host.claims) (fun p r t => pushEvt_host_claims p r t) _ _ s
@[simp] theorem sendEvent_host_denied (code : Nat) (b : Bytes) (s : State) : (sendEvent code b s).host.denied = s.host.denied := by
  simp only [sendEvent, wakeHost_host, traceEvent_host]
  exact foldl_pushEvt (·.host.denied) (fun p r t => pushEvt_host_denied p r t) _ _ s
@[simp] theorem sendEvent_host_changes (code : Nat) (b : Bytes) (s : State) : (sendEvent code b s).host.changes = s.host.changes := by
  simp only [sendEvent, wakeHost_host, traceEvent_host]
  exact foldl_pushEvt (·.host.changes) (fun p r t => pushEvt_host_changes p r t) _ _ s
@[simp] theorem sendEvent_host_staged (code : Nat) (b : Bytes) (s : State) : (sendEvent code b s).host.staged = s.host.staged := by
  simp only [sendEvent, wakeHost_host, traceEvent_host]
  exact foldl_pushEvt (·.host.staged) (fun p r t => pushEvt_host_staged p r t) _ _ s
@[simp] theorem sendEvent_host_applying (code : Nat) (b : Bytes) (s : State) : (sendEvent code b s).host.applying = s.host.applying := by
  simp only [sendEvent, wakeHost_host, traceEvent_host]
  exact foldl_pushEvt (·.host.applying) (fun p r t => pushEvt_host_applying p r t) _ _ s
@[simp] theorem sendEvent_host_chgTick (code : Nat) (b : Bytes) (s : State) : (sendEvent code b s).host.chgTick = s.host.chgTick := by
  simp only [sendEvent, wakeHost_host, traceEvent_host]
  exact foldl_pushEvt (·.host.chgTick) (fun p r t => pushEvt_host_chgTick p r t) _ _ s
@[simp] theorem sendEvent_host_conflict (code : Nat) (b : Bytes) (s : State) : (sendEvent code b s).host.conflict = s.host.conflict := by
  simp only [sendEvent, wakeHost_host, traceEvent_host]
  exact foldl_pushEvt (·.host.conflict) (fun p r t => pushEvt_host_conflict p r t) _ _ s
@[simp] theorem sendEvent_host_chgSel (code : Nat) (b : Bytes) (s : State) : (sendEvent code b s).host.chgSel = s.host.chgSel := by
  simp only [sendEvent, wakeHost_host, traceEvent_host]
  exact foldl_pushEvt (·.host.chgSel) (fun p r t => pushEvt_host_chgSel p r t) _ _ s
@[simp] theorem sendEvent_host_applied (code : Nat) (b : Bytes) (s : State) : (sendEvent code b s).host.applied = s.host.applied := by
  simp only [sendEvent, wakeHost_host, traceEvent_host]
  exact foldl_pushEvt (·.host.applied) (fun p r t => pushEvt_host_applied p r t) _ _ s
@[simp] theorem sendEvent_host_refused (code : Nat) (b : Bytes) (s : State) : (sendEvent code b s).host.refused = s.host.refused := by
  simp only [sendEvent, wakeHost_host, traceEvent_host]
  exact foldl_pushEvt (·.host.refused) (fun p r t => pushEvt_host_refused p r t) _ _ s
@[simp] theorem sendEvent_host_mgtCmd (code : Nat) (b : Bytes) (s : State) : (sendEvent code b s).host.mgtCmd = s.host.mgtCmd := by
  simp only [sendEvent, wakeHost_host, traceEvent_host]
  exact foldl_pushEvt (·.host.mgtCmd) (fun p r t => pushEvt_host_mgtCmd p r t) _ _ s
@[simp] theorem sendEvent_host_mgtData (code : Nat) (b : Bytes) (s : State) : (sendEvent code b s).host.mgtData = s.host.mgtData := by
  simp only [sendEvent, wakeHost_host, traceEvent_host]
  exact foldl_pushEvt (·.host.mgtData) (fun p r t => pushEvt_host_mgtData p r t) _ _ s
@[simp] theorem sendEvent_host_mgtOut (code : Nat) (b : Bytes) (s : State) : (sendEvent code b s).host.mgtOut = s.host.mgtOut := by
  simp only [sendEvent, wakeHost_host, traceEvent_host]
  exact foldl_pushEvt (·.host.mgtOut) (fun p r t => pushEvt_host_mgtOut p r t) _ _ s
@[simp] theorem sendEvent_host_dynAddr (code : Nat) (b : Bytes) (s : State) : (sendEvent code b s).host.dynAddr = s.host.dynAddr := by
  simp only [sendEvent, wakeHost_host, traceEvent_host]
  exact foldl_pushEvt (·.host.dynAddr) (fun p r t => pushEvt_host_dynAddr p r t) _ _ s
@[simp] theorem sendEvent_host_hdr (code : Nat) (b : Bytes) (s : State) : (sendEvent code b s).host.hdr = s.host.hdr := by
  simp only [sendEvent, wakeHost_host, traceEvent_host]
  exact foldl_pushEvt (·.host.hdr) (fun p r t => pushEvt_host_hdr p r t) _ _ s
@[simp] theorem sendEvent_host_nacks (code : Nat) (b : Bytes) (s : State) : (sendEvent code b s).host.nacks = s.host.nacks := by
  simp only [sendEvent, wakeHost_host, traceEvent_host]
  exact foldl_pushEvt (·.host.nacks) (fun p r t => pushEvt_host_nacks p r t) _ _ s

end Sys2Proof.Machine
end

