-- ==== Sys2Proof/Laws/Memory.lean ====
section
/-! SUPPORT. Memories: every operation keeps the canonical form, and what a byte reads as after it. Tables likewise. -/

namespace Sys2Proof.Machine

open Sys2Proof

theorem wf_iff (m : Memory) : m.wf = true ↔ m.Pairwise (fun a b => a.1 < b.1) ∧ ∀ c ∈ m, c.2 ≠ 0 := by
  simp [Memory.wf]

theorem wf_nil : Memory.wf [] = true := rfl

theorem wf_filter {m : Memory} (h : m.wf = true) (p : Host.Cell → Bool) : Memory.wf (m.filter p) = true := by
  rw [wf_iff] at *
  exact ⟨h.1.filter _, fun c hc => h.2 c (List.mem_filter.1 hc).1⟩

theorem cells_bounds (a : Nat) (bs : Bytes) : ∀ c ∈ cells a bs, a ≤ c.1 ∧ c.1 < a + bs.length ∧ c.2 ≠ 0 := by
  induction bs generalizing a with
  | nil => simp [cells]
  | cons b bs ih =>
    intro c hc
    simp only [cells] at hc
    split at hc
    · have := ih (a + 1) c hc; simp only [List.length_cons]; exact ⟨by omega, by omega, this.2.2⟩
    · rcases List.mem_cons.1 hc with rfl | hc
      · simp only [List.length_cons]; exact ⟨Nat.le_refl _, by omega, by assumption⟩
      · have := ih (a + 1) c hc; simp only [List.length_cons]; exact ⟨by omega, by omega, this.2.2⟩

theorem cells_sorted (a : Nat) (bs : Bytes) : (cells a bs).Pairwise fun x y => x.1 < y.1 := by
  induction bs generalizing a with
  | nil => simp [cells]
  | cons b bs ih =>
    simp only [cells]
    split
    · exact ih _
    · refine List.pairwise_cons.2 ⟨fun c hc => ?_, ih _⟩
      have := (cells_bounds _ _ c hc).1
      show a < c.1
      omega

theorem wf_cells (a : Nat) (bs : Bytes) : Memory.wf (cells a bs) = true := by
  rw [wf_iff]; exact ⟨cells_sorted a bs, fun c hc => (cells_bounds a bs c hc).2.2⟩

theorem wf_memOf (bs : Bytes) : Memory.wf (memOf bs) = true := wf_cells 0 bs

theorem wf_join {x y z : Memory} {a b : Nat} (hx : x.wf = true) (hy : y.wf = true) (hz : z.wf = true) (h : a ≤ b)
    (h1 : ∀ c ∈ x, c.1 < a) (h2 : ∀ c ∈ y, a ≤ c.1 ∧ c.1 < b) (h3 : ∀ c ∈ z, b ≤ c.1) :
    Memory.wf (x ++ y ++ z) = true := by
  rw [wf_iff] at *
  refine ⟨?_, fun c hc => ?_⟩
  · rw [List.pairwise_append, List.pairwise_append]
    refine ⟨⟨hx.1, hy.1, fun c hc d hd => ?_⟩, hz.1, fun c hc d hd => ?_⟩
    · have := h1 c hc; have := h2 d hd; omega
    · rcases List.mem_append.1 hc with hc | hc
      · have := h1 c hc; have := h3 d hd; omega
      · have := h2 c hc; have := h3 d hd; omega
  · rcases List.mem_append.1 hc with hc | hc
    · rcases List.mem_append.1 hc with hc | hc
      · exact hx.2 c hc
      · exact hy.2 c hc
    · exact hz.2 c hc

/-- A write keeps the canonical form. -/
theorem wf_mwrite {m : Memory} (h : m.wf = true) (a : Nat) (bs : Bytes) : Memory.wf (mwrite m a bs) = true := by
  unfold mwrite
  refine wf_join (a := a) (b := a + bs.length) (wf_filter h _) (wf_cells a bs) (wf_filter h _) (by omega) ?_ ?_ ?_
  · intro c hc; simpa using (List.mem_filter.1 hc).2
  · intro c hc; have := cells_bounds a bs c hc; omega
  · intro c hc; simpa using (List.mem_filter.1 hc).2

/-- Zeroing keeps the canonical form. -/
theorem wf_mzero {m : Memory} (h : m.wf = true) (a n : Nat) : Memory.wf (mzero m a n) = true := wf_filter h _

/-- Cells moved by one distance keep the canonical form. -/
theorem wf_map_add {m : Memory} (h : m.wf = true) (f : Nat → Nat) (hf : ∀ c ∈ m, ∀ d ∈ m, c.1 < d.1 → f c.1 < f d.1) :
    Memory.wf (m.map fun c => (f c.1, c.2)) = true := by
  rw [wf_iff] at *
  refine ⟨?_, ?_⟩
  · rw [List.pairwise_map]
    exact h.1.imp_of_mem fun {c d} hc hd hlt => hf c hc d hd hlt
  · intro c hc
    obtain ⟨d, hd, rfl⟩ := List.mem_map.1 hc
    exact h.2 d hd

/-- A slice of a memory is in canonical form. -/
theorem wf_mslice {m : Memory} (h : m.wf = true) (a n : Nat) : Memory.wf (mslice m a n) = true := by
  unfold mslice
  refine wf_map_add (wf_filter h _) (fun x => x - a) fun c hc d hd hlt => ?_
  have := (List.mem_filter.1 hc).2; have := (List.mem_filter.1 hd).2
  simp at *; omega

/-- A copy keeps the canonical form. -/
theorem wf_mcopy {src dst : Memory} (hs : src.wf = true) (hd : dst.wf = true) (a b n : Nat) :
    Memory.wf (mcopy src a dst b n) = true := by
  unfold mcopy
  refine wf_join (a := b) (b := b + n) (wf_filter hd _)
    (wf_map_add (wf_filter hs _) (fun x => x - a + b) fun c hc d hd hlt => ?_) (wf_filter hd _) (by omega) ?_ ?_ ?_
  · have := (List.mem_filter.1 hc).2; have := (List.mem_filter.1 hd).2
    simp at *; omega
  · intro c hc; simpa using (List.mem_filter.1 hc).2
  · intro c hc
    obtain ⟨d, hd, rfl⟩ := List.mem_map.1 hc
    have := (List.mem_filter.1 hd).2
    simp at *; omega
  · intro c hc; simpa using (List.mem_filter.1 hc).2

/-! ## What a byte reads as -/

theorem find_filter_eq {m : Memory} (p : Host.Cell → Bool) (x : Nat) (h : ∀ c ∈ m, c.1 = x → p c = true) :
    (m.filter p).find? (fun c => c.1 == x) = m.find? fun c => c.1 == x := by
  induction m with
  | nil => rfl
  | cons c m ih =>
    have ih := ih fun d hd => h d (List.mem_cons_of_mem _ hd)
    by_cases hx : c.1 = x
    · simp [List.filter, h c List.mem_cons_self hx, hx]
    · by_cases hp : p c <;> simp [List.filter, hp, hx, ih]

theorem find_filter_none {m : Memory} (p : Host.Cell → Bool) (x : Nat) (h : ∀ c ∈ m, c.1 = x → p c = false) :
    (m.filter p).find? (fun c => c.1 == x) = none := by
  rw [List.find?_eq_none]
  intro c hc hx
  obtain ⟨hm, hp⟩ := List.mem_filter.1 hc
  rw [h c hm (by simpa using hx)] at hp
  exact absurd hp (by simp)

theorem find_cells (a : Nat) (bs : Bytes) (x : Nat) (h : a ≤ x) :
    (((cells a bs).find? fun c => c.1 == x).map (·.2)).getD 0 = bs.getD (x - a) 0 := by
  induction bs generalizing a with
  | nil => simp [cells]
  | cons b bs ih =>
    simp only [cells]
    by_cases hx : a = x
    · subst hx
      have hn : (cells (a + 1) bs).find? (fun c => c.1 == a) = none := by
        rw [List.find?_eq_none]; intro c hc; have := (cells_bounds _ _ c hc).1; simp; omega
      split
      · simp [*]
      · simp
    · have he : x - a = (x - (a + 1)) + 1 := by omega
      split
      · rw [ih (a + 1) (by omega), he]; simp
      · rw [List.find?_cons]
        have : ((a, b).1 == x) = false := by simp; exact hx
        rw [this, ih (a + 1) (by omega), he]; simp

/-- A byte written reads back; every other byte reads as before. -/
theorem mbyte_mwrite (m : Memory) (a : Nat) (bs : Bytes) (x : Nat) :
    mbyte (mwrite m a bs) x = if a ≤ x ∧ x < a + bs.length then bs.getD (x - a) 0 else mbyte m x := by
  unfold mbyte mwrite
  rw [List.find?_append, List.find?_append]
  by_cases h1 : x < a
  · rw [find_filter_eq _ _ (by intro c _ hc; simp; omega)]
    rw [if_neg (by omega)]
    have hc : (cells a bs).find? (fun c => c.1 == x) = none := by
      rw [List.find?_eq_none]; intro c hc; have := (cells_bounds _ _ c hc).1; simp; omega
    rw [hc, find_filter_none _ _ (by intro c _ hc; simp; omega)]
    cases (m.find? fun c => c.1 == x) <;> rfl
  · rw [find_filter_none _ _ (by intro c _ hc; simp; omega)]
    by_cases h2 : x < a + bs.length
    · rw [if_pos ⟨by omega, h2⟩, find_filter_none (m := m) _ _ (by intro c _ hc; simp; omega)]
      rw [← find_cells a bs x (by omega)]
      cases ((cells a bs).find? fun c => c.1 == x) <;> rfl
    · rw [if_neg (by omega)]
      have hc : (cells a bs).find? (fun c => c.1 == x) = none := by
        rw [List.find?_eq_none]; intro c hc; have := (cells_bounds _ _ c hc).2.1; simp; omega
      rw [hc, find_filter_eq _ _ (by intro c _ hc; simp; omega)]
      cases (m.find? fun c => c.1 == x) <;> rfl

/-- A byte zeroed reads 0; every other byte reads as before. -/
theorem mbyte_mzero (m : Memory) (a n x : Nat) :
    mbyte (mzero m a n) x = if a ≤ x ∧ x < a + n then 0 else mbyte m x := by
  unfold mbyte mzero
  by_cases h : a ≤ x ∧ x < a + n
  · rw [if_pos h, find_filter_none _ _ (by intro c _ hc; simp; omega)]; rfl
  · rw [if_neg h, find_filter_eq _ _ (by intro c _ hc; simp; omega)]

/-! ## Tables -/

/-- An entry set reads back. -/
theorem tget_tset_same {α : Type} (t : Tab α) (k : Nat) (v : α) : tget (tset t k v) k = some v := by
  have h : (t.filter fun e => e.1 < k).find? (fun e => e.1 == k) = none := by
    rw [List.find?_eq_none]; intro e he; have := (List.mem_filter.1 he).2; simp at *; omega
  simp [tget, tset, List.find?_append, h]

theorem tab_find_filter {α : Type} (t : Tab α) (p : Nat × α → Bool) (k : Nat) (h : ∀ e ∈ t, e.1 = k → p e = true) :
    (t.filter p).find? (fun e => e.1 == k) = t.find? fun e => e.1 == k := by
  induction t with
  | nil => rfl
  | cons c t ih =>
    have ih := ih fun d hd => h d (List.mem_cons_of_mem _ hd)
    by_cases hx : c.1 = k
    · simp [List.filter, h c List.mem_cons_self hx, hx]
    · by_cases hp : p c <;> simp [List.filter, hp, hx, ih]

theorem tab_find_none {α : Type} (t : Tab α) (p : Nat × α → Bool) (k : Nat) (h : ∀ e ∈ t, e.1 = k → p e = false) :
    (t.filter p).find? (fun e => e.1 == k) = none := by
  rw [List.find?_eq_none]
  intro c hc hx
  obtain ⟨hm, hp⟩ := List.mem_filter.1 hc
  rw [h c hm (by simpa using hx)] at hp
  exact absurd hp (by simp)

/-- Every other entry reads as before. -/
theorem tget_tset_ne {α : Type} (t : Tab α) (k j : Nat) (v : α) (h : j ≠ k) : tget (tset t k v) j = tget t j := by
  unfold tget tset
  rw [List.find?_append, List.find?_cons]
  have hk : ((k, v).1 == j) = false := by simp; exact fun e => h e.symm
  rw [hk]
  rcases Nat.lt_or_gt_of_ne h with hl | hl
  · rw [tab_find_filter _ _ _ (by intro e _ he; simp; omega), tab_find_none _ _ _ (by intro e _ he; simp; omega)]
    cases (t.find? fun e => e.1 == j) <;> rfl
  · rw [tab_find_none _ _ _ (by intro e _ he; simp; omega), tab_find_filter _ _ _ (by intro e _ he; simp; omega)]
    rfl

/-- An entry erased is gone. -/
theorem tget_terase_same {α : Type} (t : Tab α) (k : Nat) : tget (terase t k) k = none := by
  simp [tget, terase]

/-- Every other entry reads as before. -/
theorem tget_terase_ne {α : Type} (t : Tab α) (k j : Nat) (h : j ≠ k) : tget (terase t k) j = tget t j := by
  unfold tget terase
  rw [tab_find_filter _ _ _ (by intro e _ he; simp [he, h])]

end Sys2Proof.Machine
end

