-- ==== Sys2Proof/Laws/Own.lean ====
section
/-! SUPPORT. Change sets and ownership: the check of a set reads nothing of the ports' traffic, and what a change of owner
leaves. -/

namespace Sys2Proof.Machine

open Sys2Proof

theorem rsAt_host (s : State) (h : HostSt) (a : Nat) : rsAt { s with host := h } a = rsAt s a := rfl

theorem rangeConflicts_host (s t : State) (h k : HostSt) (e : h.staged = s.host.staged) :
    rangeConflicts { s with host := h } { t with host := k } = rangeConflicts s t := by
  unfold rangeConflicts
  simp only [rsAt_host]
  simp only [e]
  rfl

theorem classRemade_host (s t : State) (h k : HostSt) :
    classRemade { s with host := h } { t with host := k } = classRemade s t := rfl

theorem newExtents_host (s t : State) (h k : HostSt) (e : h.staged = s.host.staged) :
    newExtents { s with host := h } { t with host := k } = newExtents s t := by
  unfold newExtents
  simp only [classRemade_host, e]
  rfl

theorem rebuildPages_host (s t : State) (h k : HostSt) (e : h.staged = s.host.staged) :
    rebuildPages { s with host := h } { t with host := k } = { rebuildPages s t with host := k } := by
  unfold rebuildPages
  rw [newExtents_host _ _ _ _ e]

theorem stagedAmong_host (s : State) (h : HostSt) (e : h.staged = s.host.staged) (as : List Nat) :
    stagedAmong { s with host := h } as = stagedAmong s as := by
  unfold stagedAmong
  simp only [e]

theorem capacityConflicts_host (s t : State) (h k : HostSt) (e : h.staged = s.host.staged) :
    capacityConflicts { s with host := h } { t with host := k } = capacityConflicts s t := by
  unfold capacityConflicts
  simp only [rebuildPages_host _ _ _ _ e, stagedAmong_host _ _ e]
  rfl

theorem useConflicts_host (s t : State) (h k : HostSt) :
    useConflicts { s with host := h } { t with host := k } = useConflicts s t := by
  unfold useConflicts
  simp only [classRemade_host]
  rfl

theorem topoConflicts_host (s t : State) (h k : HostSt) (e : h.staged = s.host.staged) :
    topoConflicts { s with host := h } { t with host := k } = topoConflicts s t := by
  unfold topoConflicts
  simp only [e]
  rfl

/-- The check of a set reads, of the host attachment, the staged set alone. -/
theorem checkSet_host (s : State) (h : HostSt) (e : h.staged = s.host.staged) : checkSet { s with host := h } = checkSet s := by
  have o : ∀ v, overlay { s with host := h } v = { overlay s v with host := h } := fun _ => rfl
  simp only [checkSet, o, e, rangeConflicts_host _ _ _ _ e, capacityConflicts_host _ _ _ _ e, useConflicts_host,
    topoConflicts_host _ _ _ _ e]
  rfl

@[simp] theorem checkSet_entered (h : Hdr) (c : Instr) (s : State) : checkSet (entered h c s) = checkSet s :=
  checkSet_host s (entered h c s).host (by simp)

@[simp] theorem mapBusy_entered (h : Hdr) (c : Instr) (s : State) : mapBusy (entered h c s) = mapBusy s := by
  obtain ⟨port, _, _, _, _, _, _⟩ := h
  cases port <;> rfl

@[simp] theorem discardSet_owner (s : State) : (discardSet s).host.owner = s.host.owner := by
  unfold discardSet; split <;> simp

@[simp] theorem discardSet_ownState (s : State) : (discardSet s).host.ownState = s.host.ownState := by
  unfold discardSet; split <;> simp

@[simp] theorem discardSet_claims (s : State) : (discardSet s).host.claims = s.host.claims := by
  unfold discardSet; split <;> simp

@[simp] theorem discardSet_target (s : State) : (discardSet s).host.target = s.host.target := by
  unfold discardSet; split <;> simp

@[simp] theorem discardSet_changes (s : State) : (discardSet s).host.changes = s.host.changes := by
  unfold discardSet; split <;> simp

/-- R583: a port that becomes owner. -/
theorem becomeOwner_host (p : Port) (s : State) :
    (becomeOwner p s).host.owner = some p ∧ (becomeOwner p s).host.ownState = 2 ∧ (becomeOwner p s).host.target = none ∧
      (becomeOwner p s).host.claims = [] := by
  unfold becomeOwner setOwner
  split <;> simp_all

/-- R586, R587: ownership given up. -/
theorem loseOwner_host (s : State) :
    (loseOwner s).host.owner = none ∧ (loseOwner s).host.ownState = 1 ∧ (loseOwner s).host.claims = [] := by
  unfold loseOwner openElection setOwner
  refine ⟨?_, rfl, rfl⟩
  split <;> simp_all

end Sys2Proof.Machine
end

