-- ==== Sys2Proof/Tests/Slice0.lean ====
section
/-! SUPPORT. Tests of the model: an ill-formed term for each check of WellFormed.lean, words written out from the manual's
encodings, single steps, and for every statement with hypotheses a state and operands that meet them. -/

namespace Sys2Proof.Tests

open Sys2Proof Sys2Proof.Machine

-- one test after another: the tests wait for the kernel, and each that waits would hold a thread
set_option Elab.async false

/-! ## States -/

/-- A command record of port `p` without data. -/
def rec0 (p : Port) : Hdr := { port := p, tag := 7, flags := 0, stream := 0, dlen := 0, rsv := 0, tail := 0 }

/-- A command record of the USB port with `n` bytes of data on stream 1. -/
def recN (n : Nat) : Hdr := { port := .usb, tag := 7, flags := 1, stream := 1, dlen := n, rsv := 0, tail := 0 }

/-- A port that is attached. -/
def port1 : PortQ := { PortQ.reset with attached := true }

/-- A powered package that is READY, all domains ON, with USB and management attached and USB the owner. -/
def base : State :=
  { State.reset with
    pkg := { Pkg.reset with phase := .ready, vstby := true, vin6 := true }
    pwr := { Pwr.reset with dstate := List.replicate 80 0 }
    host := { HostSt.reset with usb := port1, mgt := port1, fabric := port1, link := 2, configured := true, owner := some .usb,
                                ownState := 2 } }

/-- `base` with the bytes `d` arrived on stream 1. -/
def withData (d : Bytes) (s : State) : State := s.modPort .usb fun q => { q with sbuf := [(1, d)] }

/-- `base` with collection 0 keyed. -/
def keyed0 : State :=
  { base with sec := { base.sec with keys := [(0, { state := 2, xPriv := [], kPriv := [], key := [1], digest := none })] } }

/-- A record is accepted: the check, as a decidable proposition. -/
theorem accepted_iff (h : Hdr) (n : Need) (s : State) :
    Accepted h n s ↔ takes h.port s = true ∧ refusal h n s = none ∧ h.dlen = 0 :=
  ⟨fun a => ⟨a.taken, a.fine, a.bare⟩, fun a => ⟨a.1, a.2.1, a.2.2⟩⟩

/-- A record with data is accepted: the check, as a decidable proposition. -/
theorem acceptedData_iff (h : Hdr) (n : Need) (s : State) (d : Bytes) :
    AcceptedData h n s d ↔ takes h.port s = true ∧ refusal h n s = none ∧ h.dlen ≠ 0 ∧
      (h.port = .mgt ∧ d = mread s.host.mgtData 0 h.dlen ∨
        h.port ≠ .mgt ∧ streamBusy h.port h.stream s = false ∧ h.dlen ≤ (streamBuf h.port h.stream s).length ∧
          d = (streamBuf h.port h.stream s).take h.dlen) :=
  ⟨fun a => ⟨a.taken, a.fine, a.some, a.here⟩, fun a => ⟨a.1, a.2.1, a.2.2.1, a.2.2.2⟩⟩

/-- An owner writes: the check, as a decidable proposition. -/
theorem ownerWrites_iff (p : Port) (s : State) : OwnerWrites p s ↔ canWrite p s = true ∧ s.host.owner = some p :=
  ⟨fun a => ⟨a.able, a.owner⟩, fun a => ⟨a.1, a.2⟩⟩

/-- A vat executes: the check, as a decidable proposition. -/
theorem vatRuns_iff (v : Nat) (w : BitVec 128) (op : Nat) (s : State) (k : TaskRef) :
    VatRuns v w op s k ↔ vatReady s v w op = true ∧ (s.vat v).bound = some k ∧ vatCommon (popCmd s v) k w = none :=
  ⟨fun a => ⟨a.ready, a.bound, a.fine⟩, fun a => ⟨a.1, a.2.1, a.2.2⟩⟩

/-- A turner executes: the check, as a decidable proposition. -/
theorem trnRuns_iff (t : Nat) (s : State) (k : TaskRef) :
    TrnRuns t s k ↔ trnReady s t = true ∧ (s.trn t).bound = some k :=
  ⟨fun a => ⟨a.ready, a.bound⟩, fun a => ⟨a.1, a.2⟩⟩

/-- A message is acted on: the check, as a decidable proposition. -/
theorem heard_iff (m : Msg) (s : State) : Heard m s ↔ serviceOn s = true ∧ m.src < 24 ∧
    s.fab.lost.contains m.src = false ∧ s.fab.barred.contains m.src = false ∧ s.fab.seen.contains (m.src, m.serial) = false :=
  ⟨fun a => ⟨a.able, a.named, a.kept, a.admitted, a.fresh⟩, fun a => ⟨a.1, a.2.1, a.2.2.1, a.2.2.2.1, a.2.2.2.2⟩⟩

/-! ## Well-formedness: one ill-formed term for each check -/

/-- R77, R155, R319, R438, R504: unit numbers out of range are refused. -/
theorem test_ill_units :
    wellFormed (.vatIdleEntry 16) = false ∧ wellFormed (.dissueResume 64) = false ∧ wellFormed (.residencySpaceGrant 8) = false ∧
    wellFormed (.moveStart 0 16) = false ∧ wellFormed (.trainingRetry 6) = false ∧ wellFormed (.domainFall 80) = false ∧
    wellFormed (.paceLapse 32) = false ∧ wellFormed (.taskDispatch true 16) = false ∧ wellFormed (.taskDispatch false 64) = false ∧
    wellFormed (.votes (some 80)) = false := by decide

/-- R441, R447, R566, R577, R642, R643: fields wider than their places are refused. -/
theorem test_ill_fields :
    wellFormed (.nak 0 4096) = false ∧ wellFormed (.controlResend 0 65536) = false ∧ wellFormed (.peekCs (2 ^ 32) 1) = false ∧
    wellFormed (.energyInterval 0 (2 ^ 64) []) = false ∧ wellFormed (.csWrite 0 [1, 2 ^ 32]) = false ∧
    wellFormed (.ownClaim { rec0 .usb with flags := 256 }) = false ∧ wellFormed (.loadDone ⟨32, 0, 0⟩ 0) = false ∧
    wellFormed (.accSubmit (rec0 .usb) ⟨0, 0, 2 ^ 32, 0, 0, 0, 0, 0, 0, 0, 0, 0⟩) = false ∧
    wellFormed (.objCreate (rec0 .usb) 0 (2 ^ 64) 0 0 0 0 0 0) = false := by decide

/-- R232, R441, R523, R596: byte strings and lists of the wrong form are refused. -/
theorem test_ill_forms :
    wellFormed (.flitReceive 0 []) = false ∧ wellFormed (.report ⟨0, 0, 0⟩ []) = false ∧
    wellFormed (.energyInterval 0 5 [⟨64, 0, 1⟩]) = false ∧
    wellFormed (.coldStart ⟨true, true, false, true, true, true, [(0, 64)], 900⟩) = false := by decide

/-- R99, R100, R163, R164: a vat word of another OP, an assigned OP as unassigned, a turner word with a reserved bit or another
row's FN, and a legal word as illegal, are refused. -/
theorem test_ill_words :
    wellFormed (.clear 0 6#128) = false ∧ wellFormed (.vatOpUnassigned 0 5#128) = false ∧
    wellFormed (.int 0 ⟨1, 2, 3, 0, 1⟩) = false ∧ wellFormed (.int 0 ⟨1, 2, 3, 0x12, 0⟩) = false ∧
    wellFormed (.ssig 0 ⟨0, 0, 5, 0⟩) = false ∧ wellFormed (.trnIllegal 0 0b00011000010001000000000000000001#32) = false := by decide

/-- Well-formed terms of the same rows are not refused. -/
theorem test_well :
    wellFormed (.clear 15 5#128) = true ∧ wellFormed (.vatOpUnassigned 0 10#128) = true ∧ wellFormed (.int 63 ⟨1, 2, 3, 0, 0⟩) = true ∧
    wellFormed (.ssig 0 ⟨0, 0, 5, 1⟩) = true ∧ wellFormed (.trnIllegal 0 0#32) = true ∧ wellFormed (.nak 5 4095) = true ∧
    wellFormed (.domainFall 79) = true ∧ wellFormed (.ownClaim (rec0 .usb)) = true := by decide

/-! ## Words written out from the encodings of R162 and R164 -/

/-- R162, R164, R165: INT d3 ← s1 + s2, format N. -/
theorem test_word_int : decodeTrn 0 0b00011_00001_00010_0000000_000_0000001#32 = .int 0 ⟨3, 1, 2, 0, 0⟩ := by decide
/-- R162, R164: ADDI s5 ← s0 − 1, format I. -/
theorem test_word_addi : decodeTrn 0 0b00101_00000_111111111111111_0000010#32 = .addi 0 ⟨5, 0, 0x7FFF⟩ := by decide
/-- R162, R164: BEQ s1, s2, +2, format I. -/
theorem test_word_beq : decodeTrn 0 0b00010_00001_000000000000010_0010000#32 = .beq 0 ⟨2, 1, 2⟩ := by decide
/-- R162, R164: LD s4 from s6 + 16, W 3, format M. -/
theorem test_word_ld : decodeTrn 0 0b00100_00110_011_000000000010_0100000#32 = .ld 0 ⟨4, 6, 3, 2⟩ := by decide
/-- R162, R164: VST v9 to s1 − 64, format M. -/
theorem test_word_vst : decodeTrn 0 0b01001_00001_000_111111111111_0100100#32 = .vst 0 ⟨9, 1, 0, 0xFFF⟩ := by decide
/-- R162, R164: VARITH v1 ← v2 + v3 in FP32 under p1, format V. -/
theorem test_word_varith : decodeTrn 0 0b00001_00010_00011_001_100_0000_0110000#32 = .varith 0 ⟨1, 2, 3, 1, 4, 0⟩ := by decide
/-- R162, R164: VFMA v1 from v2, v3, v4 in BF16, format X. -/
theorem test_word_vfma : decodeTrn 0 0b00001_00010_00011_00100_00100_0110011#32 = .vfma 0 ⟨1, 2, 3, 4, 4⟩ := by decide
/-- R162, R164: VISSUE s1, s2, format N. -/
theorem test_word_vissue : decodeTrn 0 0b00000_00001_00010_0000000_000_1001000#32 = .vissue 0 ⟨0, 1, 2, 0, 0⟩ := by decide
/-- R162, R164, R190: SWAIT counter 5 for s2, format S; the FN of OP 0x50 names the row. -/
theorem test_word_swait : decodeTrn 0 0b00010_00000_000000000101_000_1010000#32 = .swait 0 ⟨2, 0, 5, 0⟩ := by decide
/-- R162, R164, R192: TEND; the FN of OP 0x54 names the row. -/
theorem test_word_tend : decodeTrn 0 0b00000_00000_000000000000_000_1010100#32 = .tend 0 ⟨0, 0, 0, 0⟩ := by decide
/-- R163: the all-zero word is always illegal; so is a set reserved bit. -/
theorem test_word_zero : decodeTrn 0 0#32 = .trnIllegal 0 0 ∧ wordLegal 0b00011_00001_00010_0000000_100_0000001#32 = false := by decide

/-- R99, R105: the fields of a CLEAR of 2 entries from entry 3 and the groups 0 and 7, with SIG on counter 9. -/
theorem test_word_clear :
    let w : BitVec 128 := 0x4381000945
    vOP w = 5 ∧ vSIG w = true ∧ vSYNC w = 9 ∧ vf w 31 24 = 0x81 ∧ vf w 37 32 = 3 ∧ vf w 43 38 = 1 := by decide

/-! ## A state and operands for the hypotheses of every statement -/

/-- `base` with staged values. -/
def staged (xs : Tab Nat) : State := { base with host := { base.host with staged := xs } }

/-- `base` with another owner and ownership state. -/
def owned (o : Option Port) (n : Nat) : State := { base with host := { base.host with owner := o, ownState := n } }

/-- `base` with a step in flight. -/
def stepping (s : State) : State :=
  { s with acc := { s.acc with steps := [⟨0, 0, 0, 0, 0, 1, [], none⟩] } }

/-- `base` in a package state. -/
def inState (n : Nat) (s : State) : State := { s with pwr := { s.pwr with pkg := n } }

/-- `base` with a port's queues. -/
def queued (p : Port) (q : PortQ) (s : State) : State := s.modPort p fun _ => q

/-- StepTakesFront: both clauses over an empty queue and over a queue of one. -/
theorem witness_StepTakesFront :
    base.pending = [] ∧ ∃ t, step { base with pending := .deadlineCountdown :: base.pending } = .next t ∧ t.tick = 1 := by
  exact ⟨rfl, _, rfl, rfl⟩

/-- StoresStayCanonical: a state with bytes in every store whose step goes on. -/
theorem witness_StoresStayCanonical :
    let s := { base with main := [(5, 1)], near := [(0, 9)] :: base.near.drop 1, pending := [.deadlineCountdown] }
    s.main.wf = true ∧ (∀ m ∈ s.near, Memory.wf m = true) ∧ s.kve.frames.wf = true ∧
      (∀ r, s.wgt.repl = some r → ∀ e ∈ r.plan, e.data.wf = true) ∧ ∃ t, step s = .next t := by
  exact ⟨by decide, by decide, by decide, nofun, _, rfl⟩

/-- RegisterWritesTakeEffect. -/
theorem witness_RegisterWritesTakeEffect :
    OwnerWrites .usb base ∧ 1 < 2 ^ 32 ∧ bit 1 0 = true ∧ (∃ r, rsAt base 0xB0004 = some r) ∧ isMailbox 0xB0004 = false ∧
      base.host.applying = none ∧ Port.mgt ≠ .usb ∧ canWrite .mgt base = true := by
  simp only [ownerWrites_iff]
  exact ⟨by decide, by decide, by decide, ⟨_, rfl⟩, by decide, by decide, by decide, by decide⟩

/-- OwnershipIsClaimedElectedAndMoved: claims under an owner, in an election and with no owner. -/
theorem witness_OwnershipIsClaimedElectedAndMoved :
    (Accepted (rec0 .usb) { anyone := true } base ∧ base.host.owner.isSome = true) ∧
    (Accepted (rec0 .usb) { anyone := true } (owned none 1) ∧ (owned none 1).host.owner = none) ∧
    (Accepted (rec0 .usb) { anyone := true } (owned none 0) ∧ (owned none 0).host.ownState ≠ 1) ∧
    (serviceOn (owned none 1) = true ∧ (owned none 1).host.ownState = 1 ∧ (owned none 1).host.claims = []) ∧
    (let s := { owned none 1 with host := { (owned none 1).host with claims := [(.mgt, none), (.usb, some 7)] } }
     serviceOn s = true ∧ (∀ d ∈ s.host.claims, portRank s .usb ≤ portRank s d.1)) ∧
    (Accepted (rec0 .usb) {} base ∧ portOf 4 = some .monitor ∧ Port.monitor ≠ .usb ∧ base.host.ownState ≠ 3) ∧
    (let s := { owned (some .usb) 3 with host := { (owned (some .usb) 3).host with target := some (.mgt, 9) } }
     Accepted (rec0 .mgt) { anyone := true } s ∧ s.host.ownState = 3 ∧ serviceOn s = true) ∧
    (let s := { owned none 0 with sec := { base.sec with level := 2 } }
     canWrite .monitor s = true ∧ s.host.owner = none) ∧
    (let s := { owned (some .monitor) 2 with sec := { base.sec with level := 2 } }
     canWrite .monitor s = true ∧ s.host.owner = some .monitor) ∧
    serviceOn (owned (some .mgt) 2) = true := by
  simp only [accepted_iff]; decide

/-- ChangeSetsAreCheckedAndDiscarded: a set without a conflict, one with a RANGE conflict. -/
theorem witness_ChangeSetsAreCheckedAndDiscarded :
    (Accepted (rec0 .usb) {} (staged [(0xA0008, 10)]) ∧ checkSet (staged [(0xA0008, 10)]) = none) ∧
    (Accepted (rec0 .usb) {} (staged [(0xA0008, 9)]) ∧ checkSet (staged [(0xA0008, 9)]) = some (0xA0008, 0, 31, 1)) ∧
    OwnerWrites .usb (staged [(0xA0008, 10)]) ∧ serviceOn (staged []) = true ∧ (staged [(0xA0008, 10)]).host.applying = none := by
  simp only [accepted_iff, ownerWrites_iff]; decide

/-- ApplyTakesEffectAtOnce: with and without a step in flight, from a record and from CHG_CTRL. -/
theorem witness_ApplyTakesEffectAtOnce :
    let s := staged [(0xA0008, 60000)]
    Accepted (rec0 .usb) {} s ∧ OwnerWrites .usb s ∧ checkSet s = none ∧ mapBusy s = false ∧ s.host.applying = none ∧
    s.host.staged ≠ [] ∧ s.acc.steps = [] ∧ Accepted (rec0 .usb) {} (stepping s) ∧ OwnerWrites .usb (stepping s) ∧
    checkSet (stepping s) = none ∧ mapBusy (stepping s) = false ∧ (stepping s).acc.steps ≠ [] ∧
    (rsAt s 0xA0008).isSome = true ∧ s.host.staged.Pairwise (fun x y => x.1 < y.1) := by
  simp only [accepted_iff, ownerWrites_iff]; decide

/-- EventsReachAttachedPorts: room, a full queue, a port that is not attached, SLEEP. -/
theorem witness_EventsReachAttachedPorts :
    (base.portq .usb).attached = true ∧ (base.portq .usb).evts.length < 256 ∧
    (let s := queued .mgt { port1 with evts := List.replicate 256 default } base
     (s.portq .mgt).attached = true ∧ 256 ≤ (s.portq .mgt).evts.length) ∧
    ((base.portq .monitor).attached = false ∧ base.host.owner ≠ some .monitor) ∧
    (inState 3 base).pwr.pkg = 3 ∧ base.pwr.pkg ≠ 3 := by decide +kernel

/-- RecordsAreTakenAndAnswered: a NAKed record, the refusals by TAG, mode and owner, an outstanding command answered. -/
theorem witness_RecordsAreTakenAndAnswered :
    takes .usb State.reset = false ∧
    (takes .mgt base = true ∧ refusal (rec0 .mgt) {} base = some stNOT_OWNER ∧ drains (rec0 .mgt) {} base = false ∧
      (base.portq .mgt).outst.any (·.tag == 7) = false) ∧
    (let h := { recN 8 with rsv := 1 }
     takes .usb base = true ∧ refusal h {} base = some stPARAM ∧ drains h {} base = true ∧ streamBusy .usb 1 base = false ∧
       (streamBuf .usb 1 base).length < 8 ∧ drains h {} (withData (zeros 9) base) = true ∧
       8 ≤ (streamBuf .usb 1 (withData (zeros 9) base)).length) ∧
    (let s := entered (rec0 .usb) .help base
     (s.portq .usb).outst.any (·.tag == 7) = true ∧ (findOut .usb 7 s).isSome = true ∧ (s.portq .usb).attached = true) ∧
    (let s := { base with pkg := { base.pkg with phase := .recovery } }
     (s.portq .usb).outst.any (·.tag == 7) = false ∧ s.pkg.phase = .recovery) ∧
    ((base.portq .usb).outst.any (·.tag == 7) = false ∧ base.pkg.phase ≠ .recovery ∧ base.host.owner = some .usb) ∧
    Accepted (rec0 .usb) { anyone := true, recovery := true } base ∧
    (let s := entered (rec0 .usb) .help { base with host := { base.host with usb := PortQ.reset } }
     (findOut .usb 7 s).isSome = true ∧ (s.portq .usb).attached = false) := by
  simp only [accepted_iff]; decide

/-- DataAndRecordsPassThePorts. -/
theorem witness_DataAndRecordsPassThePorts :
    (usbLive base = true ∧ serviceOn base = true ∧ bit (hostFetchStreams base) (32 - 1) = false ∧ streamBusy .usb 32 base = false) ∧
    (let s := addOut (recN 8) true .help base
     s.flt.fatal = false ∧ ((s.portq .usb).outst.find? fun o => o.tag == 7 && o.waitData).any (·.fail.isNone) = true ∧
       ((addOut (recN 8) true .help base (some (3, 0))).portq .usb).outst.any (·.fail.isSome) = true ∧
       (s.acc.tab.all fun e => e.2.arriving != 1) = true ∧ (s.portq .usb).attached = true) ∧
    (let s := queued .usb { port1 with recs := [default] } base
     usbLive s = true ∧ serviceOn s = true ∧ s.host.usb.recs = [default]) ∧
    (let s := queued .usb { port1 with evts := [default] } base
     usbLive s = true ∧ serviceOn s = true ∧ s.host.usb.evts = [default] ∧ s.host.usb.lostEv = 0) := by
  decide

/-- UsbLinkAndVendorRequests: attach, suspend, resume from SLEEP, bus reset with and without ownership, detach, requests. -/
theorem witness_UsbLinkAndVendorRequests :
    (let s := { base with host := { base.host with link := 0 } }
     s.host.link = 0 ∧ usbConnects s = true) ∧
    (base.host.link ≠ 0 ∧ base.pwr.pkg ≠ 3 ∧ serviceOn base = true ∧ base.host.owner = some .usb) ∧
    (inState 3 base).pwr.pkg = 3 ∧ (owned (some .mgt) 2).host.owner ≠ some .usb ∧
    (serviceOn base = true ∧ base.host.usb.attached = true ∧ base.host.ownState ≠ 3 ∧ base.acc.tab = [] ∧ base.obj.fetches = [] ∧
      ∀ p ∈ [Port.usb, .mgt, .fabric, .monitor], (base.portq p).outst = []) ∧
    (usbLive base = true ∧ base.pkg.phase = .ready ∧ rangeOK 0x1000 4 = true ∧ rangeOK 0x1001 4 = false ∧
      rangeOK 0x10700 (4 * [150].length) = true ∧ base.flt.fatal = false) := by decide

/-- R562, R565: the descriptors of a part whose identity is 0xFFFF and whose serial starts with 0x1A; U1 alone at 150 µs. -/
theorem test_usb_descriptors :
    let s := { base with part := { base.part with serial := 0x1A :: base.part.serial.drop 1 } }
    (usbDesc s).vendor = 0xFFFF ∧ (usbDesc s).product = 0xFFFF ∧ (usbDesc s).serial.length = 32 ∧
      (usbDesc s).serial.take 4 = [0x31, 0x41, 0x30, 0x30] ∧ linkRequests s = (true, false) := by decide

/-- ManagementPortAndBus: the doorbell, the queues with and without a record, SLEEP, the bus. -/
theorem witness_ManagementPortAndBus :
    (base.pkg.vio18 = true ∧ base.host.hdr = false ∧ base.pkg.phase = .ready ∧ base.pwr.pkg ≠ 3 ∧
      base.host.mgt.attached = true ∧ base.flt.fatal = false ∧ bit 1 0 = true ∧ base.host.mgt.recs = [] ∧ base.host.mgt.evts = []) ∧
    (let s := queued .mgt { port1 with recs := [default], evts := [default] } base
     s.host.mgt.recs = [default] ∧ s.host.mgt.evts = [default] ∧ s.host.mgt.lostEv = 0 ∧ s.flt.fatal = false) ∧
    (let s := { base with flt := { base.flt with fatal := true } }
     s.flt.fatal = true ∧ s.pkg.phase = .ready) ∧
    (busOn base = true ∧ base.host.dynAddr = none) ∧
    (let s := inState 3 base
     s.pkg.vio18 = true ∧ s.pkg.phase = .ready ∧ s.pwr.pkg = 3 ∧ s.pkg.wakeDriven = false) := by decide

/-- An object of collection 0, 64 bytes at device address 0, with a copy in main store. -/
def obj0 : Obj :=
  { gen := 1, kind := 0, coll := 0, lstate := 2, damaged := false, closing := false, freeing := false, size := 64, dbase := 0,
    home := 0, res := true, ns := List.replicate 8 none, nsmask := 0, place := 0, mstate := 0, nsprom := 0, nsevict := 0, last := 0,
    pins := 0, homeref := 0, dirEntry := 0, used := 0, fmt := 0 }

/-- A state with collection 0 keyed and the objects `os`, from index 0 on. -/
def withObjs (os : List Obj) : State :=
  { keyed0 with obj := { keyed0.obj with tab := os.zipIdx.map fun e => (e.2, e.1) } }

/-- `base` with a detection in the fault queue. -/
def detected (d : Det) : State := { base with flt := { base.flt with queue := [d] } }

/-- A detection of a unit. -/
def det0 (site unit : Nat) : Det :=
  { site := site, unit := unit, mech := 1, action := actRETRIED, coll := 0xFF, addr := 0, task := 0, graph := 0, attempt := 0,
    serial := 0, detail := 0, nested := false, tick := 0 }

/-- `base` in another phase. -/
def inPhase (p : Phase) : State := { base with pkg := { base.pkg with phase := p } }

/-- DomainsFallAndPackageStates: a fall, a refused fall, a domain at its depth, a wake, package states. -/
theorem witness_DomainsFallAndPackageStates :
    (serviceOn base = true ∧ votedOn base 0 = false ∧ domState base 0 < fallTo base 0 ∧ refuserOf base 0 (fallTo base 0) = none) ∧
    (votedOn base 32 = false ∧ domState base 32 < fallTo base 32 ∧ refuserOf base 32 (fallTo base 32) = some 4) ∧
    fallTo base 75 ≤ domState base 75 ∧
    (let s := { base with pwr := { base.pwr with dstate := base.pwr.dstate.set 79 1, ownerVotes := [0, 0, 2 ^ 15] } }
     s.pwr.pkg = 0 ∧ domState s 79 ≠ 0 ∧ votedOn s 79 = true ∧ domFenced s 79 = false ∧
       (s.pwr.coolStop && isCompute 79) = false ∧ ((needs s 79).all fun e => domState s e == 0) = true) ∧
    (∀ x ∈ base.fab.ports, x.heldRx = []) ∧ (base.pwr.pkg ≠ 3 ∧ base.pwr.pkg ≠ deepestState base) ∧
    (inState 3 base).pwr.pkg = 3 ∧ (inState 2 base).pwr.pkg = deepestState (inState 2 base) := by decide

/-- LevelsAreChosenAndStepped: every kind of level, up, down, settling, a cluster too warm, one too hot, the inputs. -/
theorem witness_LevelsAreChosenAndStepped :
    (serviceOn base = true ∧ 7 ≤ levelCap base 1 ∧ 6 ≤ levelCap base 2 ∧ 7 ≤ levelCap base 0 ∧
      tooWarm (thrEnter 0 0 base) 7 = false) ∧
    (let s := { base with pwr := { base.pwr with temp := base.pwr.temp.set 7 110 } }
     tooWarm (thrEnter 6 0 s) 7 = true ∧ levelAt s 1 7 = some ⟨0, 0, false, 500, ⟨150, 50, 100⟩⟩) ∧
    (levelAt base 2 0 = some ⟨6, 6, false, 0, ⟨0, 0, 0⟩⟩ ∧ levelAt base 0 7 = some ⟨0, 0, false, 500, ⟨150, 50, 100⟩⟩) ∧
    (let s := { base with pwr := { base.pwr with
        vatL := List.replicate 8 ⟨3, 2, false, 650, ⟨0, 20, 40⟩⟩, trnL := List.replicate 8 ⟨3, 4, false, 650, ⟨0, 20, 40⟩⟩,
        ms := ⟨5, 6, false, 0, ⟨0, 0, 0⟩⟩ } }
     (levelAt s 0 7 = some ⟨3, 2, false, 650, ⟨0, 20, 40⟩⟩ ∧ (0 == 0 && gapBreaks s 7 (3 - 1)) = false) ∧
       levelAt s 1 0 = some ⟨3, 4, false, 650, ⟨0, 20, 40⟩⟩ ∧ levelAt s 2 0 = some ⟨5, 6, false, 0, ⟨0, 0, 0⟩⟩) ∧
    (let s := { base with pwr := { base.pwr with vatL := List.replicate 8 ⟨3, 4, false, 650, ⟨0, 20, 40⟩⟩ } }
     levelAt s 0 0 = some ⟨3, 4, false, 650, ⟨0, 20, 40⟩⟩ ∧ (0 == 0 && gapBreaks s 0 (3 + 1)) = false) ∧
    (let s := { base with pwr := { base.pwr with trnL := List.replicate 8 ⟨3, 4, true, 700, ⟨0, 20, 40⟩⟩ } }
     levelAt s 1 7 = some ⟨3, 4, true, 700, ⟨0, 20, 40⟩⟩) ∧
    (0 ≤ (wants (unmatch base)).getD 7 0 ∧ base.pwr.vatL.length = 8 ∧ matched base = none ∧
      (let s := { base with fab := { base.fab with pace := [⟨1, 0, 546, 0, 100⟩] } }
       matched s = some ⟨1, 0, 546, 0, 100⟩) ∧ 546 ≤ 1024 ∧ 7 ≤ 7) ∧
    (let s := { base with pwr := { base.pwr with
        vatL := List.replicate 8 ⟨3, 3, false, 650, ⟨0, 20, 40⟩⟩, temp := [0, 0, 0, 0, 0, 0, 0, 21, 0, 0, 0, 0, 0] } }
     levelAt s 0 7 = some ⟨3, 3, false, 650, ⟨0, 20, 40⟩⟩ ∧ tooHot s 7 = true) ∧
    (aonOn base = true ∧ 80 ≤ 80 ∧ base.pkg.phase = .ready) ∧
    (let s := { base with rs := [(0x10718, 1)], pwr := { base.pwr with coolStop := true } }
     bit (rsv s 0x10718 0) 0 = true ∧ serviceOn s = true ∧ s.pwr.coolStop = true) := by decide

/-- EnergyIsSharedByBoundCycles. -/
theorem witness_EnergyIsSharedByBoundCycles : aonOn base = true ∧ 79 < 80 ∧ 0 < (⟨63, 3, 1⟩ : Share).cycles := by decide

/-- CrystalCoolantAndKeepSequence: the phases, the coolant stop, the keep sequence, both causes of OFF, the supply. -/
theorem witness_CrystalCoolantAndKeepSequence :
    (aonOn base = true ∧ base.pkg.phase = .ready ∧ (inPhase .booting).pkg.phase ≠ .ready ∧ aonOn (inPhase .booting) = true) ∧
    (let s := { base with rs := [(0x10718, 1)] }
     serviceOn s = true ∧ bit (rsv s 0x10718 0) 0 = true ∧ s.pwr.coolStop = false) ∧
    bit (rsv base 0x10718 0) 0 = false ∧
    (let s := { base with pwr := { base.pwr with coolStop := true } }
     serviceOn s = true ∧ s.pwr.coolStop = true ∧ s.pwr.coolBack = false) ∧
    (base.pwr.keepSleep = false ∧ Accepted (rec0 .usb) {} base) ∧
    (let s := inPhase .off
     s.pkg.phase = .off ∧ s.pkg.vstby = true ∧ s.pkg.offCause = 0) ∧
    (let s := { base with pkg := { base.pkg with phase := .off, offCause := 1 } }
     s.pkg.offCause = 1 ∧ s.pkg.vio18 = true ∧ s.pkg.wakeDriven = false) ∧ 3 ∉ base.pwr.thrOn := by
  simp only [accepted_iff]; decide

/-- ResetPinAndSuppliesStartThePackage: the pin, VIO18, VSTBY, VIN and a boot. -/
theorem witness_ResetPinAndSuppliesStartThePackage :
    (base.pkg.resetLow = false ∧ base.pkg.vio18 = true ∧ base.pkg.vstby = true ∧ base.pkg.phase = .ready) ∧
    (let s := { base with pkg := { base.pkg with phase := .held, resetLow := true } }
     s.pkg.resetLow = true ∧ s.pkg.vio18 = true ∧ s.pkg.phase = .held) ∧
    (let s := { base with pkg := { base.pkg with vio18 := false } }
     s.pkg.resetLow = false ∧ s.pkg.vio18 = false) ∧
    State.reset.pkg.vstby = false ∧
    (let s := { base with pkg := { base.pkg with phase := .starting, vin6 := false } }
     s.pkg.phase = .starting ∧ s.pkg.vin6 = false) ∧
    (let s := inPhase .booting
     let b : BootOut := ⟨true, true, false, true, true, true, [], 900⟩
     s.pkg.vstby = true ∧ s.pkg.vin6 = true ∧ s.pkg.mode = 0 ∧ s.sec.staged = false ∧ chooseSlot s b = some 0 ∧ b.trained = true ∧
       b.mounted = true ∧ b.failed = [] ∧ s.flt.fenced = []) := by decide

/-- SoftResetKeepsWhatLasts. -/
theorem witness_SoftResetKeepsWhatLasts :
    Accepted (rec0 .usb) { recovery := true } base ∧ (base.pkg.phase = .ready ∧ Accepted (rec0 .usb) {} base ∧
      base.pkg.resetLow = false ∧ base.pkg.vio18 = true ∧ base.pkg.vstby = true) ∧
    (let s := { base with pkg := { base.pkg with phase := .held, resetLow := true } }
     s.pkg.phase = .held ∧ s.pkg.resetLow = true ∧ s.pkg.vio18 = true) ∧
    ({ base with pkg := { base.pkg with vio18 := false } }.pkg.resetLow = false ∧ State.reset.pkg.vstby = false) ∧
    (let s := { base with pkg := { base.pkg with phase := .starting, vin6 := false } }
     s.pkg.phase = .starting ∧ s.pkg.vin6 = false) ∧
    (∀ mode ∈ [0, 1], let s := { base with pkg := { base.pkg with phase := .booting, mode := mode } }
     s.pkg.vstby = true ∧ s.pkg.vin6 = true ∧ s.pkg.phase = .booting ∧ s.pkg.mode = mode ∧
       chooseSlot s ⟨true, true, false, true, false, false, [], 900⟩ = none ∧ s.pkg.cold = true ∧ s.flt.fenced = [] ∧
       s.sec.staged = false ∧ ∀ trained, chooseSlot s ⟨trained, true, false, true, true, true, [], 900⟩ = some 0) := by
  simp only [accepted_iff]; decide

/-- PartsAreResetByCommand: the last cluster, vat and port, a fenced vat, numbers out of range. -/
theorem witness_PartsAreResetByCommand :
    Accepted (rec0 .usb) {} base ∧
    (((List.range 8).all fun d => d == 7 || base.isFenced siteCLUSTER d) = false ∧ resetting base 7 = false) ∧
    (lastOfKind base siteVAT 15 = false ∧ (base.vat 15).bound = none ∧ base.isFenced siteVAT 15 = false ∧ base.pkg.vatCmds = []) ∧
    (base.isFenced siteCLUSTER (clusterOfVat 15) = false ∧ vatCmd base 15 = none) ∧
    (let s := { base with flt := { base.flt with fenced := [(siteVAT, 15)] } }
     Accepted (rec0 .usb) {} s ∧ s.isFenced siteCLUSTER (clusterOfVat 15) = false ∧ s.isFenced siteVAT 15 = true) ∧
    (let s := { base with rs := [(0x9000C, 63)] }
     Accepted (rec0 .usb) {} s ∧ bit (rsv s 0x9000C 0) 5 = true ∧ (portAt s 5).state ≠ 3 ∧ s.fab.ports.length = 6) := by
  simp only [accepted_iff]; decide

/-- TicksTripsAndTheTap. -/
theorem witness_TicksTripsAndTheTap :
    (base.pkg.vstby = true ∧ base.pkg.vatCmds = []) ∧ State.reset.pkg.vstby = false ∧ (aonOn base = true ∧ 12 ≤ 12 ∧ 115 ≤ 115) ∧
    base.pkg.vio18 = true := by decide

/-- MonitorObservesBelowD2: below D2, at D2 with arguments out of range, in a fatal stop. -/
theorem witness_MonitorObservesBelowD2 :
    (monOn base = true ∧ base.flt.fatal = false ∧ base.sec.level ≠ 2) ∧
    (let s := { base with sec := { base.sec with level := 2 } }
     monOn s = true ∧ s.sec.level = 2 ∧ (2 % 4 ≠ 0 ∨ 1 = 0 ∨ 64 < 1)) ∧
    (let s := { base with flt := { base.flt with fatal := true } }
     monOn s = true ∧ s.flt.fatal = true) := by decide

/-- `base` in a debug session of a level. -/
def debugging (n : Nat) : State := { base with sec := { base.sec with level := n }, mon := { base.mon with session := true } }

/-- `base` with turner 63 bound to task 0 of graph 0, which has the code `d`. -/
def task0 (d : Desc) (r : Run) (s : State) : State :=
  { s with gra := { s.gra with graphs := [(0,
      { handle := 1, coll := 0, cntBase := 16, cntCount := 8, nparam := 0, group := false, gnum := 0, nmemb := 0, member := 0, gid := 0,
        tasks := [d], edges := [], drop := none, queue := [],
        run := some { serial := 0, band := 0, comp := 0, binding := 0, binds := [], port := .usb, tag := 1, isStep := false, gen := 1,
                      runs := [r], start := 0, early := 0, reason := 0 },
        serial := 1, reports := [], starts := [], early := [] })] } }

/-- A task descriptor of a kind, without operands or predecessors. -/
def desc0 (kind : Nat) : Desc :=
  { kind := kind, flags := 0, affinity := 0, npred := 0, nopnd := 0, kernel := 2, budget := 1, strm := 0, wmask := 0,
    doneSync := 0xFFFF, opnd := [], pred := [], req := ⟨0, 0, 0, 0, 64, 0, 0, 0⟩ }

/-- A state with task 0 of graph 0 running on vat 15, whose queue holds `w`. -/
def onVat (w : BitVec 128) (s : State) : State :=
  (task0 (desc0 1) { Run.fresh with st := .running, cluster := 7, unit := 15 } s).modVat 15 fun x =>
    { x with queue := [w], state := 5, bound := some ⟨0, 0⟩ }

/-- A state with task 0 of graph 0 running on turner 63. -/
def onTrn (s : State) : State :=
  (task0 (desc0 0) { Run.fresh with st := .running, cluster := 7, unit := 63 } s).modTrn 63 fun x =>
    { x with state := 3, bound := some ⟨0, 0⟩ }

/-- MonitorDebugsAndClaims: the D2 commands; the claims, unlock, release and wake at D1; the wake from SLEEP. -/
theorem witness_MonitorDebugsAndClaims :
    (let s := debugging 2
     monOn s = true ∧ s.flt.fatal = false ∧ s.sec.level = 2 ∧ s.mon.session = true ∧ s.mon.unlocking = false ∧
       (s.trn 63).halted = false) ∧
    (let s := onTrn (debugging 2)
     let h := s.modTrn 63 fun x => { x with halted := true }
     (h.trn 63).halted = true ∧ trnReady (h.modTrn 63 fun x => { x with halted := false }) 63 = true) ∧
    (let s := { debugging 2 with obj := (withObjs [obj0]).obj }
     devObject s 60 4 = some (0, obj0, 60) ∧ (devRead s 60 4).isSome = true ∧ (devRead s 0 64).isSome = true) ∧
    ({ debugging 2 with host := (owned (some .monitor) 2).host }.host.owner = some .monitor) ∧
    (let s := { debugging 1 with host := (owned none 1).host }
     monOn s = true ∧ s.sec.level = 1 ∧ s.pkg.phase = .ready ∧ s.host.owner = none) ∧
    (let s := debugging 1
     s.host.owner.isSome = true ∧ s.sec.locked = false ∧ s.sec.trngFail = false ∧ s.pkg.phase ≠ .monHold ∧ serviceOn s = true) ∧
    (let s := { debugging 1 with pkg := (inPhase .recovery).pkg }
     monOn s = true ∧ s.pkg.phase = .recovery) ∧
    (let s := { debugging 1 with pkg := (inPhase .monHold).pkg }
     monOn s = true ∧ s.pkg.phase = .monHold) ∧
    (let s := { debugging 1 with sec := { base.sec with level := 1, locked := true } }
     s.sec.locked = true) ∧
    (let s := inState 3 base
     s.pkg.vio18 = true ∧ serviceOn s = true ∧ s.pwr.pkg = 3) := by decide

/-- A token of 5,453 bytes with MAGIC, VERSION, ALLOW bits or FROM, TO and the session length at 88. -/
def token (magic lc to7 secs : Nat) : Bytes :=
  le4 magic ++ [1, 3] ++ [BitVec.ofNat 8 lc, BitVec.ofNat 8 to7] ++ zeros 80 ++ le4 secs ++ zeros 5361

/-- MonitorDebugsAndClaims, TokensNoncesAndRecords: a token that the part's cryptography accepts. -/
theorem witness_tokens (s : State) (h : s.sec.lifecycle = 1)
    (signed : ∀ x y, tokenSigned s (token 0x5A524454 2 0 60) x y = true) (bound : tokenBound s (token 0x5A524454 2 0 60) = true) :
    unlockStatus s (token 0x5A524454 2 0 60) = stOK ∧ s.sec.lifecycle ≠ lcPRODUCTION := by
  refine ⟨?_, by rw [h]; decide⟩
  unfold unlockStatus
  have : (((((token 0x5A524454 2 0 60).length != 5453 || bnum (token 0x5A524454 2 0 60) 0 4 != 0x5A524454) ||
    bnum (token 0x5A524454 2 0 60) 4 1 != 1) || bnum (token 0x5A524454 2 0 60) 88 4 == 0) ||
    decide (86400 < bnum (token 0x5A524454 2 0 60) 88 4)) = false := by decide +kernel
  rw [this]
  simp only [signed, bound, h, Bool.false_eq_true, if_false, Bool.not_true, Bool.or_self]
  decide +kernel

/-- CorrectedErrorsAreOnlyCounted. -/
theorem witness_CorrectedErrorsAreOnlyCounted : serviceOn base = true := by decide

/-- DetectionsAreQueuedAndActedOn: room in the queue, a full queue, an idle vat and turner. -/
theorem witness_DetectionsAreQueuedAndActedOn :
    (serviceOn base = true ∧ base.flt.queue.length < 16 ∧ 31 < 32 ∧ 1 ≠ mechTRNG_HEALTH ∧ base.pwr.coolStop = false ∧
      (base.vat 15).bound = none ∧ (base.trn 63).bound = none) ∧
    (let s := { base with flt := { base.flt with queue := List.replicate 16 (det0 siteCAVE 0) } }
     serviceOn s = true ∧ 16 ≤ s.flt.queue.length) := by decide

/-- FaultManagerLogsAndUnitsRecover: a first detection, a nested one of main store, a unit that recovers, an unfencing. -/
theorem witness_FaultManagerLogsAndUnitsRecover :
    (let s := detected (det0 siteCAVE 31)
     serviceOn s = true ∧ s.flt.queue = [det0 siteCAVE 31] ∧ (det0 siteCAVE 31).nested = false ∧
       isThird { s with flt := { s.flt with queue := [], history := s.flt.history ++ [(siteCAVE, 31, 0)] } } (det0 siteCAVE 31) = false) ∧
    (let d := { det0 siteMAIN 0 with nested := true }
     serviceOn (detected d) = true ∧ d.site = siteMAIN ∧ d.nested = true) ∧
    (let s := { base with flt := { base.flt with recovering := [(siteVAT, 15)] } }
     serviceOn s = true ∧ s.pkg.vatCmds = [] ∧ s.pkg.clReset = [] ∧ s.isRecovering siteVAT 15 = true) ∧
    (let s := { base with pkg := { base.pkg with vatCmds := [(false, 15, .usb, 7)] } }
     serviceOn s = true ∧ s.isFenced siteCLUSTER (clusterOfVat 15) = false ∧ s.vats.length = 16) := by decide

/-- FatalStopTakesNothing. -/
theorem witness_FatalStopTakesNothing : { base with flt := { base.flt with fatal := true } }.flt.fatal = true := by decide

/-! ### Vats -/

/-- A command word from its 32 low bits, its SRC or DESC, and the bits from 64 on. -/
def vw (low src high : Nat) : BitVec 128 := BitVec.ofNat 128 (low + 2 ^ 32 * src + 2 ^ 64 * high)

/-- The task of the vat and turner tests. -/
def k0 : TaskRef := ⟨0, 0⟩

/-- A state of vat 15 with its buffer 1 valid in a mode. -/
def filled (mode : Nat) (w : BitVec 128) : State :=
  (onVat w base).modVat 15 fun x => { x with buf1 := { valid := true, mode := mode, tile := [], whey := [] } }

/-- An object that is the task's stream, of the groups of a mask. -/
def strmObj (mask : Nat) : Obj := { obj0 with homeref := mask }

/-- A state of vat 15 whose task has object 0 as its stream. -/
def strmVat (w : BitVec 128) (st : Nat × Nat) : State :=
  let s := (task0 { desc0 1 with nopnd := 1, opnd := [mkHandle 0 obj0], strm := 1 }
    { Run.fresh with st := .running, cluster := 7, unit := 15 } (withObjs [strmObj 3])).modVat 15 fun x =>
      { x with queue := [w], state := 5, bound := some k0 }
  { s with gra := { s.gra with streams := [(0, st)] } }

/-- A state of vat 15 whose groups another stream holds. -/
def heldVat (w : BitVec 128) : State := (onVat w base).modVat 15 fun x => { x with held := List.replicate 8 (some 5) }

/-- A state of vat 15 in whose near store a move still writes bytes 64 to 511. -/
def filling (w : BitVec 128) : State :=
  let s := onVat w base
  { s with obj := { s.obj with moves := [{
      id := 0, req := { srcH := 0, dstH := 0, srcOff := 65536, dstOff := 64, len := 448, xf := 0, flags := 0, sync := 0 },
      by_ := .turner 60 k0, cluster := some 7, coll := 0, rm := 0, engine := none, given := none, waiting := false, pinWait := false,
      bad := [], remote := false, pc := 0 }] } }

/-- VatLoadsWeights: good records in every mode, a bad SRCFMT, misaligned and unmapped offsets. -/
theorem witness_VatLoadsWeights :
    (let w := vw 0x01000011 0 0
     VatRuns 15 w 1 (onVat w base) k0 ∧ tilePending (onVat w base) 15 (vMODE w) 0 = false ∧
       (readTile (popCmd (onVat w base) 15) 15 k0 (vMODE w) 0 0).toBool = true) ∧
    (let w := vw 0x01000011 0 0
     VatRuns 15 w 1 (filling w) k0 ∧ tilePending (filling w) 15 (vMODE w) (vf w 63 32) = true ∧
       tilePending (filling w) 15 (vMODE w) 512 = false) ∧
    (let w := vw 0x00000022 64 0
     VatRuns 15 w 2 (filling w) k0 ∧ tilePending (filling w) 15 (tMode w) (vf w 63 32) = true) ∧
    (let w := vw 0x01000011 32 0
     VatRuns 15 w 1 (onVat w base) k0 ∧ tilePending (onVat w base) 15 (vMODE w) 32 = false ∧
       (readTile (popCmd (onVat w base) 15) 15 k0 (vMODE w) 32 0).toBool = false) ∧
    (let w := vw 0x30000022 0 0
     VatRuns 15 w 2 (onVat w base) k0 ∧ tilePending (onVat w base) 15 (tMode w) (vf w 63 32) = false ∧ vf w 29 28 = 3) ∧
    (let w := vw 0x28000022 0 0
     VatRuns 15 w 2 (onVat w base) k0 ∧ tilePending (onVat w base) 15 (tMode w) (vf w 63 32) = false ∧ vf w 29 28 = 2 ∧ 1 < vf w 27 26) ∧
    (let w := vw 0x00000022 64 0
     VatRuns 15 w 2 (onVat w base) k0 ∧ tilePending (onVat w base) 15 (tMode w) (vf w 63 32) = false ∧ vf w 29 28 = 0 ∧ (readTile (popCmd (onVat w base) 15) 15 k0 2 64 0).toBool = true) ∧
    (let w := vw 0x24000022 0 0
     VatRuns 15 w 2 (onVat w base) k0 ∧ tilePending (onVat w base) 15 (tMode w) (vf w 63 32) = false ∧ vf w 29 28 = 2 ∧ vf w 27 26 < 2 ∧
       (readTile (popCmd (onVat w base) 15) 15 k0 1 0 0).toBool = true) ∧
    aligned 64 64 = true ∧ aligned 63 64 = false ∧ (resolveAddr base 15 k0 true 64 (tileBytes 2)).isSome = true ∧
    resolveAddr base 15 k0 true 0x80000000 (tileBytes 2) = none := by
  simp only [vatRuns_iff]; decide +kernel

/-- VatStreamsRows: 64 rows from entry 0 in BF16 and in Q8Q8, and 64 rows from entry 1. -/
theorem witness_VatStreamsRows :
    (let w := vw 0x7F000023 0 0
     let s := filled 2 w
     let x := (popCmd s 15).vat 15
     VatRuns 15 w 3 s k0 ∧ 15 < s.vats.length ∧ vf w 101 96 + (vf w 30 25 + 1) = 64 ∧ aligned (vf w 63 32) 256 = true ∧
       resolveAddr (popCmd s 15) 15 k0 true (vf w 63 32) (63 * vf w 125 110 * 128 + 256) = some 0 ∧ (x.buf (vf w 24 24)).valid = true ∧
       (x.buf (vf w 24 24)).mode = 2 ∧ ((x.tags.drop 0).take 64).all (fun t => t == .empty || t == modeTag 2) = true ∧
       x.tags.length = 64) ∧
    (let w := vw 0x7F000013 0 64
     let s := filled 1 w
     VatRuns 15 w 3 s k0 ∧ vMODE w = 1 ∧ aligned (vf w 63 32) 128 = true ∧
       resolveAddr (popCmd s 15) 15 k0 true (vf w 95 64) (63 * vf w 125 110 * 2 + 2) = some 64) ∧
    (let w := vw 0x7F000023 0 (2 ^ 32)
     VatRuns 15 w 3 (filled 2 w) k0 ∧ 64 < vf w 101 96 + (vf w 30 25 + 1)) := by
  simp only [vatRuns_iff]; decide +kernel

/-- VatDrainsRows: a descriptor of 64 columns, and one of none. -/
theorem witness_VatDrainsRows :
    (let w := vw 0x00000014 0x1000 (63 * 64)
     let s := (onVat w base).nearWrite 7 0x1000 (le4 0 ++ le4 256 ++ zeros 16 ++ [0, 0, 64, 0])
     VatRuns 15 w 4 s k0 ∧ ((s.vat 15).resid.all fun r => r.row < vf w 69 64 || vf w 69 64 + vf w 75 70 + 1 ≤ r.row) = true ∧
       (readDrain (popCmd s 15) 15 k0 w).toBool = true ∧ clusterOfVat 15 < s.near.length) ∧
    (let w := vw 0x00000014 0x1000 0
     VatRuns 15 w 4 (onVat w base) k0 ∧ (readDrain (popCmd (onVat w base) 15) 15 k0 w).toBool = false) := by
  simp only [vatRuns_iff]; decide +kernel

/-- ClearEmptiesEntriesAndCarry: all 64 entries and all groups. -/
theorem witness_ClearEmptiesEntriesAndCarry :
    let w := vw 0xFF000005 (63 * 64) 0
    VatRuns 15 w 5 (onVat w base) k0 ∧ vf w 37 32 + (vf w 43 38 + 1) = 64 ∧
      foreignGroup (popCmd (onVat w base) 15) 15 k0 (vf w 31 24) = false := by
  simp only [vatRuns_iff]; decide

/-- VatScansAndMovesCarries: each command, with its failing case. -/
theorem witness_VatScansAndMovesCarries :
    (let w := vw 0xFF000005 (63 * 64 + 1) 0
     VatRuns 15 w 5 (onVat w base) k0 ∧ 64 < vf w 37 32 + vf w 43 38 + 1) ∧
    (let w := vw 0x03000007 256 0
     let s := onVat w base
     VatRuns 15 w 7 s k0 ∧ foreignGroup (popCmd s 15) 15 k0 3 = false ∧ aligned (vf w 63 32) 256 = true ∧
       resolveAddr (popCmd s 15) 15 k0 true (vf w 63 32) (256 * (maskBits 8 3).length) = some 256 ∧
       loadingStream (popCmd s 15) 15 k0 3 = none) ∧
    (let w := vw 0x03000007 256 0
     let s := strmVat w (1, 15)
     VatRuns 15 w 7 s k0 ∧ foreignGroup (popCmd s 15) 15 k0 3 = false ∧ loadingStream (popCmd s 15) 15 k0 3 = some 0) ∧
    (let w := vw 0x80000008 256 0
     let s := onVat w base
     VatRuns 15 w 8 s k0 ∧ foreignGroup (popCmd s 15) 15 k0 128 = false ∧
       resolveAddr (popCmd s 15) 15 k0 true (vf w 63 32) (256 * (maskBits 8 128).length) = some 256) ∧
    (∀ op ∈ [5, 7, 8], let w := vw (0xFF000000 + op) 0 0
      VatRuns 15 w op (heldVat w) k0 ∧ foreignGroup (popCmd (heldVat w) 15) 15 k0 255 = true ∧
        resolveAddr (popCmd (heldVat w) 15) 15 k0 true 0 (256 * (maskBits 8 255).length) = some 0) ∧
    (let w := vw 0x00000009 0 0
     VatRuns 15 w 9 (onVat w base) k0 ∧ ((onVat w base).vat 15).resid = [] ∧ vf w 24 24 = 0) ∧
    (let w := vw 0x0F000009 0 0
     let s := { onVat w base with pkg := { base.pkg with mode := 2 } }
     VatRuns 15 w 9 s k0 ∧ (s.vat 15).resid = [] ∧ vf w 24 24 = 1 ∧ s.testMode = true ∧ (onVat w base).testMode = false ∧
       VatRuns 15 w 9 (onVat w base) k0) ∧
    (∀ m ∈ [0xFFFFFFFF, 8], let w := vw 0x00000006 64 (m + 2 ^ 45)
      let s := onVat w base
      let u := popCmd s 15
      VatRuns 15 w 6 s k0 ∧ foreignGroup u 15 k0 (vf w 116 109) = false ∧ aligned (vf w 63 32) 64 = true ∧ vf w 95 64 = m ∧
        (m = 8 → aligned 8 8 = true ∧ resolveAddr u 15 k0 true 8 (8 * (maskBits 8 (vf w 116 109)).length) = some 8) ∧
        resolveAddr u 15 k0 true (vf w 63 32) (64 * (maskBits 8 (vf w 116 109)).length * 2) = some 64 ∧
        (((u.vat 15).tags.take 1).all fun t => t == .empty || t == .int32) = true) ∧
    (∀ op ∈ [0, 10, 15], let w := vw op 0 0
      vatOpUnassigned (vOP w) = true ∧ vatReady (onVat w base) 15 w (vOP w) = true ∧ ((onVat w base).vat 15).bound = some k0) := by
  refine ⟨?_, ?_, ?_, ?_, ?_, ?_, ?_, ?_, ?_⟩ <;> (try simp only [vatRuns_iff]) <;> decide +kernel

/-- VatComparisonsStartsAndSwaps. -/
theorem witness_VatComparisonsStartsAndSwaps :
    (let s := (onVat 0 base).modVat 15 fun x => { x with resid := [⟨63, 7, 5, 5⟩] }
     (s.vat 15).resid.find? (fun q => q.row == 63 && q.slice == 7) = some ⟨63, 7, 5, 5⟩ ∧ 7 ∉ (s.vat 15).inject ∧
       (5 + 0) % resMod = 5 ∧ (5 + 1) % resMod ≠ 5) ∧
    (let s := (onVat 0 base).modVat 15 fun x => { x with resid := [⟨63, 7, 5, 5⟩], inject := [7, 3, 7] }
     7 ∈ (s.vat 15).inject ∧ (5 + 0) % resMod ≠ (5 + 1) % resMod ∧ (s.vat 15).bound = some k0) ∧
    (computeOn base = true ∧ 15 < base.vats.length) ∧
    (∀ n ∈ [3, 5], let s := base.modVat 15 fun x => { x with state := n }
      (s.vat 15).state = n ∧ (s.vat 15).queue = []) ∧
    (let s := onVat (vw 0x01000011 64 0) (filling (vw 0x01000011 64 0))
     (s.vat 15).state = 5 ∧ headWaits s 15 = true) ∧
    (let s := (base.modVat 15 fun x => { x with state := 4, queue := [5], late := true }).modVat 14 fun x => { x with state := 4, queue := [5] }
     let u := { s with pwr := { s.pwr with grantQ := [15, 14] } }
     (grantOrder u).head? = some 15 ∧ (∀ w ∈ grantOrder u, w ≠ 15 → (u.vat w).late = false) ∧ (u.vat 15).late = true ∧
       (grantOrder { u with pwr := { u.pwr with grantQ := [14, 15] } }).head? = some 14) ∧
    (let s := { withObjs [strmObj 3] with gra := { base.gra with streams := [(0, 2, 15)], deferred := [(0, k0)] } }
     objOf s (mkHandle 0 obj0) = some (0, strmObj 3) ∧ streamOf s 0 = (2, 15) ∧ deferredDue s 0 = true ∧ chunkRuns s 15 0 = false) ∧
    (∀ st ∈ [3, 4], let s := { withObjs [strmObj 3] with gra := { base.gra with streams := [(0, st, 15)] } }
     streamOf s 0 = (st, 15) ∧ 15 < s.vats.length) := by decide +kernel

/-! ### Turners -/

/-- Turner 63 running, with a kernel of 64 bytes and s2 = 5, s3 = 60, s4 = 66, s5 = 0x10000100. -/
def trnS : State :=
  let s := (onTrn base).modTrn 63 fun x => { x with sreg := (((x.sreg.set 2 5).set 3 60).set 4 66).set 5 0x12000100 }
  { s with obj := { s.obj with kernels := [⟨2, 0, 64, 0, 0, 0, 0⟩] } }

/-- `trnS` whose turner uses vat 15 with a queue of `n` commands. -/
def trnV (n : Nat) : State :=
  (trnS.modTrn 63 fun x => { x with vat := some 15 }).modVat 15 fun x => { x with queue := List.replicate n 5#128, bound := some k0 }

/-- `trnS` whose turner waits. -/
def trnW (s : State) (w : TrnWait) : State := s.modTrn 63 fun x => { x with wait := w, state := 4 }

/-- ScalarResultsAndBranches: every FN, both divisors, shifts by 63, and the register jumps. -/
theorem witness_ScalarResultsAndBranches :
    TrnRuns 63 trnS k0 ∧ (⟨1, 3, 2, 0x0C, 0⟩ : FmtN).z = 0 ∧ (trnS.trn 63).s 2 ≠ 0 ∧ (trnS.trn 63).s 1 = 0 ∧
    (63 : BitVec 15).toNat < 64 ∧ (trnS.trn 63).sreg.length = 32 ∧
    (let x := trnS.trn 63
     let target (a : BitVec 5) (i : BitVec 15) := (x.s a + 4 * i.signExtend 64).toNat
     target 2 0 % 4 ≠ 0 ∧ target 3 0 % 4 = 0 ∧ target 3 0 < 64 ∧ target 3 1 % 4 = 0 ∧ 64 ≤ target 3 1) ∧
    kernelOf trnS k0 = some ⟨2, 0, 64, 0, 0, 0, 0⟩ := by
  simp only [trnRuns_iff]; decide +kernel

/-- LoadsAndStoresMoveBytes: the scratch's and the near store's last window of 8 bytes, a misaligned and an unmapped one. -/
theorem witness_LoadsAndStoresMoveBytes :
    TrnRuns 63 trnS k0 ∧
    (let x := trnS.trn 63
     let addr (a : BitVec 5) (off : BitVec 12) (n : Nat) := (x.s a + off.signExtend 64 * BitVec.ofNat 64 n).toNat
     (addr 0 2047 8 % 8 = 0 ∧ window trnS (addr 0 2047 8) 8 = some (.scratch 16376)) ∧
     (addr 5 0 64 % 64 = 0 ∧ (window trnS (addr 5 0 64) 64).isSome = true) ∧
     addr 2 0 8 % 8 ≠ 0 ∧ (addr 0 0xFFF 8 % 8 = 0 ∧ window trnS (addr 0 0xFFF 8) 8 = none)) ∧
    etOK 4 = true ∧ trnS.turners.length = 64 ∧ trnS.near.length = 8 := by
  simp only [trnRuns_iff]; decide +kernel

/-- VectorElementsAndQuantisation: a legal form of every instruction, a register group that does not fit, no buffer and one. -/
theorem witness_VectorElementsAndQuantisation :
    TrnRuns 63 trnS k0 ∧ arithOK ⟨1, 2, 3, 0, 4, 0⟩ = true ∧ vmoveOK ⟨1, 2, 3, 0, 2, 4⟩ = true ∧ convOK 3 4 1 = true ∧
    (vselOK ⟨0, 2, 0, 0, 0⟩ = true ∧ vselOK ⟨0, 0, 0, 0, 1⟩ = true ∧ vselOK ⟨2, 0, 0, 0, 2⟩ = true ∧ vselOK ⟨2, 0, 0, 0, 3⟩ = true ∧
      vselOK ⟨2, 1, 2, 3, 4⟩ = true) ∧
    ((⟨0, 1, 0, 0, 0⟩ : FmtX).a.toNat % (quantGroups 0).1 ≠ 0) ∧
    (quantGroups 13).1 = 2 ∧ (trnS.trn 63).topk = none ∧ ((trnS.trn 63).s 0).toNat = 0 ∧ 64 < ((trnS.trn 63).s 4).toNat ∧
    1 ≤ ((trnS.trn 63).s 3).toNat ∧ ((trnS.trn 63).s 3).toNat ≤ 64 ∧
    (let s := trnS.modTrn 63 fun x => { x with topk := some ⟨4, []⟩ }
     TrnRuns 63 s k0 ∧ (s.trn 63).topk = some ⟨4, []⟩) := by
  simp only [trnRuns_iff]; decide +kernel

/-- A move request of 64 bytes within the near store, from 0x2000100 to 0x2000200. -/
def moveBytes : Bytes := le4 0 ++ le4 0 ++ leBytes 8 0x2000100 ++ leBytes 8 0x2000200 ++ le4 64 ++ [0, 0, 0, 0]

/-- IssueSyncAndTaskControl: VISSUE with no vat, room and a full queue; DISSUE; the counters; the waits and what ends them. -/
theorem witness_IssueSyncAndTaskControl :
    (TrnRuns 63 trnS k0 ∧ (trnS.trn 63).vat = none) ∧
    (TrnRuns 63 (trnV 31) k0 ∧ ((trnV 31).trn 63).vat = some 15 ∧ ((trnV 31).vat 15).queue.length < 32) ∧
    (TrnRuns 63 (trnV 32) k0 ∧ 32 ≤ ((trnV 32).vat 15).queue.length) ∧
    (let s := winWrite trnS 63 (.scratch 0) moveBytes
     TrnRuns 63 s k0 ∧ ((s.trn 63).s 0).toNat % 32 = 0 ∧ window s ((s.trn 63).s 0).toNat 32 = some (.scratch 0) ∧
       turnerMoves s 63 < 16 ∧ (checkMove s k0 true (moveReqOf (winRead s 63 (.scratch 0) 32))).isNone = true) ∧
    (checkMove trnS k0 true (moveReqOf (winRead trnS 63 (.scratch 0) 32))).isSome = true ∧
    (allocated trnS 0 16 = true ∧ allocated trnS 0 15 = false ∧ allocated trnS 0 24 = false ∧ allocated trnS 0 23 = true ∧
      ((trnS.trn 63).s 0).toNat ≤ counter trnS 16 ∧ counter trnS 16 < ((trnS.trn 63).s 2).toNat ∧ maySignal trnS k0 16 = true ∧
      issuedDone trnS (trnS.trn 63) k0 = true ∧ issuedDone (trnV 1) ((trnV 1).trn 63) k0 = false) ∧
    (let s := trnW (trnV 31) (.vissue 5)
     trnWaiting s 63 = true ∧ (s.trn 63).bound = some k0 ∧ (s.trn 63).wait = .vissue 5 ∧ (s.trn 63).vat = some 15) ∧
    (let s := trnW (winWrite trnS 63 (.scratch 0) moveBytes) (.dissue 0)
     let u := s.modTrn 63 fun z => { z with wait := .none, state := 3 }
     trnWaiting s 63 = true ∧ turnerMoves s 63 < 16 ∧
       (checkMove u k0 true (moveReqOf (winRead u 63 (.scratch 0) 32))).isNone = true) ∧
    (let s := trnW { trnS with sync := [(16, 5)] } (.swait 16 5)
     trnWaiting s 63 = true ∧ 5 ≤ counter s 16) ∧
    (operandObj trnS k0 7 = none ∧ ((runOf trnS k0).any fun r => !r.atEnd) = true) ∧
    (let s := (task0 { desc0 0 with nopnd := 1, opnd := [mkHandle 0 obj0] } { Run.fresh with st := .running, cluster := 7, unit := 63 }
       (withObjs [{ obj0 with nsmask := 128, ns := List.replicate 8 (some 4096) }])).modTrn 63 fun x =>
         { x with state := 3, bound := some k0 }
     TrnRuns 63 s k0 ∧ (operandObj s k0 0).any (fun p => p.2.inNear (63 / 8)) = true) := by
  refine ⟨?_, ?_, ?_, ?_, ?_, ?_, ?_, ?_, ?_, ?_, ?_⟩ <;> (try simp only [trnRuns_iff]) <;> decide +kernel

/-- A state whose task 0 is suspended in cluster 7, with turner 63 and vat 15 free. -/
def suspended (d : Desc) : State :=
  ((task0 d { Run.fresh with st := .suspended, cluster := 7,
                             saved := some ⟨List.replicate 32 0, List.replicate 32 0, List.replicate 8 0, 8, 16, 0⟩ } base).modTrn 63
    fun x => { x with state := 2 }).modVat 15 fun x => { x with state := 2 }

/-- IssueSyncAndTaskControl: the resumption of TYIELD, without and with a vat. -/
theorem witness_tyieldResume :
    (let s := suspended (desc0 0)
     computeOn s = true ∧ trnFree s 63 = true ∧ clusterOfTrn 63 = 7 ∧ 0 ≤ counter s 16 ∧ isBad s k0 siteTURNER 63 = false ∧
       (descOf s k0).any (fun d => !d.vatBit) = true ∧ (runOf s k0).any (fun r => r.saved.isSome && r.st == .suspended) = true) ∧
    (let s := suspended { desc0 0 with flags := 2 }
     (descOf s k0).any Desc.vatBit = true ∧ vatChoices s k0 7 ≠ []) := by decide +kernel

/-- IllegalWordsEndTheTask: an unassigned opcode, and a reserved bit of INT. -/
theorem witness_IllegalWordsEndTheTask :
    TrnRuns 63 trnS k0 ∧ trnLegal (decodeTrn 63 0x7F#32) = false ∧ trnLegal (decodeTrn 63 0x101#32) = false := by
  simp only [trnRuns_iff]; decide +kernel

/-- TurnerWordsRoundTrip. -/
theorem witness_TurnerWordsRoundTrip : trnWord (.int 63 ⟨3, 1, 2, 0, 0⟩) = some (63, 0b00011_00001_00010_0000000_000_0000001#32) := by
  decide

/-! ### Graphs and tasks -/

/-- A graph object with one SIGNAL task on counter 16: a header of 64 bytes and a descriptor. -/
def graphFile : Bytes :=
  le4 0x5A524750 ++ leBytes 2 1 ++ leBytes 2 1 ++ leBytes 2 16 ++ leBytes 2 8 ++ zeros 52 ++ [3, 0, 0, 0] ++ le4 16 ++ zeros 56

/-- A state whose object 0 holds the graph object. -/
def graphS (o : Obj) : State := { withObjs [{ o with size := 128 }] with main := mwrite [] 0 graphFile }

/-- A state with graph 63 of one task of a kind, and what `f` makes of the graph. -/
def graph63 (kind : Nat) (f : Graph → Graph) (s : State) : State :=
  let t := task0 (desc0 kind) Run.fresh s
  { t with gra := { t.gra with graphs := t.gra.graphs.map fun e => (63, f e.2) } }

/-- A queued instance with its completion object. -/
def inst0 : Inst :=
  { serial := 0, band := 0, comp := mkHandle 0 obj0, binding := 0, binds := [], port := .usb, tag := 1, isStep := false, gen := 1,
    runs := [], start := 0, early := 0, reason := 0 }

/-- GraphsAreLoadedAndDropped: every failed check, a graph that loads, and the drop of an idle graph. -/
theorem witness_GraphsAreLoadedAndDropped :
    let h := mkHandle 0 obj0
    (Accepted (rec0 .usb) {} (graphS obj0) ∧ objOf base h = none ∧ objOf (graphS obj0) h = some (0, { obj0 with size := 128 })) ∧
    (objOf (graphS { obj0 with kind := 1 }) h).any (fun p => p.2.rw) = true ∧
    ((graphS obj0).keyed 0 = true ∧ (graphS obj0).keyed 63 = false ∧ mayRead (graphS obj0) 0 0 { obj0 with size := 128 } = true) ∧
    ({ obj0 with lstate := 1 }.lstate ≠ lsREADY ∧ obj0.lstate = lsREADY) ∧
    (let u := entered (rec0 .usb) (.graphLoad (rec0 .usb) h 0 0) (graphS obj0)
     objRead u { obj0 with size := 128 } 0 128 = some graphFile ∧ graphStatus u graphFile (graphOfBytes graphFile h 0 0) = none ∧
       (graphStatus u (zeros 128) (graphOfBytes (zeros 128) h 0 0)).isSome = true) ∧
    (let s := graph63 3 id base
     Accepted (rec0 .usb) {} s ∧ (graphOf s 63).any (fun x => x.drop.isNone) = true) ∧
    (let s := graph63 3 (fun x => { x with drop := some (.usb, 7), run := none }) base
     Accepted (rec0 .usb) {} s ∧ (graphOf s 63).any (fun x => x.drop == some (.usb, 7) && x.run.isNone) = true) := by
  refine ⟨?_, ?_, ?_, ?_, ?_, ?_, ?_⟩ <;> (try simp only [accepted_iff]) <;> decide +kernel

/-- InstancesQueueStartAndAbort: a full queue and one with room, a running and an idle graph, a refused and a good start, a
stall. -/
theorem witness_InstancesQueueStartAndAbort :
    (let s := graph63 3 (fun x => { x with queue := List.replicate 16 inst0 }) base
     Accepted (rec0 .usb) {} s ∧ (graphOf s 63).any (fun x => x.drop.isNone && 16 ≤ x.queue.length) = true) ∧
    (let s := graph63 3 (fun x => { x with queue := List.replicate 15 inst0, run := none }) base
     Accepted (rec0 .usb) {} s ∧ (graphOf s 63).any (fun x => x.drop.isNone && x.queue.length < 16 && x.run.isNone) = true) ∧
    (let s := graph63 4 (fun x => { x with queue := [inst0], run := none }) (withObjs [{ obj0 with kind := 1 }])
     serviceOn s = true ∧ (graphOf s 63).any (fun x => !x.group && x.edges.isEmpty && !x.tasks.isEmpty && x.run.isNone &&
       x.nparam == 0 && x.queue == [inst0] && compOK s x inst0.comp == none && paramReason s x inst0 == none &&
       spaceOK s x inst0 && !bindsReplaced s inst0 && compOK s x 5 == some 2 && x.tasks.all fun d => d.kind != 3) = true) ∧
    (let s := graph63 4 (fun x => { x with nparam := 1, queue := [{ inst0 with binding := mkHandle 0 obj0 }], run := none })
       (withObjs [obj0])
     (objOf s (mkHandle 0 obj0)).any (fun p => 4 ≤ p.2.size && p.2.lstate == lsREADY && mayRead s 0 p.1 p.2 &&
       (objRead s p.2 0 p.2.size).isSome && !p.2.damaged) = true) ∧
    (let s := graph63 3 id base
     serviceOn s = true ∧ s.pwr.coolStop = false ∧ (graphOf s 63).any (fun x => x.run.any fun n =>
       n.runs == [Run.fresh] && !taskMoves s x n ⟨63, 0⟩ Run.fresh) = true) := by
  refine ⟨?_, ?_, ?_, ?_, ?_⟩ <;> (try simp only [accepted_iff]) <;> decide +kernel

/-- A state whose task 0 of graph 0 has the operand 0, in a stage of its life. -/
def staged0 (kind : Nat) (st : TStat) (o : Obj) : State :=
  task0 { desc0 kind with nopnd := 1, opnd := [mkHandle 0 obj0] } { Run.fresh with st := st, cluster := 7 } (withObjs [o])

/-- A state whose residency queue 7 holds the task. -/
def waiting0 (size : Nat) : State :=
  let s := staged0 0 .requested { obj0 with size := size }
  { s with gra := { s.gra with resQ := s.gra.resQ.set 7 [k0] } }

/-- A state with the task in the ready queue of a cluster, and vats and turners free. -/
def ready0 (kind c : Nat) : State :=
  let s := task0 (desc0 kind) { Run.fresh with st := .ready, cluster := c } base
  { s with
    gra := { s.gra with rqV := if kind = 1 then s.gra.rqV.set c [k0] else s.gra.rqV
                        rqT := if kind = 0 then s.gra.rqT.set c [k0] else s.gra.rqT }
    obj := { s.obj with kernels := [⟨2, 0, 64, 0, 0, 0, 0⟩] }
    vats := s.vats.map fun x => { x with state := 2 }
    turners := s.turners.map fun x => { x with state := 2 } }

/-- TasksAreRequestedReleasedAndRun: each stage of a task's life. -/
theorem witness_TasksAreRequestedReleasedAndRun :
    (∀ pins ∈ [0, 65535], let s := staged0 0 .idle { obj0 with pins := pins }
      serviceOn s = true ∧ (graphOf s 0).any (fun x => (instOf s 0).any fun n => n.early == 0 && (descOf s k0).any fun d =>
        mayRequest s x n k0 d && operandBad s k0 == none && (chooseCluster s k0 d).isSome) = true ∧
      canPin s (pinnedIdxs s k0) = (pins == 0)) ∧
    (serviceOn (waiting0 64) = true ∧ clusterUp (waiting0 64) 7 = true ∧ (waiting0 64).gra.resQ[7]? = some [k0] ∧
      (grantTask (waiting0 64) k0 7).isSome = true ∧ (grantTask (waiting0 (2 ^ 28)) k0 7).isNone = true) ∧
    (let s := task0 (desc0 0) { Run.fresh with st := .granted, cluster := 7 } (withObjs [obj0])
     serviceOn s = true ∧ (graphOf s 0).any (fun x => (instOf s 0).any fun n => n.early == 0 && (descOf s k0).any fun d =>
       predsOK x n d 0 && operandBad s k0 == none && !atBarrier s k0 && allReady s k0 && allResident s k0 7 &&
       (streamIdxs s k0).isEmpty && (strayed s k0 7).isNone && s.gra.rqT.length == 8 && s.gra.rqV.length == 8) = true) ∧
    (let u := task0 { desc0 0 with nopnd := 1, opnd := [mkHandle 0 obj0], strm := 1 } { Run.fresh with st := .granted, cluster := 7 }
       (withObjs [obj0])
     let s := { u with gra := { u.gra with streams := [(0, 2, 0)] } }
     serviceOn s = true ∧ strayed s k0 7 = some 0 ∧ (graphOf s 0).any (fun x => (instOf s 0).any fun n => n.early == 0 &&
       (descOf s k0).any fun d => predsOK x n d 0 && operandBad s k0 == none && !atBarrier s k0 && allReady s k0) = true) ∧
    (let s := task0 { desc0 4 with req := ⟨mkHandle 0 obj0, mkHandle 0 obj0, 0, 0, 64, 0, 0, 0⟩ } Run.fresh (withObjs [obj0])
     (graphOf s 0).any (fun x => (instOf s 0).any fun n => (descOf s k0).any fun d => predsOK x n d 0 && operandBad s k0 == none &&
       !atBarrier s k0 && allReady s k0 && canPin s (pinnedIdxs s k0)) = true) ∧
    (let s := ready0 1 7
     computeOn s = true ∧ vatFree s 15 = true ∧ clusterUp s (15 / 2) = true ∧ (readyQueue s true (15 / 2)).find? (vatRuns s 15) = some k0) ∧
    (let s := ready0 0 7
     trnFree s 63 = true ∧ (readyQueue s false (63 / 8)).find? (turnerRuns s 63) = some k0 ∧
       kernelOf s k0 = some ⟨2, 0, 64, 0, 0, 0, 0⟩ ∧ (descOf s k0).any Desc.vatBit = false) ∧
    (let s := ((ready0 1 6).modVat 12 fun x => { x with state := 1 }).modVat 13 fun x => { x with state := 1 }
     unitFree s true 15 = true ∧ (∀ j ∈ readyQueue s true (unitCluster true 15), unitRuns s true 15 j = false) ∧
       (stealFrom s true 15).map (·.1) = some k0) ∧
    (let s := onVat 0 base
     let t := s.modVat 15 fun x => { x with queue := [] }
     (descOf s k0).any (fun d => (runOf s k0).any fun r => r.st == .running && d.budget != 0 && !r.overB) = true ∧
       (descOf t k0).any (fun d => (runOf t k0).any fun r => taskAtEnd t k0 d r) = true) := by
  refine ⟨?_, ?_, ?_, ?_, ?_, ?_, ?_, ?_, ?_⟩ <;> decide +kernel

/-! ### Objects, migrations, fetches -/

/-- With no live object the draw of a device address finds a place (R242). -/
theorem devPlace_empty (s : State) (n : Nat) (h : s.obj.tab = []) (hn : n ≤ 2 ^ 32) : (devPlace s n).1.isSome = true := by
  have used : devUsed s = [] := by simp [devUsed, h]
  simp only [devPlace]
  split
  · rfl
  · have h0 : decide (0 + n ≤ 2 ^ 32) = true := decide_eq_true (by omega)
    have h1 : rangeFree (devUsed s) 0 n = true := by rw [used]; rfl
    rw [used] at h1 ⊢
    rw [List.map_nil, List.filter_cons_of_pos (by rw [h0, h1]; rfl), List.filter_nil]
    rfl

/-- A migration request for object 0. -/
def mig0 (pos : Nat) (evict active : Bool) (src : Nat) : MigReq :=
  { idx := 0, pos := pos, evict := evict, cmd := none, active := active, wait := 0, restarted := false, src := src,
    from_ := none, task := none, move := none, space := false, dx := none, pages := [] }

/-- A state with object 0 and one migration. -/
def migS (o : Obj) (r : MigReq) : State :=
  let s := withObjs [o]
  { s with obj := { s.obj with mig := [r] } }

/-- A move of 64 bytes within the near store of cluster 7. -/
def move0 : Move :=
  { id := 5, req := ⟨0, 0, 0x2000100, 0x2000200, 64, 0, 0, 0⟩, by_ := .turner 63 k0, cluster := some 7, coll := 0, rm := 0,
    engine := none, given := none, waiting := false, pinWait := false, bad := [], remote := false, pc := 0 }

/-- A fetch of object 0 into main store, 64 bytes plain. -/
def fetch0 (fid : Option Nat) (attempt : Nat) : Fetch :=
  { id := 3, fid := fid, stream := 32, handle := mkHandle 0 obj0, form := 0, start := 0, count := 64, attempt := attempt, got := [],
    pos := some 0, move := none, cover := 0 }

/-- A state with object 0 of home HOST and one fetch. -/
def fetchS (f : Fetch) : State :=
  let s := withObjs [{ obj0 with home := 2, res := false }]
  { s with obj := { s.obj with fetches := [f] } }

/-- ObjectCommands: each refusal of OBJ_CREATE and a create that succeeds; the state of an object for each other command. -/
theorem witness_ObjectCommands :
    (Accepted (rec0 .usb) {} keyed0 ∧ Accepted (rec0 .usb) { anyone := true } keyed0) ∧
    (createParamOK 16 64 0 0 0 0 0 0 = false ∧ createParamOK 1 64 0 0 2 0 0 0 = true ∧ (bit 1 0 = true ∧ 1 < 2 % 4) ∧
      keyed0.keyed 63 = false ∧ createParamOK 0 64 63 0 0 0 0 0 = true ∧ createParamOK 0 64 0 1 0 1 0 0 = true ∧
      caveEntryOK keyed0 0 64 1 0 = false ∧ keyed0.testMode = false ∧ createParamOK 0 0 0 0 0 0 0 0 = true ∧ createParamOK 0 (2 ^ 32 + 1) 0 0 0 0 0 0 = true) ∧
    (createParamOK 1 (2 ^ 32) 0 0 0 0 0 0 = true ∧ keyed0.keyed 0 = true ∧ bits 1 3 2 ≠ 1 ∧ keyed0.obj.tab.length < 32768 ∧
      mainReserved keyed0 + mainPinned keyed0 + stagingBytes keyed0 + roundUp (2 ^ 32) 65536 ≤ objectRegion keyed0) ∧
    (devPlace (entered (rec0 .usb) (.objCreate (rec0 .usb) 1 (2 ^ 32) 0 0 0 0 0 0) keyed0) (roundUp (2 ^ 32) 65536 / 65536)).1.isSome = true ∧
    (let s := withObjs [{ obj0 with kind := 1 }]
     Accepted (rec0 .usb) {} s ∧ Accepted (rec0 .usb) { anyone := true } s ∧
       objOf s (mkHandle 0 obj0) = some (0, { obj0 with kind := 1 }) ∧ { obj0 with kind := 1 }.rw = true) ∧
    (obj0.freeing = false ∧ obj0.closing = false ∧ { obj0 with closing := true }.closing = true) ∧
    (objAt (withObjs [obj0]) 0 = some obj0 ∧ obj0.gone = none ∧ obj0.homePos 0 = true ∧ obj0.homePos 8 = false ∧
      busyState obj0 (mig0 8 true false 0) = 0 ∧ busyState { obj0 with nsevict := 128 } (mig0 8 true false 0) ≠ 0 ∧
      obj0.holds 8 = false ∧ { obj0 with nsmask := 128 }.holds 8 = true ∧ { obj0 with nsmask := 128, pins := 1 }.pins ≠ 0 ∧
      { obj0 with nsmask := 128 }.protects 8 = false ∧ obj0.holds 0 = true ∧ obj0.rw = false) ∧
    ({ obj0 with freeing := true }.freeing = true ∧ obj0.pins = 0) ∧
    (let s := { keyed0 with pkg := { keyed0.pkg with mode := 2 } }
     Accepted (rec0 .usb) {} s ∧ s.keyed 0 = true ∧ s.testMode = true) := by
  refine ⟨?_, ?_, ?_, devPlace_empty _ _ rfl (by decide), ?_, ?_, ?_, ?_, ?_⟩ <;> (try simp only [accepted_iff]) <;> decide +kernel

/-- MigrationsAndMovesComplete: promotions from each source, evictions, pins, a move at its start and its end. -/
theorem witness_MigrationsAndMovesComplete :
    (let s := migS { obj0 with freeing := true } (mig0 8 false true 0)
     computeOn s = true ∧ activePromo s 0 8 = some (mig0 8 false true 0) ∧ (objAt s 0).any (fun o => o.gone.isSome) = true) ∧
    (let r := { mig0 8 false true 0 with from_ := some 0 }
     let s := migS obj0 r
     activePromo s 0 8 = some r ∧ obj0.gone = none ∧ r.src < 2 ∧ r.pages = [] ∧ (sourceCopy s r obj0).isSome = true) ∧
    (let s := migS { obj0 with home := 2, res := false } (mig0 0 false true 3)
     activePromo s 0 0 = some (mig0 0 false true 3) ∧ ∀ f ∈ s.obj.fetches, hIdx f.handle = 0 → f.pos ≠ some 0) ∧
    7 < base.near.length ∧
    (let s := migS obj0 (mig0 0 true true 0)
     computeOn s = true ∧ s.obj.mig.find? (fun r => r.idx == 0 && r.pos == 0 && r.active && r.evict) = some (mig0 0 true true 0)) ∧
    (∀ kind ∈ [0, 1], let s := migS { obj0 with kind := kind, nsmask := 128 } (mig0 8 true true 0)
      s.obj.mig.find? (fun r => r.idx == 0 && r.pos == 8 && r.active && r.evict) = some (mig0 8 true true 0) ∧
        { obj0 with kind := kind, nsmask := 128 }.inNear (8 - 1) = true ∧ { obj0 with kind := kind }.rw = (kind == 1)) ∧
    (let s := staged0 0 .pinWait obj0
     pinWaiters s 0 = [.task k0]) ∧
    (let m := { move0 with req := ⟨mkHandle 0 obj0, 0, 0, 0x2000200, 64, 0, 0, 0⟩, pinWait := true }
     let s := { withObjs [obj0] with obj := { (withObjs [obj0]).obj with moves := [m] } }
     pinWaiters s 0 = [.move 5] ∧ s.obj.moves.find? (fun m => m.id == 5) = some m) ∧
    (let s := { base with obj := { base.obj with moves := [move0] }, dx := base.dx.map fun x => { x with state := 2 } }
     computeOn s = true ∧ moveAt s 5 = some move0 ∧ (∀ f ∈ s.obj.fetches, f.move ≠ some 5) ∧ engineOK s move0 15 = true ∧
       moveGone s move0 = none ∧ isRemote move0.req.dstH = false ∧ move0.req.srcH = 0 ∧
       (moveGone s { move0 with req := ⟨mkHandle 0 obj0, 0, 0, 0, 64, 0, 0, 0⟩ }).isSome = true) ∧
    (let m := { move0 with engine := some 15 }
     m.engine.isSome = true ∧ m.remote = false ∧ m.req.srcH = 0 ∧ m.cluster.getD 0 < base.near.length) := by
  refine ⟨?_, ?_, ?_, ?_, ?_, ?_, ?_, ?_, ?_, ?_⟩ <;> decide +kernel

/-- FetchesAreAskedTwice: posting with and without streams, the answers, both attempts, FETCH_NACK. -/
theorem witness_FetchesAreAskedTwice :
    (let s := fetchS (fetch0 none 1)
     serviceOn s = true ∧ s.obj.fetches.find? (fun f => f.id == 3) = some (fetch0 none 1) ∧ canFetch s = false) ∧
    (let s := { fetchS (fetch0 none 1) with rs := [(0xA0004, 2 ^ 31)] }
     canFetch s = true ∧ streamFree s 32 = true ∧ ∀ j, j < 32 → 1 ≤ j → streamFree s j = false) ∧
    (let s := fetchS (fetch0 (some 1023) 1)
     s.obj.holds.contains 32 = false ∧ s.obj.fetches.find? (fun f => f.fid.isSome && f.stream == 32) = some (fetch0 (some 1023) 1) ∧
       (objAt s 0).isSome = true ∧ (fetch0 (some 1023) 1).form = 0 ∧ ([] : Bytes).length ≠ 64 ∧ (zeros 64).length = 64 ∧
       s.obj.fetches.find? (fun f => f.fid == some 1023) = some (fetch0 (some 1023) 1) ∧
       Accepted (rec0 .usb) { anyone := true } s ∧ (rec0 .usb).port = .usb) ∧
    (∀ f ∈ (fetchS (fetch0 none 1)).obj.fetches, f.fid.isSome = true → f.stream ≠ 5) ∧ 2 ≤ (fetch0 none 2).attempt ∧
    (Accepted (rec0 .mgt) { anyone := true } base ∧ (rec0 .mgt).port ≠ .usb) ∧ ∀ f ∈ base.obj.fetches, f.fid ≠ some 1023 := by
  refine ⟨?_, ?_, ?_, ?_, ?_, ?_, ?_⟩ <;> (try simp only [accepted_iff]) <;> decide +kernel

/-! ### Cave and tables -/

/-- A sealed cave region of set 3 of collection 0 with one entry of 64 bytes. -/
def region0 (state : Nat) : Region :=
  { (default : Region) with state := state, coll := 0, sets := [3], dir := [(0, 0, 64)] }

/-- A state with a mounted cave, region 1 and a slice. -/
def caveS (r : Region) (slice : Option (Bool × Nat × Nat)) : State :=
  { keyed0 with cave := { keyed0.cave with mounted := true, mode := if slice.isSome then 3 else 2, regions := [(1, r)], slice := slice } }

/-- R283: on a channel without bad blocks the spares are the last 32 blocks. -/
theorem test_channel_as_made (ch : Nat) : Part.reset.channel ch = ([], (List.range 32).map (992 + ·)) := by
  have h : Part.reset.badBlocks = [] := rfl
  have hb : Part.reset.blocks - Part.reset.spares = 992 := by decide +kernel
  have hs : Part.reset.spares = 32 := by decide +kernel
  rw [hs] at hb
  simp [Part.channel, h, hb, hs]

/-- R283: a cave as made, without bad blocks, is the one at reset. -/
theorem test_cave_as_made : Cave.factory Part.reset = Cave.reset := by
  have h : Part.reset.badBlocks = [] := rfl
  simp only [Cave.factory, test_channel_as_made, h]
  decide +kernel

/-- R283: a bad region block is to be replaced from the spares, a bad spare is none. -/
theorem test_cave_bad_blocks :
    { Part.reset with badBlocks := [(31, 6), (31, 993)] }.channel 31 = ([6], 992 :: (List.range 30).map (994 + ·)) := by decide +kernel

/-- CaveRegionsAreOpenedAndErased: every refusal and success of the region commands, in and out of TEST. -/
theorem witness_CaveRegionsAreOpenedAndErased :
    (let s := { keyed0 with cave := { keyed0.cave with mode := 4 } }
     Accepted (rec0 .usb) {} s ∧ s.cave.mode = 4) ∧
    (Accepted (rec0 .usb) {} keyed0 ∧ keyed0.cave.mode ≠ 4 ∧ keyed0.cave.mounted = false) ∧
    (let s := caveS (region0 1) none
     Accepted (rec0 .usb) {} s ∧ s.cave.mode ≠ 4 ∧ s.cave.mounted = true ∧ s.keyed 0 = true ∧ caveFenced s = false ∧
       (freeSets s).length < 986 ∧ 985 ≤ (freeSets s).length ∧ tget s.cave.regions (0 + 1) = some (region0 1) ∧
       tget s.cave.regions (1022 + 1) = none) ∧
    (let s := { caveS (region0 1) none with flt := { base.flt with fenced := [(siteCAVE, 31)] } }
     caveFenced s = true) ∧
    (∀ st ∈ [2, 4], let s := caveS (region0 st) none
      (s.obj.tab.any fun e => e.2.home == 1 && e.2.homeref == 1) = false) ∧
    (let s := { caveS (region0 2) none with obj := (withObjs [{ obj0 with home := 1, homeref := 1 }]).obj }
     (s.obj.tab.any fun e => e.2.home == 1 && e.2.homeref == 1) = true) ∧
    ((region0 1).state = 1 ∧ (region0 1).noSpare = false ∧ { region0 1 with noSpare := true }.noSpare = true) ∧
    (base.testMode = false ∧ (∀ lc ∈ [0, 2], let s := { keyed0 with pkg := { base.pkg with mode := 2 }, sec := { keyed0.sec with lifecycle := lc } }
      Accepted (rec0 .usb) {} s ∧ s.testMode = true) ∧ 1023 < base.part.blocks ∧ 1023 ∉ base.cave.retired.getD 31 []) ∧
    (let s := withData [1, 2, 3, 4] (caveS (region0 1) none)
     AcceptedData (recN 4) {} s [1, 2, 3, 4] ∧ s.cave.mode ≠ 4 ∧ s.cave.slice = none) ∧
    (let s := withData [1, 2, 3, 4] (caveS (region0 1) (some (true, 10000, 0)))
     AcceptedData (recN 4) {} s [1, 2, 3, 4] ∧ s.cave.slice.isSome = true ∧ tget s.cave.regions 1 = some (region0 1) ∧
       1 = (region0 1).dir.length) ∧
    (let s := caveS (region0 3) (some (false, 10, 0))
     tget s.cave.regions 1 = some (region0 3) ∧ (region0 3).state = 3 ∧ s.cave.slice.isSome = true ∧
       ((region0 3).places.map (blockKey s.cave)).Nodup ∧ s.cave.journal.length < 4096) ∧
    (let s := caveS (region0 1) none
     985 < s.part.regionBlocks ∧ s.cave.mounted = true ∧ s.cave.dead = [] ∧ s.cave.relocating = [] ∧ s.cave.retired.length = 32 ∧
       regionOfSet s 3 = some (1, region0 1) ∧ regionOfSet s 985 = none ∧ s.cave.spares.getD 31 [] ≠ [] ∧
       4 ≤ ((s.cave.spares.getD 31 []).filter (· != 992)).length ∧
       { s.cave with spares := List.replicate 32 [] }.spares.getD 31 [] = []) := by
  refine ⟨?_, ?_, ?_, ?_, ?_, ?_, ?_, ?_, ?_, ?_, ?_, ?_⟩ <;> (try simp only [accepted_iff, acceptedData_iff]) <;> decide +kernel

/-- CaveReadsAreCountedAndRepaired: a page in the repair cache, on a fenced channel, read well and badly; the ladder; a flip. -/
theorem witness_CaveReadsAreCountedAndRepaired :
    let s := caveS (region0 2) none
    let p : CPage := (3, 1023, 30)
    (s.cave.mounted = true ∧ readable_ s p = true ∧ repaired s p = false ∧ s.cave.bad.contains p = false ∧
      s.isFenced siteCAVE 30 = false ∧ readable_ s (985, 1023, 30) = false ∧ readable_ s (3, 1023, 31) = false) ∧
    (let t := { s with cave := { s.cave with repair := [(p, [])] } }
     repaired t p = true ∧ readable_ t p = true ∧ t.cave.bad.contains p = false) ∧
    { s with flt := { s.flt with fenced := [(siteCAVE, 30)] } }.isFenced siteCAVE 30 = true ∧
    (ladderStep (setLadder s p 1) p = 1 ∧ ladderStep (setLadder s p 2) p = 2 ∧ stripeLost s p = false ∧
      stripeLost { s with flt := { s.flt with fenced := [(siteCAVE, 0)] } } p = true) ∧
    ([(7, [1])].any (fun (e : Nat × List Nat) => e.1 == 7) = true) ∧
    (let r : Reloc := ⟨3, 31, 992, []⟩
     let t := { caveS (region0 2) (some (true, 10, 0)) with cave := { (caveS (region0 2) (some (true, 10, 0))).cave with relocating := [r] } }
     t.cave.slice.isSome = true ∧ t.cave.relocating.find? (fun r => (r.set, r.ch) == (3, 31)) = some r ∧ t.cave.ladder = []) ∧
    (let r : Reloc := ⟨3, 31, 992, []⟩
     let t := { s with cave := { s.cave with copied := [r] } }
     t.cave.copied.find? (fun r => (r.set, r.ch) == (3, 31)) = some r ∧ t.acc.steps = [] ∧ readsOutstanding t (3, 31) = false ∧
       t.cave.slice = none ∧ 31 < t.cave.spares.length ∧ t.cave.journal.length < 4096) ∧
    (stepping s).acc.steps ≠ [] ∧ blockKey s.cave (0, 0) ≠ blockKey s.cave (985, 31) := by
  refine ⟨?_, ?_, ?_, ?_, ?_, ?_, ?_, ?_, ?_⟩ <;> decide +kernel

/-- MigrationsAndMovesComplete: a promotion from the cave with its pages read, and one whose page is in the ladder. -/
theorem witness_MigrationsFromTheCave :
    let r : MigReq := { mig0 0 false true 2 with from_ := none }
    let o : Obj := { obj0 with home := 1, homeref := 1, res := false }
    let s : State := { caveS (region0 2) none with obj := (migS o r).obj }
    let q := { r with pages := [(3, 0, 1)] }
    let t : State := { s with obj := (migS o q).obj, cave := { s.cave with ladder := [((3, 0, 1), 1)] } }
    (computeOn s = true ∧ activePromo s 0 0 = some r ∧ objAt s 0 = some o ∧ o.gone = none ∧ (∀ e ∈ s.cave.peerWait, e.1 ≠ 0) ∧
      caveReadable s o = true ∧ sourceCopy s r o = none ∧ o.home = 1 ∧ (caveObject s 0 o).map (·.bad) = some none) ∧
    (computeOn t = true ∧ activePromo t 0 0 = some q ∧ (∀ e ∈ t.cave.peerWait, e.1 ≠ 0) ∧ caveReadable t o = true ∧
      ladderStep (fencedPages t q.pages) (3, 0, 1) ≠ 0) := by
  refine ⟨?_, ?_⟩ <;> decide +kernel

/-- A table of 528 bytes: MAGIC, version, one symbol of frequency 4,096. -/
def tableFile (version : Nat) : Bytes := le4 0x5A525446 ++ leBytes 2 version ++ zeros 10 ++ leBytes 2 4096 ++ zeros 510

theorem tableFreq_file : tableFreq (tableFile 9) = 4096 :: List.replicate 255 0 := by decide +kernel

theorem tableFile_ok : tableOK (tableFile 9) = true := by
  unfold tableOK
  rw [tableFreq_file]
  decide +kernel

theorem tableStatus_file (s : State) (old : Option Nat) : tableStatus s old (tableFile 9) =
    if old.any fun n => slotState s n != 2 then some stSTATE
    else if s.cmp.slots.any fun x => (x.state == 2 || x.state == 3) && x.version == bnum (tableFile 9) 4 2 then some stVERSION
    else none := by
  unfold tableStatus
  rw [tableFile_ok]
  rfl

/-- A state with table slots in given states, and the bytes of table 9 on stream 1. -/
def slotsS (xs : List Nat) : State :=
  withData (tableFile 9) { base with cmp := { base.cmp with slots := xs.zipIdx.map fun e =>
    { state := e.1, version := e.2 + 1, freq := [] } } }

/-- TablesAreReplacedInOneInstant: a bad table, a free slot, a replacement, no slot, a wait, a drop, a slot that falls free. -/
theorem witness_TablesAreReplacedInOneInstant :
    (let s := slotsS [0, 2, 0, 0, 0, 0, 0, 0]
     AcceptedData (recN 528) { dlen := 528 } s (tableFile 9) ∧ s.cmp.slots.length = 8 ∧ tableStatus s none (tableFile 9) = none ∧
       tableStatus s (some 1) (tableFile 9) = none ∧ tableStatus s (some 7) (tableFile 9) = some stSTATE ∧
       slotsIn s 0 ≠ []) ∧
    (let s := slotsS (List.replicate 8 2)
     AcceptedData (recN 528) { dlen := 528 } s (tableFile 9) ∧ tableStatus s none (tableFile 9) = none ∧ slotsIn s 0 = [] ∧ slotsIn s 3 = []) ∧
    (let s := slotsS [2, 2, 2, 2, 2, 2, 2, 3]
     tableStatus s none (tableFile 9) = none ∧ slotsIn s 0 = [] ∧ slotsIn s 3 = [7]) ∧
    (let s := slotsS [2, 2, 2, 2, 2, 2, 2, 3]
     Accepted (rec0 .usb) {} s ∧ slotState s 7 ≠ 2 ∧ slotState s 6 = 2 ∧ s.cmp.slots[7]? = some ⟨3, 8, []⟩ ∧ slotRefs s 7 = 0 ∧ s.pkg.phase = .ready ∧
       s.cmp.waiting = []) ∧
    (let s := slotsS [2, 2, 2, 2, 2, 2, 2, 3]
     let t := { s with cmp := { s.cmp with waiting := [(.usb, 9, some 0, tableFile 9)] } }
     t.cmp.slots.length = 8 ∧ slotsIn t 0 = [] ∧
       tableStatus { t with cmp := { t.cmp with slots := t.cmp.slots.set 7 Slot.reset } } (some 0) (tableFile 9) = none) := by
  refine ⟨?_, ?_, ?_, ?_, ?_⟩ <;> (try simp only [accepted_iff, acceptedData_iff, tableStatus_file]) <;> decide +kernel

/-! ### Accessions -/

/-- A state with objects 0 to 3 writable, of 64 KiB, graph 0 in collection 0 and the token table of object 3. -/
def svcS : State :=
  let o (n : Nat) : Obj := { obj0 with kind := 1, size := 262144, dbase := n }
  let s := task0 (desc0 3) Run.fresh (withObjs [o 0, o 4, o 8, o 12])
  { s with main := mwrite [] (12 * 65536) (le4 (mkHandle 0 obj0) ++ le4 (mkHandle 1 obj0) ++ le4 (mkHandle 2 obj0)) }

/-- A service record: graph 0 for both, batches of 1, 2,048 prompt tokens, a vocabulary of 100. -/
def svcFile : Bytes :=
  let hs := le4 (mkHandle 0 obj0) ++ le4 (mkHandle 1 obj0) ++ le4 (mkHandle 2 obj0) ++ le4 (mkHandle 3 obj0)
  [1, 0, 0, 0] ++ le4 1 ++ le4 2048 ++ le4 100 ++ hs ++ hs ++ le4 (mkHandle 1 obj0) ++ le4 (mkHandle 1 obj0) ++ zeros 8

/-- A submission of one prompt token to service 15, without drafts or twin. -/
def submit0 : SubmitP :=
  { service := 15, prompt := mkHandle 0 obj0, n := 1, policy := 3, adapter := 0xFF, stopset := 255, topk := 64, draftMax := 0,
    temp := 0, topp := 0x3F80, deadline := max32, maxnew := 131072 }

/-- An accession in a state. -/
def acc0 (st : Nat) : Acc := { (default : Acc) with state := st, tag := 7, port := .usb, stopset := 255 }

/-- A state with accession 4,095 in a state. -/
def accS (x : Acc) : State := { base with acc := { base.acc with tab := [(4095, x)] } }

/-- ServicesAndSubmissions: records that pass and fail, a service in use, a submission, an arriving entry. -/
theorem witness_ServicesAndSubmissions :
    (let s := withData svcFile svcS
     AcceptedData (recN 64) { dlen := 64 } s svcFile ∧ (svcOf svcFile 0).valid = true ∧
       svcOK (enteredData (recN 64) (.accService (recN 64) 15) s) (svcOf svcFile 0) = true ∧
       svcOK (enteredData (recN 64) (.accService (recN 64) 15) base) (svcOf svcFile 0) = false ∧
       (s.acc.tab.any fun e => e.2.service == 15 && (e.2.live || e.2.arriving != 0)) = false) ∧
    (let s := accS { acc0 asQUEUED with service := 15 }
     (s.acc.tab.any fun e => e.2.service == 15 && (e.2.live || e.2.arriving != 0)) = true) ∧
    (let s := withData (zeros 320) base
     AcceptedData (recN 320) { dlen := 320 } s (zeros 320) ∧ stopsetOK (zeros 320) = true ∧ stopsetOK (9 :: zeros 319) = false ∧
       (s.acc.tab.any fun e => e.2.stopset == 254 && (e.2.live || e.2.arriving != 0)) = false) ∧
    (let s := withData (zeros 12) { svcS with acc := { svcS.acc with svcs := [(15, svcOf svcFile 0)] } }
     AcceptedData (recN 12) { dlen := 8 } s (zeros 12) ∧ submitStatus (recN 12) submit0 s = none ∧ arrivingAt (recN 12) s = none ∧
       (svcObj s 0 submit0.prompt).any (fun o => 4 * submit0.n ≤ o.size) = true ∧ bnum (zeros 12) (8 + 4 * 0) 4 < 100 ∧
       submitStatus (recN 12) { submit0 with service := 14 } s = some stSERVICE) ∧
    (accAt (accS { acc0 asFREE with arriving := 2 }) 4095 = some { acc0 asFREE with arriving := 2 } ∧ (acc0 asFREE).arriving ≠ 2) := by
  refine ⟨?_, ?_, ?_, ?_, ?_⟩ <;> (try simp only [acceptedData_iff]) <;> decide +kernel

/-- AccessionsAreControlled: each state of the entry that a command meets. -/
theorem witness_AccessionsAreControlled :
    (Accepted (rec0 .usb) {} base ∧ accAt base 4095 = none) ∧
    (∀ st ∈ [asQUEUED, asDECODE, asPAGE_WAIT, asSUSPENDED, asDONE], let s := accS (acc0 st)
      Accepted (rec0 .usb) {} s ∧ accAt s 4095 = some (acc0 st) ∧ st ≠ asFREE ∧ (acc0 st).instep = false ∧ (acc0 st).heldRecs = []) ∧
    ((acc0 asDECODE).tag ≠ 8 ∧ (acc0 asDECODE).live = true ∧ { acc0 asDECODE with instep := true }.instep = true ∧
      (acc0 asSUSPENDED).state = asSUSPENDED ∧ (stepping (accS (acc0 asDECODE))).acc.steps ≠ [] ∧ (accS (acc0 asDECODE)).acc.steps = []) ∧
    (Accepted (rec0 .usb) {} { base with pwr := { base.pwr with coolStop := true } } ∧ base.pwr.coolStop = false) ∧
    (let s := queued .usb { port1 with recs := [mkRec tyRESULT 0 0 (leBytes 2 4095)] } (accS (acc0 asDONE))
     ∃ r ∈ (s.portq .usb).recs, r.ty = tyRESULT ∧ bnum r.payload 0 2 = 4095) ∧
    (∀ r ∈ ((accS (acc0 asDONE)).portq .usb).recs, ¬(r.ty = tyRESULT ∧ bnum r.payload 0 2 = 4095)) := by
  refine ⟨?_, ?_, ?_, ?_, ?_, ?_⟩ <;> (try simp only [accepted_iff]) <;> decide +kernel

/-- StepsCommitAndPagesFlow: open and closed admission, a step that ended, a pressing page, the waiters, a reclaim. -/
theorem witness_StepsCommitAndPagesFlow :
    (admissionOpen base = true ∧ admissionOpen (accS (acc0 asHELD)) = false ∧ computeOn State.reset = false) ∧
    (∀ st ∈ [0, 1], let x : Step := ⟨0, 0, 63, 0, 0, 1, [], some (st, 0)⟩
      let s := { base with acc := { base.acc with steps := [x] } }
      computeOn s = true ∧ s.acc.steps.find? (fun st => st.graph == 63 && st.done.isSome) = some x ∧ queueRoom s x = true) ∧
    (let h : Hoop := { (default : Hoop) with acc := 0, pressing := some 9, commit := 16, head := 8 }
     let p : Page := { (default : Page) with cls := 3 }
     let s := { base with kve := { base.kve with hoops := [(5, h)], pages := [(9, p)] } }
     computeOn s = true ∧ hoopAt s 5 = some h ∧ h.pressing = some 9 ∧ tget s.kve.pages 9 = some p ∧ ((accAt s h.acc).any (·.twin)) = false) ∧
    nextWaiter base 3 = none ∧
    (let r : PageReq := ⟨4095, 3, 1, false, true⟩
     let s := { accS (acc0 asPAGE_WAIT) with kve := { base.kve with waiters := [r] } }
     serviceOn s = true ∧ nextWaiter s 3 = some r ∧ freeFrames s r.cls < r.need ∧ s.kve.waiters.find? (fun r => r.acc == 4095) = some r ∧
       r.prefill = true ∧ classFrames s r.cls < r.need ∧ (acc0 asPAGE_WAIT).live = true) ∧
    (let r : PageReq := ⟨4095, 3, 1, false, false⟩
     let s := { accS (acc0 asPAGE_WAIT) with kve := { base.kve with waiters := [r] } }
     s.kve.waiters.find? (fun r => r.acc == 4095) = some r ∧ r.prefill = false) := by
  refine ⟨?_, ?_, ?_, ?_, ?_, ?_⟩ <;> decide +kernel

/-! ### Weights -/

/-- The package as number 0 of a chain of 4, in the fabric group 0 of packages 0 to 3, which package `c` coordinates. -/
def grouped (c : Nat) (s : State) : State :=
  { s with rs := [(0x90000, 0), (0x90008, 0x401), (0x9000C, topoPorts 1), (0x90040, 15), (0x90044, 32 + c)] }

/-- A load of object 0 of 2 wheels from stream 32. -/
def load0 (bcast : Bool) : Load :=
  { (default : Load) with handle := mkHandle 0 obj0, fmt := 0, count := 2, stream := 32, port := .usb, tag := 9, bcast := bcast,
                          mload := if bcast then some 65535 else none }

/-- A state with load 65,535 and a manifest of 2 wheels from package 1. -/
def loadS (x : Load) : State :=
  let s := grouped 1 (withObjs [{ obj0 with lstate := 1 }])
  { s with wgt := { s.wgt with loads := [(65535, x)], mans := [(65535, ⟨0, 1, 1, 0, 0, 2, 15⟩)] } }

/-- A wheel of number 1 without payload whose checksum is right. -/
def wheel1 : Bytes :=
  let b := zeros 20 ++ le4 1 ++ zeros 56
  b ++ le4 (crc32c b)

/-- A message of package 1. -/
def msg1 : Msg := ⟨1, 0, 65535⟩

/-- WheelsFillHostLoads: the refusals, a load that is taken, wheels that fail once and for the third time, a repeat. Whether a
sealed wheel verifies rests on the part's cryptography, which no state of the model fixes. -/
theorem witness_WheelsFillHostLoads :
    (let s := withObjs [{ obj0 with lstate := 0 }]
     Accepted (rec0 .usb) {} s ∧ loadStream s 33 = false ∧ loadStream s 32 = true ∧ loadObjsOK s (mkHandle 0 obj0) 3 0 0 = true ∧
       loadObjsOK s (mkHandle 1 obj0) 3 0 0 = false ∧ loadAt s 65535 = none) ∧
    (let s := { withObjs [obj0] with host := (owned (some .mgt) 2).host }
     Accepted (rec0 .mgt) {} s ∧ (rec0 .mgt).port ≠ .usb) ∧
    (let s := loadS (load0 false)
     serviceOn s = true ∧ loadAt s 65535 = some (load0 false) ∧ (load0 false).done.contains (wheelNum wheel1) = false ∧
       (objOf s (load0 false).handle).isSome = true ∧ (openFor s (load0 false) 0 64 []).toBool = false ∧
       nget (load0 false).fails 0 < 2) ∧
    (let x := { load0 false with done := [1], fails := [(0, 2)] }
     x.done.contains (wheelNum wheel1) = true ∧ 2 ≤ nget x.fails 0) ∧
    ((load0 false).parts = [] ∧ (load0 false).fmt ≠ 3 ∧ firstNear obj0 = none ∧ (base.portq (load0 false).port).attached = true) := by
  refine ⟨?_, ?_, ?_, ?_, ?_⟩ <;> (try simp only [accepted_iff]) <;> decide +kernel

/-- BroadcastsReachTheirMembers: expecting, starting, wheels that fail and arrive, each kind of re-request, the reports, the
messages. -/
theorem witness_BroadcastsReachTheirMembers :
    (let s := grouped 0 (withObjs [{ obj0 with lstate := 0 }])
     Accepted (rec0 .usb) {} s ∧ loadObjsOK s (mkHandle 0 obj0) 0 0 0 = true ∧ loadObjsOK s 5 0 0 0 = false ∧ loadAt s 65535 = none ∧
       bcastOK s 0 1 1 0 15 = true ∧ bcastOK s 0 1 1 0 16 = false ∧ bit 15 (fabId s) = true ∧ bcastOK s 0 1 1 0 14 = true ∧
       bit 14 (fabId s) = false ∧ 1 ≠ fabId s ∧ (∀ e ∈ s.wgt.loads, e.2.bcast = false) ∧ tget s.wgt.mans 65535 = none ∧
       tget s.wgt.bcasts 65535 = none ∧ ∃ q ∈ groupMembers s 0, q ≠ fabId s ∧ s.fab.lost.contains q = false) ∧
    (let s := loadS (load0 true)
     serviceOn s = true ∧ tget s.wgt.mans 65535 = some ⟨0, 1, 1, 0, 0, 2, 15⟩ ∧ wheelCrcOK [] = false ∧ wheelCrcOK wheel1 = true ∧
       wheelNum wheel1 = 1 ∧ bcastLoad s 65535 = some (65535, load0 true) ∧ (load0 true).done.contains 1 = false ∧
       nget (load0 true).fails 1 = 0 ∧ (takeWheel (forwardWheel { s with obj := base.obj } 65535 ⟨0, 1, 1, 0, 0, 2, 15⟩ 1 wheel1) 65535 (load0 true) wheel1).toBool = false) ∧
    (bcastLoad (loadS (load0 false)) 65535 = none ∧ { load0 true with done := [1] }.done.contains 1 = true) ∧
    (let s := loadS (load0 true)
     treeParent s ⟨0, 1, 1, 0, 0, 2, 15⟩ (fabId s) = some 1 ∧ s.fab.lost.contains 1 = false ∧ nget { load0 true with fails := [(1, 3)] }.fails 1 = 3 ∧
       nget { load0 true with fails := [(1, 4)] }.fails 1 = 4 ∧ nget { load0 true with fails := [(1, 5)] }.fails 1 = 5) ∧
    (let b : Bcast := ⟨0, 1, 1, 0, 15, [0, 1, 2], 0, 0, .usb, 9⟩
     bit b.mask 4 = false ∧ b.reported.contains 2 = true ∧ bit b.mask 3 = true ∧ b.reported.contains 3 = false ∧
       (∀ q ∈ maskBits 24 b.mask, q = 3 ∨ b.reported.contains q = true) ∧
       ∃ q ∈ maskBits 24 b.mask, q ≠ 2 ∧ { b with reported := [0, 1] }.reported.contains q = false) ∧
    (let s := loadS (load0 true)
     Heard msg1 s ∧ groupValid s 0 = true ∧ groupCoord s 0 = msg1.src ∧ groupCoord (grouped 2 s) 0 ≠ msg1.src ∧ 1 ≠ fabId s ∧
       { load0 true with done := [0, 1] }.done.length = { load0 true with done := [0, 1] }.count ∧ ∀ e ∈ s.wgt.rtx, ¬(e.1 = 65535 ∧ e.2.1 = 1)) := by
  refine ⟨?_, ?_, ?_, ?_, ?_, ?_⟩ <;> (try simp only [accepted_iff, heard_iff]) <;> decide +kernel

/-- An adapter file: MAGIC, rank 64, 1 layer, alpha. -/
def adapterFile : Bytes := le4 0x5A524144 ++ leBytes 2 64 ++ leBytes 2 1 ++ zeros 56

/-- GrantsAndAdapters: grants given, full and taken back; slots in use and free; a training state; an export. -/
theorem witness_GrantsAndAdapters :
    (let s := withObjs [{ obj0 with lstate := 0 }]
     Accepted (rec0 .usb) {} s ∧ (objOf s (mkHandle 0 obj0)).isSome = true ∧ obj0.rw = false ∧ obj0.coll ≠ 63 ∧ obj0.coll = 0 ∧
       (0, 63) ∉ s.obj.grants ∧ s.obj.grants.length < 1024) ∧
    (let s := { withObjs [obj0] with obj := { (withObjs [obj0]).obj with grants := [(0, 63)] } }
     (0, 63) ∈ s.obj.grants ∧ ∀ e ∈ s.gra.graphs, e.2.coll = 63 → graphNames e.2 (mkHandle 0 obj0) = false) ∧
    (let s := accS { acc0 asDECODE with adapter := 63 }
     Accepted (rec0 .usb) {} s ∧ adapterUsers s 63 ≠ 0 ∧ adapterUsers s 62 = 0) ∧
    (let s := { withObjs [{ obj0 with lstate := lsREADY }] with main := mwrite [] 0 adapterFile }
     Accepted (rec0 .usb) {} s ∧ objRead s { obj0 with lstate := lsREADY } 0 64 = some adapterFile ∧ adapterHeaderOK adapterFile = true ∧
       adapterHeaderOK (zeros 64) = false ∧ bit (rec0 .usb).flags 1 = false) ∧
    (let h : Hdr := { rec0 .usb with flags := 2, stream := 1 }
     let s := withObjs [obj0]
     Accepted h {} s ∧ bit h.flags 1 = true ∧ h.port ≠ .mgt ∧ (wheelKey s 0).isSome = true ∧ (objRead s obj0 0 64).isSome = true) ∧
    (let o := { obj0 with kind := 1, size := 512 }
     let p := { obj0 with lstate := 0, size := 144, dbase := 1 }
     let s := { withObjs [o, p] with main := mwrite [] 0 adapterFile }
     Accepted (rec0 .usb) {} s ∧ o.coll = p.coll ∧ o.rw = true ∧ p.rw = false ∧ p.home = 0 ∧ p.lstate = 0 ∧
       (objRead s o 0 (2 * p.size)).any (fun b => adapterHeaderOK b && 64 + 16 * bnum b 6 2 ≤ p.size &&
         0 + (64 + 16 * bnum b 6 2) + 4 * ((p.size - (64 + 16 * bnum b 6 2)) / 2) ≤ o.size) = true) := by
  refine ⟨?_, ?_, ?_, ?_, ?_, ?_⟩ <;> (try simp only [accepted_iff]) <;> decide +kernel

/-- A plan for service 0 of one group with object 1 from stream 32. -/
def planFile : Bytes := leBytes 2 1 ++ leBytes 2 1 ++ zeros 12 ++ [0, 0] ++ leBytes 2 32 ++ le4 (mkHandle 1 obj0) ++ zeros 8

/-- A state with the plan in object 0, of 32 bytes. -/
def planS : State :=
  { withObjs [{ obj0 with kind := 1, size := 32 }, { obj0 with dbase := 1 }] with main := mwrite [] 0 planFile }

/-- A replacement of two groups. -/
def repl0 : Repl :=
  { svcs := 1, ngroup := 2, plan := [⟨0, 0, 32, mkHandle 1 obj0, 0, [], [], []⟩], stagedG := [], flippedG := [], stopped := false,
    coll := 0, staging := 0 }

/-- ReplacementsFlipGroupByGroup: plans that pass and fail, staging, flipping, stopping, resuming and abandoning. -/
theorem witness_ReplacementsFlipGroupByGroup :
    (Accepted (rec0 .usb) {} planS ∧ planS.wgt.repl = none ∧
      (checkPlan (entered (rec0 .usb) (.wgtReplace (rec0 .usb) (mkHandle 0 obj0)) planS) (mkHandle 0 obj0) [] none).toBool = true ∧
      (checkPlan planS 5 [] none).toBool = false) ∧
    (objRead planS { obj0 with kind := 1, size := 32 } 0 32 = some planFile ∧ planFormOK planFile = true ∧ planFormOK (zeros 32) = false ∧
      (∀ e ∈ planEntries planFile, planEntryStatus planS 0 e = none)) ∧
    (mayStage repl0 0 = true ∧ mayStage repl0 1 = false ∧ (∀ e ∈ repl0.plan, e.src = 0) ∧
      (let s := { planS with wgt := { planS.wgt with repl := some repl0 } }
       computeOn s = true ∧ (stageGroup s 1 repl0.plan.zipIdx).toBool = true ∧
         (planData s ⟨0, 0, 32, mkHandle 1 obj0, 0, [[]], [], []⟩).toBool = false ∧
         (stageGroup { s with obj := base.obj } 0 repl0.plan.zipIdx).toBool = false)) ∧
    (let r := { repl0 with stagedG := [0] }
     r.stagedG.contains 0 = true ∧ r.flippedG.contains 0 = false ∧ olderNames planS r 0 = false ∧
       (∃ g, g < r.ngroup ∧ g ≠ 0 ∧ g ∉ r.flippedG) ∧ ∀ g, g < { r with ngroup := 1 }.ngroup → g = 0 ∨ g ∈ r.flippedG) ∧
    (let s := { planS with wgt := { planS.wgt with repl := some { repl0 with stopped := true } } }
     Accepted (rec0 .usb) {} s ∧ s.wgt.held = [] ∧
       (checkPlan (modRepl (entered (rec0 .usb) (.wgtResume (rec0 .usb) (mkHandle 0 obj0)) s) fun r => { r with staging := 0 })
         (mkHandle 0 obj0) [] (some 1)).toBool = true) := by
  refine ⟨?_, ?_, ?_, ?_, ?_⟩ <;> (try simp only [accepted_iff]) <;> decide +kernel

/-! ### Fabric -/

/-- Package 0 of a chain of 4 with port `p` in a state and with what `f` sets. -/
def portS (p st : Nat) (f : FPort → FPort) : State :=
  let s := grouped 1 base
  { s with fab := { s.fab with ports := s.fab.ports.modify p fun x => f { x with state := st } } }

/-- A flit that waits for its acknowledgement, of a SEQ. -/
def flit0 (seq : Nat) : Flit :=
  { seq := seq, vc := 0, dcl := 0, coll := 0, first := true, last := true, src := 0, dst := 1, ttl := 4, data := [] }

/-- A flit of 256 bytes of a TYPE with SEQ and ACK 0 whose checksum is right. -/
def flitFile (ty : Nat) : Bytes :=
  let b := zeros 8 ++ [BitVec.ofNat 8 ty, 0, 0, 0] ++ zeros 240
  b ++ le4 (crc32 b)

/-- The port by which package 0 of the chain reaches package 1. -/
def toNext : Nat := ((List.range 6).find? fun p => ((neighbourOf (grouped 1 base) 0 p).map (·.1)) == some 1).getD 9

/-- LinksTrainRetryAndFall: training, the map, waiting flits, a NAK below and at the limit, flits good and bad, of each TYPE. -/
theorem witness_LinksTrainRetryAndFall :
    (let s := portS toNext 2 id
     toNext < 6 ∧ (portAt s toNext).state = 2 ∧ 0 = rsv s 0x90004 0 ∧ (neighbourOf s (fabId s) toNext).isSome = true ∧ 1 ≠ rsv s 0x90004 0) ∧
    ((portAt (portS 5 4 id) 5).state = 4 ∧ (portAt base 5).state ≠ 2 ∧ (portAt base 5).state ≠ 4 ∧ (portAt base 5).state ≠ 3) ∧
    (let x := { FPort.reset with rtx := [flit0 4095, flit0 0] }
     (∀ f ∈ x.rtx, f.seq ≠ 1) ∧ x.rtx = [flit0 4095] ++ flit0 0 :: [] ∧ ∀ g ∈ [flit0 4095], g.seq ≠ (flit0 0).seq) ∧
    (let s := portS 5 3 fun x => { x with rtx := [flit0 0, flit0 1], nakRun := 7 }
     (portAt s 5).state = 3 ∧ (resendFrom (portAt s 5) 0).nakRun < 8 ∧ 8 ≤ (resendFrom (portAt s 5) 9).nakRun ∧ (portAt s 5).rtx ≠ [] ∧
       (portAt s 5).txQ = [] ∧ 5 < s.fab.ports.length) ∧
    ((portAt (portS 5 3 id) 5).rtx = [] ∧ (portAt (portS 5 3 fun x => { x with txQ := [flit0 0] }) 5).txQ ≠ []) ∧
    (let s := portS 5 3 id
     serviceOn s = true ∧ flitOK [] = false ∧ flitOK (flitFile 1) = true ∧ (flitHdr (flitFile 1)).ty = 1 ∧ (flitHdr (flitFile 2)).ty = 2 ∧
       (flitHdr (flitFile 1)).seq = (portAt s 5).rxSeq ∧ (flitHdr (flitFile 1)).seq ≠ (portAt (portS 5 3 fun x => { x with rxSeq := 1 }) 5).rxSeq ∧
       (flitHdr (flitFile 0)).ty ≠ 1 ∧ (flitHdr (flitFile 0)).ty ≠ 2) ∧
    (linkKeep (inState 2 (portS 5 3 id)) 5 = true ∧ linkKeep (portS 5 3 id) 5 = false ∧ (flit0 0).dst ≠ fabId (portS 5 3 id) ∧
      { flit0 0 with ttl := 1 }.ttl ≤ 1 ∧ 1 < (flit0 0).ttl ∧ { flit0 0 with dst := 0 }.dst = fabId (portS 5 3 id) ∧
      { flit0 0 with last := false }.last = false ∧ (flit0 0).first = true) := by
  refine ⟨?_, ?_, ?_, ?_, ?_, ?_, ?_⟩ <;> decide +kernel

/-- The bit layout of R441: a header written field by field and read back, with a good CRC over it. -/
theorem test_flit_header_and_crc :
    let h : FlitHdr := ⟨4095, 2730, 2, 1, 0, 1, 33, true, false, 23, 1, 240, 24, 0x01008002⟩
    flitHdr (flitBytes h (List.replicate 240 0xA5)) = h ∧ flitOK (flitBytes h (List.replicate 240 0xA5)) = true ∧
      flitOK ((flitBytes h []).set 100 1) = false := by decide +kernel

/-- R441, R447: a control message leaves by the port of its route as one flit of VC 0, which the far end reads back. -/
theorem test_control_message_leaves_as_a_flit :
    let s := portS toNext 3 fun x => { x with sendCr := freshCredits, rxSeq := 8, credit := [(4, 3)] }
    let x := portAt (sendCtl 1 0x02 0 [9, 2, 1] s) toNext
    ((x.wire.map fun e => [e.1.seq, e.1.ack, e.1.vc, e.1.dst, e.1.ttl, e.1.ccl, e.1.credit]) = [[0, 7, 0, 1, 24, 1, 3]] ∧
      (x.wire.map fun e => e.1.first && e.1.last) = [true] ∧ x.txSeq = 1 ∧ x.credit = [] ∧ (x.rtx.map (·.data)) = x.wire.map (·.2)) ∧
    ((x.wire.map fun e => [bnum e.2 0 1, bnum e.2 2 2, item e.2 0, item e.2 1, item e.2 2]) = [[0x02, 0, 9, 2, 1]]) := by
  decide +kernel

/-- A group graph, number 63, of the package as member 0 of the group 0, with one edge from member 1. -/
def groupGraph (c : Nat) (f : Graph → Graph) : State :=
  grouped c (graph63 3 (fun x => f { x with group := true, gnum := 0, nmemb := 4, member := 0, gid := 77, nparam := 1,
                                             edges := [⟨1, 0, 0, 0⟩] }) (withObjs [{ obj0 with kind := 1 }]))

/-- ControlMessagesActOnce: each message with and without what it finds. -/
theorem witness_ControlMessagesActOnce :
    (serviceOn State.reset = false ∧ serviceOn base = true ∧ msg1.src < 24 ∧ 1 ∉ base.fab.lost ∧ 1 ∉ base.fab.barred) ∧
    (let s := { base with fab := { base.fab with seen := [(1, 65535)] } }
     (msg1.src, msg1.serial) ∈ s.fab.seen) ∧
    (let s := { base with fab := { base.fab with ctl := [⟨1, 2, 0, 65535, []⟩] } }
     (s.fab.ctl.find? fun c => c.dst == msg1.src && c.serial == 65535).isSome = true ∧ ∀ x ∈ base.fab.ctl, ¬(x.dst = msg1.src ∧ x.serial = 65535)) ∧
    (let s := groupGraph 1 id
     Heard msg1 s ∧ (s.gra.graphs.find? fun e => e.2.group && e.2.gid == 77 && e.2.gnum == msg1.group && groupCoord s msg1.group == msg1.src).isSome = true) ∧
    (let s := groupGraph 2 id
     Heard msg1 s ∧ ∀ e ∈ s.gra.graphs, e.2.group = true → e.2.gid = 77 → e.2.gnum = msg1.group → groupCoord s msg1.group ≠ msg1.src) ∧
    (let s := groupGraph 1 id
     s.gra.graphs.filter (fun g => edgeFits s msg1 g.2 0) ≠ [] ∧ s.gra.graphs.filter (fun g => edgeFits s msg1 g.2 1) = [] ∧
       ((s.gra.graphs.filter fun g => edgeFits s msg1 g.2 0).find? fun g => g.2.run.any fun n => n.serial == 0).isSome = true ∧
       ∀ y ∈ s.gra.graphs, ∀ n ∈ y.2.run.toList, n.serial ≠ 5) ∧
    (let s := groupGraph 0 id
     Heard msg1 s ∧ (s.gra.graphs.find? fun e => coordinates s e.2 && e.2.gnum == msg1.group && bit (groupMask s msg1.group) msg1.src &&
       e.2.run.any fun n => n.serial == bnum (zeros 64) 4 4).isSome = true) ∧
    (let s := grouped 1 base
     fabricOwner s = some msg1.src ∧ fabricOwner (grouped 2 base) ≠ some msg1.src ∧ fabricOwner base = none ∧ 1 ∉ s.fab.lost ∧
       (s.portq .fabric).recs = [] ∧ (s.portq .fabric).evts = []) ∧
    ((queued .fabric { port1 with recs := [default] } (grouped 1 base)).portq .fabric).recs = [default] ∧ base.fab.paceOut = none ∧
    { base with fab := { base.fab with paceOut := some ⟨0, 1, 512, 0, 64⟩ } }.fab.paceOut = some ⟨0, 1, 512, 0, 64⟩ := by
  refine ⟨?_, ?_, ?_, ?_, ?_, ?_, ?_, ?_, ?_, ?_, ?_⟩ <;> (try simp only [heard_iff]) <;> decide +kernel

/-- RemoteMovesAndTwins: a move for a started, a waiting and an unknown graph; its acknowledgement; twin pages and states. -/
theorem witness_RemoteMovesAndTwins :
    (let s := groupGraph 1 fun x => { x with run := x.run.map fun n => { n with binds := [mkHandle 0 obj0] } }
     serviceOn s = true ∧ 0 ∉ s.fab.purged ∧ (s.gra.graphs.find? fun e => e.2.group && e.2.gid == 77).isSome = true ∧
       (∀ e ∈ s.gra.graphs, e.2.group = true → e.2.gid ≠ 78) ∧ (0xC0000000 - 0xC0000000) / 256 = 0 ∧ 0xC0000000 % 256 < 1 ∧
       (instOf s 63).any (fun n => (objOf s (n.binds.getD (0xC0000000 % 256) 0)).any fun p => p.2.rw && p.2.coll == 0 &&
         0 + (zeros 64).length ≤ p.2.size) = true) ∧
    (instOf (groupGraph 1 fun x => { x with run := none }) 63 = none) ∧
    (let m := { move0 with id := 65535, remote := true }
     let s := { base with obj := { base.obj with moves := [m] } }
     Heard msg1 s ∧ s.obj.moves.find? (fun (x : Move) => x.remote && x.id % 65536 == 65535) = some m ∧ moveAt s 65535 = some m ∧
       move0.remote = false) ∧
    (let s := { base with fab := { base.fab with twinCopies := [(4095, 9)] }, kve := { base.kve with pages := [(9, default)] } }
     Heard msg1 s ∧ s.fab.twinCopies.find? (fun c => c.2 == 65545 - 65536) = some (4095, 9) ∧ (tget s.kve.pages 9).isSome = true) ∧
    (let s := { keyed0 with rs := [(0x60000, 0x101), (0x60010, 1)] }
     Heard msg1 s ∧ twinClass s 1 1 = some 0 ∧ twinClass s 2 1 = none ∧ twinOpen s 1 4095 0 = true ∧ twinOpen s 1 4095 63 = false ∧
       heldTwinPage s 1 4095 0 = none ∧ (pageDenied s 0 0 1).isSome = false ∧ (pageDenied keyed0 0 0 1).isSome = true) ∧
    (let p : Page := { (default : Page) with acc := twinHolder 1 4095, index := 0 }
     let s := { keyed0 with kve := { keyed0.kve with pages := [(9, p)] } }
     heldTwinPage s 1 4095 0 = some (9, p)) ∧
    (bnum (BitVec.ofNat 8 asDONE :: zeros 63) 0 1 = asDONE ∧ bnum (zeros 64) 0 1 ≠ asDONE ∧ twinOpen keyed0 1 4095 (bnum (zeros 64) 3 1) = true) := by
  refine ⟨?_, ?_, ?_, ?_, ?_, ?_, ?_⟩ <;> (try simp only [heard_iff]) <;> decide +kernel

/-! ### Security -/

/-- A state with collection 63 in a state. -/
def collS (st : Nat) (f : KeySlot → KeySlot) : State :=
  { base with sec := { base.sec with keys := [(63, f { state := st, xPriv := [], kPriv := [], key := [], digest := none })] } }

/-- CollectionOpensWithFreshKeys: a slot in use and a free one. -/
theorem witness_CollectionOpensWithFreshKeys :
    Accepted (rec0 .usb) {} base ∧ (tget (collS 1 id).sec.keys 63).isSome = true ∧ Accepted (rec0 .usb) {} (collS 1 id) ∧
      tget base.sec.keys 63 = none ∧ noOpening base = false ∧ base.sec.trngFail = false := by
  simp only [accepted_iff]; decide

/-- A wrapped key for collection 63 with a digest of zeros. -/
def keyFile : Bytes := le4 0x5A524B57 ++ [1, 63] ++ zeros 1230

/-- SecurityCollectionsAndFirmware: the refusals of opening, installing and closing, closures, the firmware commands. Whether
a blob opens rests on the part's cryptography, which no state of the model fixes. -/
theorem witness_SecurityCollectionsAndFirmware :
    (let s := { base with sec := { base.sec with lifecycle := 0 } }
     Accepted (rec0 .usb) {} s ∧ noOpening s = true) ∧
    (let s := { base with sec := { base.sec with trngFail := true } }
     noOpening s = false ∧ tget s.sec.keys 63 = none ∧ s.sec.trngFail = true) ∧
    (let s := withData keyFile (collS 1 fun k => { k with digest := some (zeros 48) })
     AcceptedData (recN 1236) { dlen := 1236 } s keyFile ∧ (tget s.sec.keys 63).any (fun k => k.state == 1 &&
       k.digest == some (slice (keyFile.take 1236) 8 48)) = true ∧ bnum (keyFile.take 1236) 0 4 = 0x5A524B57 ∧
       bnum (keyFile.take 1236) 4 1 = 1 ∧ bnum (keyFile.take 1236) 6 2 = 0 ∧ bnum (keyFile.take 1236) 5 1 = 63 ∧ keyState base 63 ≠ 1) ∧
    (∀ st ∈ [0, 1, 2, 3], keyState (collS st id) 63 = st) ∧
    (let x : Closure := ⟨63, 0, 0, [], [], 0, 0, 0, none⟩
     let s := { collS 3 id with sec := { (collS 3 id).sec with closures := [x] } }
     s.sec.closures.find? (fun x => x.coll == 63) = some x ∧ serviceOn s = true ∧ mayScrub s x = true ∧ ∀ x ∈ base.sec.closures, x.coll ≠ 63) ∧
    (Accepted (rec0 .usb) { recovery := true } base ∧ stageBusy base = false ∧
      (let s := withData [1, 2] base
       AcceptedData (recN 2) { recovery := true } s [1, 2] ∧ stageBusy s = false ∧ (recN 2).dlen ≤ slotSize) ∧
      stageBusy (addOut (rec0 .mgt) true (.secFwStage (rec0 .mgt)) base) = true) ∧
    (let s := { base with sec := { base.sec with staged := true } }
     Accepted (rec0 .usb) {} s ∧ s.sec.staged = true ∧ base.sec.staged = false ∧ base.sec.fallback = false ∧
       base.sec.svn.getD base.sec.running 0 ≤ 128 ∧ 128 < { base.sec with svn := [129, 0] }.svn.getD 0 0) ∧
    (let s := { inPhase .booting with sec := { base.sec with staged := true } }
     s.sec.staged = true ∧ s.pkg.phase = .booting) := by
  refine ⟨?_, ?_, ?_, ?_, ?_, ?_, ?_, ?_⟩ <;> (try simp only [accepted_iff, acceptedData_iff]) <;> decide +kernel

/-- TokensNoncesAndRecords: a token of the right length that is refused. -/
theorem witness_badToken :
    let s := withData (zeros 5453) base
    AcceptedData (recN 5453) { dlen := 5453 } s (zeros 5453) ∧ unlockStatus s (zeros 5453) ≠ stOK ∧ lifecycleStatus s (zeros 5453) ≠ stOK := by
  have e : streamBuf .usb 1 (withData (zeros 5453) base) = zeros 5453 := rfl
  have l : (zeros 5453).length = 5453 := List.length_replicate
  refine ⟨⟨by decide, by decide, by decide, .inr ⟨by decide, by decide, ?_, ?_⟩⟩, by decide +kernel, by decide +kernel⟩
  · change 5453 ≤ (streamBuf .usb 1 (withData (zeros 5453) base)).length
    exact Nat.le_of_eq (by rw [e, l])
  · change zeros 5453 = (streamBuf .usb 1 (withData (zeros 5453) base)).take 5453
    rw [e, List.take_of_length_le (Nat.le_of_eq l)]

/-- TokensNoncesAndRecords: the nonce and its lock, the session, the certificates, a bad token, the records. -/
theorem witness_TokensNoncesAndRecords :
    (Accepted (rec0 .usb) { anyone := true, recovery := true } base ∧ base.sec.locked = false ∧ base.sec.trngFail = false ∧
      hasIdentity base.sec = true ∧ (rec0 .usb).port ≠ .mgt ∧ hasIdentity { base.sec with lifecycle := 3 } = false ∧
      { base.sec with locked := true }.locked = true) ∧
    (Accepted (rec0 .usb) {} base ∧ base.sec.level ≠ 2 ∧ { base.sec with level := 2 }.level = 2) ∧
    (let s := withData (zeros 68) { base with sec := { base.sec with epochDurable := true } }
     AcceptedData (recN 68) { anyone := true, dlen := 20 } s (zeros 68) ∧ ((zeros 68).take ((zeros 68).length - 4)).length = 64 ∧
       s.sec.epochDurable = true ∧ base.sec.epochDurable = false ∧ keyState s 63 ≠ 3 ∧ keyState (collS 3 id) 63 = 3) ∧
    (let s := withData (zeros 20) base
     AcceptedData (recN 20) { dlen := 20 } s (zeros 20) ∧ ((zeros 20).take ((zeros 20).length - 4)).length = 16) := by
  refine ⟨?_, ?_, ?_, ?_⟩ <;> (try simp only [accepted_iff, acceptedData_iff]) <;> decide +kernel

/-! ## The manual's worked examples -/

/-- The words of the example after R194: VLD v4 from s9 + 128, VARITH v6 ← v4 × v4, VRED s7 ← SUM of v6, VISSUE s10, s11. -/
theorem test_words_of_the_example :
    decodeTrn 0 0x22400123#32 = .vld 0 ⟨4, 9, 0, 2⟩ ∧ decodeTrn 0 0x31082130#32 = .varith 0 ⟨6, 4, 4, 0, 4, 2⟩ ∧
    decodeTrn 0 0x39802138#32 = .vred 0 ⟨7, 6, 0, 0, 4, 2⟩ ∧ decodeTrn 0 0x02960048#32 = .vissue 0 ⟨0, 10, 11, 0, 0⟩ := by decide

/-- The STREAM of the example after R109: its fields. -/
theorem test_stream_of_the_example :
    let w : BitVec 128 := 0x0007880001100000008000007E000003
    vOP w = 3 ∧ vMODE w = 0 ∧ vf w 24 24 = 0 ∧ vf w 30 25 = 63 ∧ vf w 63 32 = 0x800000 ∧ vf w 95 64 = 0x1100000 ∧ vf w 101 96 = 0 ∧
      vsf w 109 103 = 16 ∧ vf w 125 110 = 30 := by decide

/-- The Q4 block of the worked encodings: 64 FP32 patterns. -/
def q4Example : List Nat :=
  (((((List.replicate 64 0).set 3 0x3E600000).set 5 0xBDC00000).set 9 0x3E9A0000).set 17 0x40600000).set 40 0xC0000000

/-- The worked encoding of a Q4 block: scale 0x3D80, codes 10, 6, 12 and two escapes; the header 0x0057_3D80; NEAREST_AWAY. -/
theorem test_q4_of_the_example :
    let b := quantQ4With (scaleQ4 0x3E00 0x40600000) 0 true 8 q4Example
    scaleQ4 0x3E00 0x40600000 = 0x3D80 ∧ b.codes.getD 0 0 = 7 ∧ b.codes.getD 3 0 = 10 ∧ b.codes.getD 5 0 = 6 ∧ b.codes.getD 9 0 = 12 ∧
      b.codes.getD 17 0 = 15 ∧ b.codes.getD 40 0 = 15 ∧ b.whey = [0x4060, 0xC000] ∧ q4Header 0x3D80 7 true 2 = 0x00573D80 ∧
      (let a := quantQ4With 0x3D80 1 true 8 q4Example
       a.codes.getD 3 0 = 11 ∧ a.codes.getD 5 0 = 5) := by decide +kernel

/-- The worked output of a vat: 13,952 + 229,376 + 32,768 = 276,096. -/
theorem test_dot_of_the_example :
    let b := quantQ4With 0x3D80 0 true 8 q4Example
    let acts : List Int := ((((((List.replicate 64 (0 : Int)).set 3 22).set 5 (-28)).set 9 3).set 17 32).set 40 (-8))
    blockTerms 0x3D80 0x3D00 16 (blockElems b.codes 7 true b.whey) acts = [some 13952, some 229376, some 32768] := by decide +kernel

/-- The worked requantisation of a drain: scale 0x3D52, codes 255, 1, 130 and 126, and 255 with a saturation at scale 0.03125. -/
theorem test_q8_of_the_example :
    scaleQ8 0x40D00000 = 0x3D52 ∧ (quantQ8With 0x3D52 0 [0x40D00000, 0xC0D00000, 0x3E034000, 0xBE034000, 0x7FC00000]).codes = [255, 1, 130, 126, 128] ∧
      (quantQ8With 0x3D52 0 [0x7FC00000]).nan = true ∧ (quantQ8With 0x3D52 0 [0x7FC00000]).sat = 0 ∧
      (quantQ8With 0x3D00 0 [0x40D00000]).codes = [255] ∧ (quantQ8With 0x3D00 0 [0x40D00000]).sat = 1 := by decide +kernel

/-- The scan of the example after R138: 2, 2, 1, 1.5. -/
theorem test_scan_of_the_example :
    scanColumn (List.replicate 4 0x3F000000) (List.replicate 4 0x3F800000) 4 0x40000000 =
      [0x40000000, 0x40000000, 0x3F800000, 0x3FC00000] := by decide +kernel

/-- The top-k buffer of the example after R185. -/
theorem test_topk_of_the_example :
    let push (b : TopK) (base : Nat) (vs : List Nat) := vs.zipIdx.foldl (fun b e => b.offer e.1 (base + e.2)) b
    let one := push ⟨3, []⟩ 0 ([0x40000000, 0x7FC00000, 0x40A00000, 0x40000000] ++ List.replicate 12 0xBF800000)
    one.ents = [(0x40A00000, 2), (0x40000000, 0), (0x40000000, 3)] ∧
      (push one 16 (0x40A00000 :: List.replicate 15 0xC0400000)).ents = [(0x40A00000, 2), (0x40A00000, 16), (0x40000000, 0)] := by decide +kernel

/-- The neighbour gap of the example after R520: the levels once cluster 3 is lowered to L1. -/
theorem test_levels_of_the_example : settleLevels [7, 7, 7, 1, 7, 7, 7, 7] = [7, 7, 5, 1, 5, 7, 7, 7] := by decide

/-- R459's example: 546 of 1,024 of L7 is met by L3. -/
theorem test_match_of_the_example : matchLevel 546 7 = 3 ∧ matchLevel 1024 7 = 7 ∧ matchLevel 0 7 = 0 := by decide

/-- The coded size of the example after R328, and the bytes of a frame of the example after R345. -/
theorem test_sizes_of_the_examples :
    frameCount 344064 = 84 ∧ tableBytes 344064 = 192 ∧ codedSize 344064 = 344256 ∧ packLimit 4096 = 3723 ∧ frameBytes 34 6 = 851968 := by
  decide

/-! ## Single steps -/

/-- What a command leaves, where it goes on. -/
def after (c : Instr) (s : State) : State :=
  match exec c s with
  | .next t => t
  | _ => State.reset

/-- R165: INT adds 5 and 60; R155: a write to s0 is discarded and the program counter moves on. -/
theorem test_int_adds :
    ((after (.int 63 ⟨1, 2, 3, 0, 0⟩) trnS).trn 63).s 1 = 65 ∧ ((after (.int 63 ⟨0, 2, 3, 0, 0⟩) trnS).trn 63).s 0 = 0 ∧
      ((after (.int 63 ⟨0, 2, 3, 0, 0⟩) trnS).trn 63).pc = 4 := by decide +kernel

/-- R583: OWN_CLAIM under an owner ends with STATE. -/
theorem test_claim_refused :
    ((after (.ownClaim (rec0 .mgt)) base).portq .mgt).recs.map (·.code) = [stSTATE] := by decide +kernel

/-- R594: a register that names the owner: the owner's code, the state OWNED. -/
theorem test_own_status : readWord base 0x1000 = 1 + 8 * 2 := by decide

/-- R603: the root after VSTBY; the first step after it is the wait for VIN. -/
theorem test_vstby : (after .vstbyValid State.reset).pkg.phase = .starting := by decide +kernel

end Sys2Proof.Tests
end

namespace Sys2Proof.Machine

/-! The always-on tick, the thermal trip and the boundary scan: what each leaves, and from it the statement about the three. -/

open Sys2Proof

/-! ## The always-on tick (R11, R400) -/

/-- R400: an entry of the accession table one always-on tick later. -/
def countDown (e : Nat × Acc) : Nat × Acc :=
  (e.1, { e.2 with deadline := if e.2.deadline = noDeadline then noDeadline else e.2.deadline - 1 })

/-- R522: a throttle reason that enters is a change of the power state only. -/
theorem thrEnter_frame (r cause : Nat) (s : State) : thrEnter r cause s = { s with pwr := (thrEnter r cause s).pwr } := by
  unfold thrEnter
  split <;> rfl

/-- R459, R522: the throttle reason PACE is part of the power state only. -/
theorem paceReason_frame (s : State) : paceReason s = { s with pwr := (paceReason s).pwr } := by
  unfold paceReason
  split
  · exact thrEnter_frame ..
  · split <;> rfl

/-- R11, R400: a tick moves the tick counter, the countdowns and the throttle counters, and nothing else. -/
theorem deadlineTick_frame {s : State} (hv : s.pkg.vstby = true) :
    deadlineTick s = { s with
      tick := s.tick + 1, acc := { s.acc with tab := s.acc.tab.map countDown }, pwr := (deadlineTick s).pwr } := by
  simp only [deadlineTick, hv, Bool.not_true, Bool.false_eq_true, if_false]
  rw [paceReason_frame]
  rfl

/-- R11: without VSTBY there is no always-on tick. -/
theorem deadlineTick_off {s : State} (hv : s.pkg.vstby = false) : deadlineTick s = s := by
  simp [deadlineTick, hv]

/-- R11: a tick leaves the boot state and the pins. -/
theorem deadlineTick_pkg (s : State) : (deadlineTick s).pkg = s.pkg := by
  cases hv : s.pkg.vstby
  · rw [deadlineTick_off hv]
  · rw [deadlineTick_frame hv]

/-- R605: where no vat command is pending, none takes effect. -/
theorem serveFences_of_no_vatCmds {s : State} (h : s.pkg.vatCmds = []) : serveFences s = s := by
  simp [serveFences, h]

/-- R400: while no vat command is pending, DEADLINE_COUNTDOWN is the tick alone. -/
theorem runs_deadlineCountdown {s : State} (h : s.pkg.vatCmds = []) : Runs .deadlineCountdown s (deadlineTick s) :=
  congrArg Host.Outcome.next (serveFences_of_no_vatCmds ((congrArg Pkg.vatCmds (deadlineTick_pkg s)).trans h))

/-- R11, R400: what a tick leaves in the fields that programs see. -/
theorem deadlineTick_counts {s : State} (hv : s.pkg.vstby = true) :
    (deadlineTick s).tick = s.tick + 1 ∧ (deadlineTick s).acc.tab = s.acc.tab.map countDown ∧ (deadlineTick s).vats = s.vats ∧
      (deadlineTick s).main = s.main ∧ (deadlineTick s).host = s.host := by
  rw [deadlineTick_frame hv]
  exact ⟨rfl, rfl, rfl, rfl, rfl⟩

/-! ## The thermal trip (R641) -/

/-- The state that THERMAL_TRIP leaves where the junction reading is one to trip on. -/
def tripped (sensor temp : Nat) (s : State) : State :=
  modPkg (modPwr (dropAll s) fun p => { p with temp := p.temp.set sensor (min temp 255) }) fun p =>
    { p with phase := .tripped, tripPin := true, alert := 2 :: s.pkg.alert.filter (· == 0) }

/-- R641: a reading of 115 °C or more of one of the sensors trips a powered package. -/
theorem runs_thermalTrip {s : State} {sensor temp : Nat} (hon : aonOn s = true) (hs : sensor ≤ 12) (ht : 115 ≤ temp) :
    Runs (.thermalTrip sensor temp) s (tripped sensor temp s) := by
  have hgo : (decide (temp < 115) || decide (12 < sensor) || !aonOn s) = false := by
    simp [hon, Nat.not_lt.mpr hs, Nat.not_lt.mpr ht]
  exact congrArg Host.Outcome.next (if_neg (by rw [hgo]; exact Bool.false_ne_true))

/-- R641: the trip asserts both pins, zeroes the keys, closes the debug session and switches every domain OFF; it writes no
keep record and keeps the fatal record. -/
theorem tripped_leaves (sensor temp : Nat) (s : State) :
    let t := tripped sensor temp s
    t.pkg.phase = .tripped ∧ t.pkg.tripPin = true ∧ 2 ∈ t.pkg.alert ∧ t.sec.keys = [] ∧ t.sec.level = 0 ∧
      t.pwr.dstate = List.replicate 80 3 ∧ t.pwr.keepSeq = s.pwr.keepSeq ∧ t.flt.fatalRec = s.flt.fatalRec :=
  ⟨rfl, rfl, List.mem_cons_self, rfl, rfl, rfl, rfl, rfl⟩

/-! ## The boundary scan (R614) -/

/-- R614: the TAP works with VSTBY and VIO18. -/
theorem tapOn_of_supplies {s : State} (hv : s.pkg.vstby = true) (hio : s.pkg.vio18 = true) : tapOn s = true := by
  simp [tapOn, hv, hio]

/-- R614: an instruction that leaves the pins to the package, on a TAP that works. -/
theorem tapPlain_on (ir tdr : Nat) {s : State} (h : tapOn s = true) :
    tapPlain ir tdr s = { s with pkg := { s.pkg with ir := ir, chainDrives := false, highz := false, tdr := tdr } } := by
  simp [tapPlain, h, modPkg]

/-- R614: EXTEST, CLAMP and HIGHZ on a TAP that works: the pins follow RESET_N. -/
theorem tapWhileLow_on (ir : Nat) (chain highz : Bool) {s : State} (h : tapOn s = true) :
    tapWhileLow ir chain highz s = { s with pkg := { s.pkg with
      ir := ir, chainDrives := chain && s.pkg.resetLow, highz := highz && s.pkg.resetLow, tdr := 0 } } := by
  simp [tapWhileLow, h, modPkg]

/-- R614: SAMPLE/PRELOAD on a TAP that works loads the chain. -/
theorem runs_samplePreload (chain : List Bool) {s : State} (h : tapOn s = true) :
    Runs (.samplePreload chain) s { s with pkg := { s.pkg with
      ir := 2, chainDrives := false, highz := false, tdr := 0, chain := chain } } := by
  change execSamplePreload chain s = _
  rw [execSamplePreload, if_pos h, tapPlain_on 2 0 h]
  rfl

/-! ## The statement -/

/-- Settles O20: the tick from its frame, the trip from the state it leaves, the TAP from what its two kinds of instruction do
while both supplies stand. -/
theorem ticksTripsAndTheTap : Obligations.TicksTripsAndTheTap := by
  unfold Obligations.TicksTripsAndTheTap
  refine ⟨⟨fun s hv hc => ?tick, fun s hv hc => ?noTick, fun s sensor temp hon hs ht => ?trip⟩, fun s hv hio => ?tap⟩
  case tick =>
    obtain ⟨htick, htab, hvats, hmain, hhost⟩ := deadlineTick_counts hv
    refine ⟨deadlineTick s, runs_deadlineCountdown hc, htick, ?_, fun e he => ?_, hvats, hmain, hhost⟩
    · rw [htab, List.map_map]; rfl
    · rw [htab]; exact List.mem_map_of_mem (f := countDown) he
  case noTick =>
    have hrun := runs_deadlineCountdown hc
    rwa [deadlineTick_off hv] at hrun
  case trip => exact ⟨tripped sensor temp s, runs_thermalTrip hon hs ht, tripped_leaves sensor temp s⟩
  case tap =>
    have hon := tapOn_of_supplies hv hio
    have hplain (ir tdr : Nat) := congrArg (β := Out) .next (tapPlain_on ir tdr hon)
    have hlow (ir : Nat) (chain highz : Bool) := congrArg (β := Out) .next (tapWhileLow_on ir chain highz hon)
    exact ⟨hplain 0 0, hplain 1 idcodeWord.toNat, ⟨_, _, rfl⟩, fun chain => runs_samplePreload chain hon, hlow 3 true false,
      hlow 4 true false, hlow 5 false true⟩

end Sys2Proof.Machine

namespace Sys2Proof.Machine

/-! Steps, commit points, pressing and pages: what each operation of the accession engine leaves, and from it the statement
on their flow. -/

open Sys2Proof

/-! ## Folds and tables -/

/-- What every step of a fold keeps, the fold keeps. -/
theorem foldl_keeps {σ α β : Type} (g : σ → β) {f : σ → α → σ} (h : ∀ t a, g (f t a) = g t) (l : List α) (s : σ) :
    g (l.foldl f s) = g s :=
  List.foldlRecOn (motive := fun t => g t = g s) l f rfl fun t ht a _ => (h t a).trans ht

/-- The entry of a key in a table with one entry changed. -/
theorem tget_tmod {α : Type} (t : Tab α) (k j : Nat) (f : α → α) :
    tget (tmod t k f) j = if j = k then (tget t j).map f else tget t j := by
  induction t with
  | nil => simp [tget, tmod]
  | cons e t ih =>
    simp only [tget, tmod, List.map_cons, List.find?_cons] at ih ⊢
    by_cases hk : e.1 = k <;> by_cases hj : e.1 = j <;> grind

theorem argMin_mem {α : Type} {key : α → Nat} {l : List α} {x : α} (h : argMin key l = some x) : x ∈ l := by
  induction l generalizing x with
  | nil => simp [argMin] at h
  | cons y ys ih =>
    simp only [argMin] at h
    split at h
    next =>
      obtain rfl := Option.some.inj h
      exact List.mem_cons_self
    next z hz =>
      split at h
      · exact List.mem_cons_of_mem y (ih (hz.trans h))
      · obtain rfl := Option.some.inj h
        exact List.mem_cons_self

@[simp] theorem accAt_modAcc (s : State) (a : Nat) (f : Acc → Acc) : accAt (modAcc s a f) a = (accAt s a).map f := by
  simp [accAt, modAcc, tget_tmod]

@[simp] theorem modAcc_steps (s : State) (a : Nat) (f : Acc → Acc) : (modAcc s a f).acc.steps = s.acc.steps := rfl
@[simp] theorem modHoop_acc (s : State) (e : Nat) (f : Hoop → Hoop) : (modHoop s e f).acc = s.acc := rfl
@[simp] theorem modHoop_pages (s : State) (e : Nat) (f : Hoop → Hoop) : (modHoop s e f).kve.pages = s.kve.pages := rfl

/-! ## Events and watermarks (R379) -/

@[simp] theorem kvEvent_acc (code cls acc coll : Nat) (s : State) : (kvEvent code cls acc coll s).acc = s.acc := by
  simp [kvEvent]

@[simp] theorem kvEvent_kve (code cls acc coll : Nat) (s : State) : (kvEvent code cls acc coll s).kve = s.kve := by
  simp [kvEvent]

/-- R379: the watermark events leave the accessions and the catalogue. -/
theorem checkMarks_keeps (c : Nat) (s : State) :
    (checkMarks c s).acc = s.acc ∧ (checkMarks c s).kve.pages = s.kve.pages := by
  unfold checkMarks
  constructor <;> grind only [kvEvent_acc, kvEvent_kve]

@[simp] theorem checkMarks_acc (c : Nat) (s : State) : (checkMarks c s).acc = s.acc := (checkMarks_keeps c s).1
@[simp] theorem checkMarks_pages (c : Nat) (s : State) : (checkMarks c s).kve.pages = s.kve.pages := (checkMarks_keeps c s).2

/-! ## Pages and hoops freed (R348, R359) -/

@[simp] theorem freePages_acc (s : State) (a : Nat) :
    (freePages s a).acc = (modAcc s a fun x => { x with phead := none, ptail := none }).acc :=
  foldl_keeps (·.acc) (fun t c => checkMarks_acc c t) _ _

@[simp] theorem freePages_pages (s : State) (a : Nat) :
    (freePages s a).kve.pages = s.kve.pages.filter fun e => e.2.acc != a :=
  foldl_keeps (·.kve.pages) (fun t c => checkMarks_pages c t) _ _

@[simp] theorem freeHoop_steps (s : State) (a : Nat) : (freeHoop s a).acc.steps = s.acc.steps := by
  unfold freeHoop
  split <;> rfl

/-- R359: an accession holds no hoop once it is released. -/
@[simp] theorem accAt_freeHoop (s : State) (a : Nat) :
    accAt (freeHoop s a) a = (accAt s a).map fun x => { x with hoop := none } := by
  unfold freeHoop
  split
  next e he => exact accAt_modAcc ..
  next he =>
    cases h : accAt s a with
    | none => rfl
    | some x =>
      obtain ⟨⟩ := x
      rw [h] at he
      cases he
      rfl

/-! ## An ending (R386, R398, R401) -/

/-- R386: accession `a` is DONE, outside every step, without a hoop and without pages. -/
def EndedAt (s : State) (a : Nat) : Prop :=
  ∃ y, accAt s a = some y ∧ y.state = asDONE ∧ y.instep = false ∧ y.hoop = none ∧ y.phead = none ∧ pageCount s a = 0

/-- R386: changes of an ended accession's other fields leave it ended. -/
theorem EndedAt.of_map {s t : State} {a : Nat} {f : Acc → Acc} (h : EndedAt s a)
    (hacc : accAt t a = (accAt s a).map f) (hpages : t.kve.pages = s.kve.pages)
    (hf : ∀ x, (f x).state = x.state ∧ (f x).instep = x.instep ∧ (f x).hoop = x.hoop ∧ (f x).phead = x.phead) :
    EndedAt t a := by
  obtain ⟨y, hy, hstate, hstep, hhoop, hhead, hcount⟩ := h
  obtain ⟨fstate, fstep, fhoop, fhead⟩ := hf y
  exact ⟨f y, by rw [hacc, hy]; rfl, fstate.trans hstate, fstep.trans hstep, fhoop.trans hhoop, fhead.trans hhead,
    by rw [pageCount, hpages]; exact hcount⟩

/-- R386: what leaves the table and the catalogue leaves an accession ended. -/
theorem EndedAt.of_eq {s t : State} {a : Nat} (h : EndedAt s a) (hacc : t.acc = s.acc) (hkve : t.kve = s.kve) :
    EndedAt t a :=
  h.of_map (f := id) (by simp [accAt, hacc]) (by rw [hkve]) fun _ => ⟨rfl, rfl, rfl, rfl⟩

@[simp] theorem doneAcc_steps (s : State) (a : Nat) : (doneAcc s a).acc.steps = s.acc.steps := by
  simp [doneAcc]

/-- R386: DONE frees the pages and the hoop. -/
theorem endedAt_doneAcc {s : State} {a : Nat} {x : Acc} (h : accAt s a = some x) : EndedAt (doneAcc s a) a := by
  have hfree : accAt (freePages (freeHoop s a) a) a =
      some { x with hoop := none, phead := none, ptail := none } := by
    rw [accAt, freePages_acc, ← accAt, accAt_modAcc, accAt_freeHoop, h]
    rfl
  refine ⟨_, (accAt_modAcc ..).trans (congrArg _ hfree), rfl, rfl, rfl, rfl, ?_⟩
  simp [pageCount, doneAcc]

@[simp] theorem sendTwinState_acc (s : State) (a : Nat) : (sendTwinState s a).acc = s.acc := by
  unfold sendTwinState
  split
  · rw [sendCtl_frame]
  · rfl

@[simp] theorem sendTwinState_kve (s : State) (a : Nat) : (sendTwinState s a).kve = s.kve := by
  unfold sendTwinState
  split
  · rw [sendCtl_frame]
  · rfl

/-- R399, R402: acknowledging the cancels of an accession empties its list of them; pages and steps stay. -/
theorem ackCancels_keeps (s : State) (a : Nat) (ok : Bool) :
    accAt (ackCancels s a ok) a = (accAt s a).map (fun x => { x with cancel := [] }) ∧
      (ackCancels s a ok).kve = s.kve ∧ (ackCancels s a ok).acc.steps = s.acc.steps := by
  unfold ackCancels
  split
  next h => simp [h]
  next x h =>
    have hg := foldl_keeps (fun t : State => (t.acc.tab, t.acc.steps, t.kve)) (f := fun t (c : Port × Nat) =>
        answer c.1 c.2 (Ans.err (if ok then stOK else stTOO_LATE))
          { t with acc := if ok then { t.acc with cancels := satAdd32 t.acc.cancels 1 }
            else { t.acc with tooLate := satAdd32 t.acc.tooLate 1 } })
      (fun t c => by cases ok <;> simp) x.cancel (modAcc s a fun x => { x with cancel := [] })
    simp only [Prod.mk.injEq] at hg
    obtain ⟨htab, hsteps, hkve⟩ := hg
    refine ⟨?_, hkve, hsteps⟩
    rw [accAt, htab, ← accAt, accAt_modAcc]

/-- R401: a record queued for an ended accession leaves it ended. -/
theorem endedAt_queueResult {s : State} {a : Nat} (h : EndedAt s a) (rec : Bytes) (hold : Bool) :
    EndedAt (queueResult s a rec hold) a := by
  unfold queueResult
  split
  · exact h
  next x _ =>
    split
    · exact h.of_map (accAt_modAcc ..) rfl fun _ => ⟨rfl, rfl, rfl, rfl⟩
    · have hpush := h.of_eq (pushRec_acc x.port (mkRec tyRESULT x.tag 0 rec) s) (pushRec_kve ..)
      dsimp only
      split
      · obtain ⟨hacc, hkve, -⟩ :=
          ackCancels_keeps (pushRec x.port (mkRec tyRESULT x.tag 0 rec) s) a (bnum rec 4 1 == ocCANCELLED)
        exact hpush.of_map hacc (by rw [hkve]) fun _ => ⟨rfl, rfl, rfl, rfl⟩
      · exact hpush

@[simp] theorem queueResult_steps (s : State) (a : Nat) (rec : Bytes) (hold : Bool) :
    (queueResult s a rec hold).acc.steps = s.acc.steps := by
  unfold queueResult
  split
  · rfl
  · split
    · rfl
    · dsimp only
      split
      · rw [(ackCancels_keeps ..).2.2, pushRec_acc]
      · rw [pushRec_acc]

/-- R401: an accession that ends enters DONE. -/
theorem endedAt_finishAcc {s : State} {a : Nat} {x : Acc} (h : accAt s a = some x) (toks : List Nat)
    (n oc rs gen pos serial : Nat) (hold : Bool) : EndedAt (finishAcc s a toks n oc rs gen pos serial hold) a := by
  simp only [finishAcc, h]
  refine endedAt_queueResult ?_ _ _
  split
  · refine EndedAt.of_eq ?_ (sendTwinState_acc ..) (sendTwinState_kve ..)
    refine EndedAt.of_map ?_ (accAt_modAcc ..) rfl fun _ => ⟨rfl, rfl, rfl, rfl⟩
    exact endedAt_doneAcc h
  · refine EndedAt.of_map ?_ (accAt_modAcc ..) rfl fun _ => ⟨rfl, rfl, rfl, rfl⟩
    exact endedAt_doneAcc h

@[simp] theorem finishAcc_steps (s : State) (a : Nat) (toks : List Nat) (n oc rs gen pos serial : Nat) (hold : Bool) :
    (finishAcc s a toks n oc rs gen pos serial hold).acc.steps = s.acc.steps := by
  unfold finishAcc
  split
  · rfl
  · rw [queueResult_steps]
    split <;> simp

/-- R378, R401: a live accession that ends outside a commit point is DONE. -/
theorem endedAt_endAcc {s : State} {a : Nat} {x : Acc} (h : accAt s a = some x) (hlive : x.live = true) (oc rs : Nat) :
    EndedAt (endAcc s a oc rs) a := by
  simp only [endAcc, h, hlive, if_true]
  exact endedAt_finishAcc h ..

@[simp] theorem endAcc_steps (s : State) (a oc rs : Nat) : (endAcc s a oc rs).acc.steps = s.acc.steps := by
  unfold endAcc
  split
  · split
    · exact finishAcc_steps ..
    · rfl
  · rfl

/-! ## What a step's admission leaves of the steps admitted before (R388) -/

@[simp] theorem linkPage_steps (s : State) (a pn st : Nat) : (linkPage s a pn st).acc.steps = s.acc.steps := by
  unfold linkPage
  split <;> rfl

@[simp] theorem linkReserved_steps (a coll cls : Nat) (twin : Bool) (n : Nat) (s : State) :
    (linkReserved a coll cls twin n s).acc.steps = s.acc.steps := by
  induction n generalizing s with
  | zero => rfl
  | succ n ih => exact (ih _).trans (linkPage_steps ..)

@[simp] theorem reservePages_steps (a coll cls : Nat) (twin : Bool) (n : Nat) (s : State) :
    (reservePages a coll cls twin n s).acc.steps = s.acc.steps := by
  unfold reservePages
  split <;> simp

@[simp] theorem enterPageWait_steps (s : State) (a cls need : Nat) (quota prefill : Bool) :
    (enterPageWait s a cls need quota prefill).acc.steps = s.acc.steps := by
  simp [enterPageWait]

@[simp] theorem noteHoopWait_steps (s : State) (a : Nat) : (noteHoopWait s a).acc.steps = s.acc.steps := by
  unfold noteHoopWait
  split
  · rfl
  · dsimp only
    split <;> simp

theorem foldl_noteHoopWait_steps (as : List Nat) (s : State) :
    (as.foldl noteHoopWait s).acc.steps = s.acc.steps :=
  foldl_keeps (·.acc.steps) noteHoopWait_steps as s

theorem allocHoop_steps {s t : State} {a cls e : Nat} (h : allocHoop s a cls = some (t, e)) : t.acc.steps = s.acc.steps := by
  simp only [allocHoop] at h
  split at h
  · cases h
  · split at h
    next hpick =>
      cases h
      exact (congrArg (fun r : Option Nat × State => r.2.acc.steps) hpick).symm
    next => cases h

@[simp] theorem giveHoops_steps (s : State) (cls : Nat) (rows : List Nat) :
    (giveHoops s cls rows).acc.steps = s.acc.steps := by
  refine foldl_keeps (·.acc.steps) (fun t a => ?_) rows s
  split
  · rfl
  · cases h : allocHoop t a cls with
    | none => rfl
    | some p => exact allocHoop_steps h

/-! ## The steps that could be admitted -/

theorem decodeCand_steps {s : State} {i : Nat} {v : Svc} {c : Cand} (h : decodeCand s i v = some c) :
    c.st.acc.steps = s.acc.steps := by
  simp only [decodeCand] at h
  split at h
  · cases h
  · split at h <;> cases h
    rfl

theorem prefillCand_steps {s : State} {i : Nat} {v : Svc} {c : Cand} (h : prefillCand s i v = some c) :
    c.st.acc.steps = s.acc.steps := by
  simp only [prefillCand] at h
  split at h
  · cases h
  · split at h <;> cases h
    exact giveHoops_steps ..

/-- R388: weighing a step admits none. -/
theorem candidates_steps {s : State} {c : Cand} (h : c ∈ candidates s) : c.st.acc.steps = s.acc.steps := by
  obtain ⟨e, -, he⟩ := List.mem_flatMap.1 h
  rcases List.mem_append.1 he with hd | hp
  · exact decodeCand_steps (Option.mem_toList.1 hd)
  · exact prefillCand_steps (Option.mem_toList.1 hp)

theorem bestOf_mem {s : State} {cs : List Cand} {coll : Nat} {c : Cand} (h : bestOf s cs coll = some c) : c ∈ cs := by
  obtain ⟨e, -, he⟩ := Option.bind_eq_some_iff.1 h
  exact (List.mem_filter.1 (List.mem_of_find?_eq_some he)).1

/-! ## An admitted step (R370, R391) -/

@[simp] theorem objWrite_acc (s : State) (i off : Nat) (bs : Bytes) : (objWrite s i off bs).acc = s.acc := by
  unfold objWrite
  split
  · rfl
  · split <;> rfl

@[simp] theorem putObj_acc (s : State) (h off : Nat) (bs : Bytes) : (putObj s h off bs).acc = s.acc := by
  unfold putObj
  split <;> simp

@[simp] theorem getObj_acc (s : State) (h off n : Nat) : (getObj s h off n).2.acc = s.acc := by
  unfold getObj
  split <;> rfl

@[simp] theorem rowTokens_acc (s : State) (x : Acc) : (rowTokens s x).2.acc = s.acc := by
  unfold rowTokens
  split <;> simp

@[simp] theorem gatherTokens_acc (s : State) (rows : List Row) : (gatherTokens s rows).2.2.acc = s.acc := by
  refine foldl_keeps (fun r : List (Row × Nat) × Bytes × State => r.2.2.acc) (fun r row => ?_) rows ([], [], s)
  split
  · rfl
  · exact rowTokens_acc ..

/-- R391: writing a step's objects leaves the accession engine. -/
@[simp] theorem writeStep_acc (s : State) (v : Svc) (kind band serial gen : Nat) (rows : List Row) :
    (writeStep s v kind band serial gen rows).2.acc = s.acc := by
  by_cases hk : kind = 0 <;> simp [writeStep, hk]

@[simp] theorem admitRow_steps (s : State) (v : Svc) (kind a : Nat) : (admitRow s v kind a).2.acc.steps = s.acc.steps := by
  unfold admitRow
  split
  · rfl
  · split
    · rfl
    · dsimp only
      split
      · simp [apply_ite (fun t : State => t.acc.steps)]
      · simp

@[simp] theorem admitRows_steps (s : State) (v : Svc) (kind : Nat) (as : List Nat) :
    (admitRows s v kind as).2.acc.steps = s.acc.steps :=
  foldl_keeps (fun r : List Row × State => r.2.acc.steps) (fun r a => admitRow_steps r.2 v kind a) as ([], s)

/-- R388: a chosen step of which no row is left is not admitted. -/
theorem submitStep_none {s t : State} {c : Cand} {v : Svc} (h : submitStep s c v = (none, t)) :
    t.acc.steps = s.acc.steps := by
  simp only [submitStep] at h
  split at h <;> cases h
  exact admitRows_steps ..

/-- R388: an admitted step stands behind the others, not ended. -/
theorem submitStep_some {s t u : State} {c : Cand} {v : Svc} (h : submitStep s c v = (some t, u)) :
    ∃ st : Step, t.acc.steps = s.acc.steps ++ [st] ∧ st.done = none := by
  simp only [submitStep] at h
  split at h <;> cases h
  exact ⟨_, congrArg (· ++ [_]) (by simp [submitInstance]), rfl⟩

/-- R388: an admission leaves the steps as they are, or admits one more behind them. -/
theorem admitSteps_steps (fuel : Nat) (unfit : List (Nat × Nat)) (noted : List Nat) (s : State) :
    (admitSteps fuel unfit noted s).acc.steps = s.acc.steps ∨
      ∃ st : Step, (admitSteps fuel unfit noted s).acc.steps = s.acc.steps ++ [st] ∧ st.done = none := by
  induction fuel generalizing unfit noted s with
  | zero => exact .inl rfl
  | succ fuel ih =>
    simp only [admitSteps]
    split
    case h_1 => exact .inl (foldl_noteHoopWait_steps ..)
    case h_2 coll c hmin =>
      obtain ⟨b, -, hb⟩ := List.mem_filterMap.1 (argMin_mem hmin)
      obtain ⟨d, hbest, hd⟩ := Option.map_eq_some_iff.1 hb
      cases hd
      have hcand := candidates_steps (List.mem_filter.1 (bestOf_mem hbest)).1
      split
      case h_1 => exact .inl rfl
      case h_2 v _ =>
        split
        case h_1 t u hsub =>
          obtain ⟨st, hst, hdone⟩ := submitStep_some hsub
          exact .inr ⟨st, hst.trans (congrArg (· ++ [st]) ((foldl_noteHoopWait_steps ..).trans hcand)), hdone⟩
        case h_2 t hsub =>
          have ht : t.acc.steps = s.acc.steps :=
            (submitStep_none hsub).trans ((foldl_noteHoopWait_steps ..).trans hcand)
          rw [← ht]
          exact ih ..

/-- R388, R403, R591: while the compute units are held, a change set waits or an accession is HELD, admission is closed. -/
theorem admissionOpen_eq_false {s : State}
    (h : computeOn s = false ∨ s.host.applying.isSome = true ∨ ∃ e ∈ s.acc.tab, e.2.state = asHELD) :
    admissionOpen s = false := by
  rcases h with hoff | hset | ⟨e, he, hheld⟩
  · simp [admissionOpen, hoff]
  · simp [admissionOpen, Option.isNone_eq_false_iff.2 hset]
  · have hany : (s.acc.tab.any fun e => e.2.state == asHELD) = true := List.any_eq_true.2 ⟨e, he, by simp [hheld]⟩
    simp [admissionOpen, hany]

/-- R388: STEP_ADMISSION. -/
theorem runs_stepAdmission (s : State) :
    Runs .stepAdmission s
      (if admissionOpen s then admitSteps 4129 [] [] (omitPrefill (admissionChecks (emptyArea s))) else s) := rfl

/-! ## The commit point (R29, R30, R398) -/

/-- R29: the state in which the engine takes up a step that has ended: it is no longer among the steps. -/
def takenUp (s : State) (st : Step) : State :=
  { s with acc := { s.acc with steps := s.acc.steps.filter (· != st) } }

/-- R29, R30: STEP_COMMIT takes up a step that has ended, if its records have room. -/
theorem runs_stepCommit {s : State} {g : Nat} {st : Step} {ended : Nat × Nat} (hon : computeOn s = true)
    (hfind : (s.acc.steps.find? fun st => st.graph == g && st.done.isSome) = some st) (hended : st.done = some ended)
    (hroom : queueRoom s st = true) :
    Runs (.stepCommit g) s
      (if ended.1 = 0 then afterCommit (tryApply (cancelPoint (commitRows (takenUp s st) st))) st
      else
        let t := st.rows.foldl (fun t row => abortRow t row st.kind ended.1 ended.2) (takenUp s st)
        tryApply (if t.acc.steps.isEmpty then cancelPoint t else t)) := by
  change execStepCommit g s = _
  simp only [execStepCommit, hfind, hon, hroom, hended, Bool.not_true, Bool.or_self, Bool.false_eq_true, if_false,
    Option.getD_some]
  rfl

/-! ## Pressing (R364) -/

/-- R364: a position pressed writes page frames only. -/
theorem pressPosition_frame (s : State) (h : Hoop) (key p : Nat) :
    pressPosition s h key p = { s with kve := { s.kve with frames := (pressPosition s h key p).kve.frames } } :=
  List.foldlRecOn (motive := fun t : State => t = { s with kve := { s.kve with frames := t.kve.frames } }) _ _ rfl
    fun t ht _ _ => by rw [ht]

/-- R364 step 2: the first 16 positions of a hoop copied into a page. -/
def pressedInto (s : State) (h : Hoop) (p : Page) : State :=
  (List.range 16).foldl (fun t i => pressPosition t h (frameKey s p.cls p.frame) i) s

theorem pressedInto_frame (s : State) (h : Hoop) (p : Page) :
    pressedInto s h p = { s with kve := { s.kve with frames := (pressedInto s h p).kve.frames } } :=
  List.foldlRecOn (motive := fun t : State => t = { s with kve := { s.kve with frames := t.kve.frames } }) _ _ rfl
    fun t ht i _ => by
      rw [ht]
      exact pressPosition_frame _ h _ i

/-- R347: a page linked changes the accession table and the catalogue only. -/
theorem linkPage_frame (s : State) (a pn st : Nat) :
    linkPage s a pn st = { s with
      acc := (linkPage s a pn st).acc, kve := { s.kve with pages := (linkPage s a pn st).kve.pages } } := by
  unfold linkPage
  split <;> rfl

/-- R347: of its accession a page that is linked changes the two ends of its list. -/
theorem accAt_linkPage (s : State) (a pn st : Nat) :
    accAt (linkPage s a pn st) a =
      (accAt s a).map fun y => { y with phead := if y.phead.isSome then y.phead else some pn, ptail := some pn } := by
  unfold linkPage
  split <;> exact accAt_modAcc ..

/-- R347: a page linked keeps its frame, its class and its accession, and is in the state asked for. -/
theorem page_linkPage {s : State} {pn : Nat} {p : Page} (hp : tget s.kve.pages pn = some p) (a st : Nat) :
    ∃ q, tget (linkPage s a pn st).kve.pages pn = some q ∧ q.state = st ∧ q.frame = p.frame ∧ q.cls = p.cls ∧
      q.acc = p.acc := by
  unfold linkPage
  split
  next tail _ =>
    by_cases ht : pn = tail
    · simp only [modAcc_kve, modPage, tget_tmod, if_true, if_pos ht, hp, Option.map_some]
      exact ⟨_, rfl, rfl, rfl, rfl, rfl⟩
    · simp only [modAcc_kve, modPage, tget_tmod, if_true, if_neg ht, hp, Option.map_some]
      exact ⟨_, rfl, rfl, rfl, rfl, rfl⟩
  · simp [modPage, tget_tmod, hp]

/-- R364 step 3: a hoop whose first 16 positions have been pressed. -/
def Hoop.pressOn (h : Hoop) : Hoop :=
  { h with head := (h.head + 16) % 24, commit := h.commit - 16, basePos := h.basePos + 16, pressing := none }

/-- R364 step 3: the state after a pressing: the page linked and VALID, the hoop moved on, its accession out of PAGE_WAIT. -/
def pressed (s : State) (e pn : Nat) (h : Hoop) (p : Page) : State :=
  let t := modHoop (linkPage (pressedInto s h p) h.acc pn 2) e Hoop.pressOn
  modAcc { t with kve := { t.kve with pressings := satAdd64 t.kve.pressings 1 } } h.acc fun x =>
    if x.under = asPAGE_WAIT then x.goto asDECODE else x

/-- R364: a pressing leaves an accession that is no twin without one. -/
theorem accAt_pressed_not_twin {s : State} {e pn : Nat} {h : Hoop} {p : Page}
    (htwin : (accAt s h.acc).any (·.twin) = false) : (accAt (pressed s e pn h p) h.acc).any (·.twin) = false := by
  have hgoto (x : Acc) : (if x.under = asPAGE_WAIT then x.goto asDECODE else x).twin = x.twin := by
    unfold Acc.goto
    grind
  have hlink : accAt (pressed s e pn h p) h.acc =
      (accAt (linkPage (pressedInto s h p) h.acc pn 2) h.acc).map fun x =>
        if x.under = asPAGE_WAIT then x.goto asDECODE else x := accAt_modAcc ..
  rw [hlink, accAt_linkPage, pressedInto_frame]
  change (((accAt s h.acc).map _).map _).any _ = false
  cases hx : accAt s h.acc with
  | none => rfl
  | some x =>
    rw [hx] at htwin
    exact (hgoto _).trans htwin

/-- R364: PRESSING_COMPLETE on a hoop whose accession is no twin. -/
theorem runs_pressingComplete {s : State} {e pn : Nat} {h : Hoop} {p : Page} (hon : computeOn s = true)
    (hhoop : hoopAt s e = some h) (hpress : h.pressing = some pn) (hpage : tget s.kve.pages pn = some p)
    (htwin : (accAt s h.acc).any (·.twin) = false) : Runs (.pressingComplete e) s (pressed s e pn h p) := by
  have hrun : execPressingComplete e s = .next
      (if (accAt (pressed s e pn h p) h.acc).any (·.twin) then sendTwinPage (pressed s e pn h p) h.acc pn
      else pressed s e pn h p) := by
    simp only [execPressingComplete, hhoop, hpress, Option.bind_some, hpage, hon, Bool.not_true, Bool.false_eq_true, if_false]
    rfl
  rw [accAt_pressed_not_twin htwin] at hrun
  exact hrun

/-- R364: what a pressing leaves in the hoop, in its page and in the memories. -/
theorem pressed_leaves {s : State} {e pn : Nat} {h : Hoop} {p : Page} (hhoop : hoopAt s e = some h)
    (hpage : tget s.kve.pages pn = some p) :
    let t := pressed s e pn h p
    hoopAt t e = some h.pressOn ∧
    (∃ q, tget t.kve.pages pn = some q ∧ q.state = 2 ∧ q.frame = p.frame ∧ q.cls = p.cls ∧ q.acc = p.acc) ∧
    t.kve.pressings = satAdd64 s.kve.pressings 1 ∧ t.near = s.near ∧ t.obj = s.obj := by
  have hinto : tget (pressedInto s h p).kve.pages pn = some p := by rw [pressedInto_frame]; exact hpage
  have hpages : (pressed s e pn h p).kve.pages = (linkPage (pressedInto s h p) h.acc pn 2).kve.pages := by
    simp only [pressed, modAcc_kve, modHoop_pages]
  have hhoops : (pressed s e pn h p).kve.hoops = tmod s.kve.hoops e Hoop.pressOn := by
    simp only [pressed, modAcc_kve, modHoop]
    rw [linkPage_frame, pressedInto_frame]
  refine ⟨?hoop, ?page, ?rest⟩
  case hoop => rw [hoopAt, hhoops, tget_tmod, if_pos rfl, ← hoopAt, hhoop, Option.map_some]
  case page => rw [hpages]; exact page_linkPage hinto h.acc 2
  case rest =>
    simp only [pressed]
    rw [linkPage_frame, pressedInto_frame]
    exact ⟨rfl, rfl, rfl⟩

/-! ## Page waits and reclaim (R376-R378) -/

theorem runs_pageWaitServed {s : State} (hon : serviceOn s = true) (cls : Nat) :
    Runs (.pageWaitServed cls) s (serveWaiters cls s.kve.waiters.length s) :=
  congrArg Host.Outcome.next (if_pos hon)

/-- R376: where the first request that may be served finds too few frames, or there is none, none is served. -/
theorem serveWaiters_none {s : State} {cls : Nat} (h : ∀ r, nextWaiter s cls = some r → freeFrames s cls < r.need)
    (fuel : Nat) : serveWaiters cls fuel s = s := by
  cases fuel with
  | zero => rfl
  | succ fuel =>
    simp only [serveWaiters]
    split
    next r hr => exact if_neg (Nat.not_le.2 (h r hr))
    next => rfl

/-- R377, R378: RECLAIM for an accession that waits. -/
theorem runs_reclaim {s : State} {a : Nat} {r : PageReq} {x : Acc} (hon : serviceOn s = true)
    (hfind : (s.kve.waiters.find? fun r => r.acc == a) = some r) (hx : accAt s a = some x) :
    Runs (.reclaim a) s
      (if r.prefill = true ∧ (classFrames s r.cls < r.need ∨ pageQuota s x.coll < r.need) then endAcc s a ocEVICTED rsPAGES
      else reclaimFor r (s.acc.tab.length + 1) s) := by
  change execReclaim a s = _
  simp [execReclaim, hfind, hon, hx]

/-! ## The statement -/

/-- Settles O50: admission by induction on its visits, a commit point and a reclaim from what their rows do, pressing from the
state it leaves, an eviction from what every ending leaves. -/
theorem stepsCommitAndPagesFlow : Obligations.StepsCommitAndPagesFlow := by
  unfold Obligations.StepsCommitAndPagesFlow
  refine ⟨fun s => ⟨fun hc => ?closed, fun ho => ?opened, admissionOpen_eq_false⟩,
    fun s fuel unfit noted => admitSteps_steps fuel unfit noted s,
    fun s g st ended hon hfind hended hroom => ⟨fun hok => ?committed, fun hbad => ?failed⟩,
    fun s e pn h p hon hhoop hpress hpage htwin =>
      ⟨_, runs_pressingComplete hon hhoop hpress hpage htwin, pressed_leaves hhoop hpage⟩,
    fun s cls hon => ⟨runs_pageWaitServed hon cls, fun hn => ?noWaiter, fun r hr hfew => ?fewFrames⟩,
    fun s a r x hon hfind hx => ⟨fun hpre hnever => ?evicted, fun hmay => ?reclaimed, fun hlive => endedAt_endAcc hx hlive ..⟩⟩
  case closed => simpa [hc] using runs_stepAdmission s
  case opened => simpa [ho] using runs_stepAdmission s
  case committed => exact (runs_stepCommit hon hfind hended hroom).trans (congrArg Host.Outcome.next (if_pos hok))
  case failed => exact (runs_stepCommit hon hfind hended hroom).trans (congrArg Host.Outcome.next (if_neg hbad))
  case noWaiter =>
    have hrun := runs_pageWaitServed hon cls
    rwa [serveWaiters_none (by simp [hn])] at hrun
  case fewFrames =>
    have hrun := runs_pageWaitServed hon cls
    rwa [serveWaiters_none (by simp [hr, hfew])] at hrun
  case evicted =>
    have hrun := runs_reclaim hon hfind hx
    rwa [if_pos ⟨hpre, hnever⟩] at hrun
  case reclaimed =>
    have hrun := runs_reclaim hon hfind hx
    rwa [if_neg (by grind)] at hrun

end Sys2Proof.Machine

namespace Sys2Proof.Machine

/-! The turner's instruction words (R162-R164): a word is the number whose digits are its fields, so fields and words determine
each other; from it, format by format, the round trip of the decoder. -/

open Sys2Proof

/-! ## Words as numbers (R162) -/

/-- The number of a concatenation: its parts are its digits. -/
theorem toNat_append_add {m n : Nat} (x : BitVec m) (y : BitVec n) : (x ++ y).toNat = x.toNat * 2 ^ n + y.toNat := by
  rw [BitVec.toNat_append, ← Nat.shiftLeft_add_eq_or_of_lt y.isLt, Nat.shiftLeft_eq]

/-- The number of a field: a digit of the word. -/
theorem toNat_field (w : BitVec 32) (lo n : Nat) : (w.extractLsb' lo n).toNat = w.toNat / 2 ^ lo % 2 ^ n := by
  rw [BitVec.extractLsb'_toNat, Nat.shiftRight_eq_div_pow]

/-- R163: the function of a sync or task-control word, as a digit. -/
theorem bits_fn (w : BitVec 32) : bits w.toNat 9 7 = (fieldsS w).fn.toNat := by
  rw [fieldsS, BitVec.extractLsb'_toNat, bits]

/-! ## The formats (R162) -/

section

variable {w : BitVec 32} {op : BitVec 7}

theorem wordN_fieldsN (h : w.toNat % 128 = op.toNat) : wordN op (fieldsN w) = w :=
  BitVec.eq_of_toNat_eq (by simp only [wordN, fieldsN, toNat_append_add, toNat_field]; omega)

theorem wordI_fieldsI (h : w.toNat % 128 = op.toNat) : wordI op (fieldsI w) = w :=
  BitVec.eq_of_toNat_eq (by simp only [wordI, fieldsI, toNat_append_add, toNat_field]; omega)

theorem wordM_fieldsM (h : w.toNat % 128 = op.toNat) : wordM op (fieldsM w) = w :=
  BitVec.eq_of_toNat_eq (by simp only [wordM, fieldsM, toNat_append_add, toNat_field]; omega)

theorem wordV_fieldsV (h : w.toNat % 128 = op.toNat) : wordV op (fieldsV w) = w :=
  BitVec.eq_of_toNat_eq (by simp only [wordV, fieldsV, toNat_append_add, toNat_field]; omega)

theorem wordX_fieldsX (h : w.toNat % 128 = op.toNat) : wordX op (fieldsX w) = w :=
  BitVec.eq_of_toNat_eq (by simp only [wordX, fieldsX, toNat_append_add, toNat_field]; omega)

theorem wordS_fieldsS (h : w.toNat % 128 = op.toNat) : wordS op (fieldsS w) = w :=
  BitVec.eq_of_toNat_eq (by simp only [wordS, fieldsS, toNat_append_add, toNat_field]; omega)

end

@[simp] theorem opcode_wordN (op : BitVec 7) (f : FmtN) : (wordN op f).toNat % 128 = op.toNat := by
  simp only [wordN, toNat_append_add]
  omega

@[simp] theorem fieldsN_wordN (op : BitVec 7) (f : FmtN) : fieldsN (wordN op f) = f := by
  obtain ⟨⟩ := f
  simp only [fieldsN, FmtN.mk.injEq, ← BitVec.toNat_inj, wordN, toNat_append_add, toNat_field]
  omega

@[simp] theorem opcode_wordI (op : BitVec 7) (f : FmtI) : (wordI op f).toNat % 128 = op.toNat := by
  simp only [wordI, toNat_append_add]
  omega

@[simp] theorem fieldsI_wordI (op : BitVec 7) (f : FmtI) : fieldsI (wordI op f) = f := by
  obtain ⟨⟩ := f
  simp only [fieldsI, FmtI.mk.injEq, ← BitVec.toNat_inj, wordI, toNat_append_add, toNat_field]
  omega

@[simp] theorem opcode_wordM (op : BitVec 7) (f : FmtM) : (wordM op f).toNat % 128 = op.toNat := by
  simp only [wordM, toNat_append_add]
  omega

@[simp] theorem fieldsM_wordM (op : BitVec 7) (f : FmtM) : fieldsM (wordM op f) = f := by
  obtain ⟨⟩ := f
  simp only [fieldsM, FmtM.mk.injEq, ← BitVec.toNat_inj, wordM, toNat_append_add, toNat_field]
  omega

@[simp] theorem opcode_wordV (op : BitVec 7) (f : FmtV) : (wordV op f).toNat % 128 = op.toNat := by
  simp only [wordV, toNat_append_add]
  omega

@[simp] theorem fieldsV_wordV (op : BitVec 7) (f : FmtV) : fieldsV (wordV op f) = f := by
  obtain ⟨⟩ := f
  simp only [fieldsV, FmtV.mk.injEq, ← BitVec.toNat_inj, wordV, toNat_append_add, toNat_field]
  omega

@[simp] theorem opcode_wordX (op : BitVec 7) (f : FmtX) : (wordX op f).toNat % 128 = op.toNat := by
  simp only [wordX, toNat_append_add]
  omega

@[simp] theorem fieldsX_wordX (op : BitVec 7) (f : FmtX) : fieldsX (wordX op f) = f := by
  obtain ⟨⟩ := f
  simp only [fieldsX, FmtX.mk.injEq, ← BitVec.toNat_inj, wordX, toNat_append_add, toNat_field]
  omega

@[simp] theorem opcode_wordS (op : BitVec 7) (f : FmtS) : (wordS op f).toNat % 128 = op.toNat := by
  simp only [wordS, toNat_append_add]
  omega

@[simp] theorem fieldsS_wordS (op : BitVec 7) (f : FmtS) : fieldsS (wordS op f) = f := by
  obtain ⟨⟩ := f
  simp only [fieldsS, FmtS.mk.injEq, ← BitVec.toNat_inj, wordS, toNat_append_add, toNat_field]
  omega

/-! ## Unassigned words (R163) -/

theorem wordUnassigned_sync {w : BitVec 32} (h : w.toNat % 128 = 0x50) :
    wordUnassigned w = decide (3 ≤ (fieldsS w).fn.toNat) := by
  simp [wordUnassigned, h, opAssigned, bits_fn]

theorem wordUnassigned_taskControl {w : BitVec 32} (h : w.toNat % 128 = 0x54) :
    wordUnassigned w = decide (4 ≤ (fieldsS w).fn.toNat) := by
  simp [wordUnassigned, h, opAssigned, bits_fn]

theorem wordUnassigned_other {w : BitVec 32} (hsync : w.toNat % 128 ≠ 0x50) (htask : w.toNat % 128 ≠ 0x54) :
    wordUnassigned w = !opAssigned (w.toNat % 128) := by
  simp [wordUnassigned, beq_false_of_ne hsync, beq_false_of_ne htask]

/-! ## The decoder (R163, R164) -/

/-- R163: a word with an unassigned opcode, or an unassigned function of a sync or task-control opcode, is TRN_ILLEGAL. -/
theorem decodeTrn_of_wordUnassigned (t : Nat) {w : BitVec 32} (h : wordUnassigned w = true) :
    decodeTrn t w = .trnIllegal t w := by
  unfold decodeTrn
  split
  -- the opcodes 0x50 and 0x54, then every unassigned opcode
  case h_39 hop =>
    rw [wordUnassigned_sync hop, decide_eq_true_iff] at h
    split <;> grind
  case h_40 hop =>
    rw [wordUnassigned_taskControl hop, decide_eq_true_iff] at h
    split <;> grind
  case h_41 => rfl
  all_goals
    rename_i hop
    simp [wordUnassigned_other, hop, opAssigned] at h

/-- R162, R164: the word of an instruction decodes to it. -/
theorem decodeTrn_of_trnWord {i : Instr} {t : Nat} {w : BitVec 32} (h : trnWord i = some (t, w)) : decodeTrn t w = i := by
  unfold trnWord at h
  split at h
  -- the instructions of 0x50 and 0x54, TRN_ILLEGAL, and the commands that no word spells
  case h_39 | h_40 | h_41 | h_42 | h_43 | h_44 | h_45 =>
    obtain ⟨hfn, h⟩ := Option.ite_none_right_eq_some.1 h
    cases h
    simp [decodeTrn, hfn]
  case h_46 =>
    obtain ⟨hw, h⟩ := Option.ite_none_right_eq_some.1 h
    cases h
    exact decodeTrn_of_wordUnassigned _ hw
  case h_47 => cases h
  all_goals
    cases h
    simp [decodeTrn]

/-- R162, R164: every word is the word of what it decodes to. -/
theorem trnWord_decodeTrn (t : Nat) (w : BitVec 32) : trnWord (decodeTrn t w) = some (t, w) := by
  unfold decodeTrn
  split
  -- the opcodes 0x50 and 0x54, then every unassigned opcode
  case h_39 hop =>
    split
    case h_4 => exact if_pos (by grind [wordUnassigned_sync])
    all_goals
      rename_i hfn
      simp [trnWord, ← BitVec.toNat_inj, hfn, wordS_fieldsS, hop]
  case h_40 hop =>
    split
    case h_5 => exact if_pos (by grind [wordUnassigned_taskControl])
    all_goals
      rename_i hfn
      simp [trnWord, ← BitVec.toNat_inj, hfn, wordS_fieldsS, hop]
  case h_41 hsync htask =>
    have hop : opAssigned (w.toNat % 128) = false := by grind [opAssigned]
    simp [trnWord, wordUnassigned_other hsync htask, hop]
  all_goals
    rename_i hop
    simp [trnWord, hop, wordN_fieldsN, wordI_fieldsI, wordM_fieldsM, wordV_fieldsV, wordX_fieldsX]

/-- Settles O38: the decoder inverts the encoder on the instructions that a word spells, and the encoder the decoder on every
word. -/
theorem turnerWordsRoundTrip : Obligations.TurnerWordsRoundTrip :=
  ⟨fun _ _ _ h => decodeTrn_of_trnWord h, trnWord_decodeTrn⟩

end Sys2Proof.Machine

namespace Sys2Proof.Machine

/-! How a turner executes (R158, R163, R194): what each outcome of an instruction leaves; from it, the illegal words. -/

open Sys2Proof

/-! ## The outcomes of an instruction -/

theorem next_eq {u v : State} (h : u = v) : (Host.Outcome.next u : Out) = .next v := congrArg _ h

/-- A turner replaced by what a function makes of it is the turner changed by the function. -/
theorem modTrn_at (s : State) (t : Nat) (g : Turner → Turner) : (s.modTrn t fun _ => g (s.trn t)) = s.modTrn t g := by
  unfold State.modTrn State.trn
  congr 1
  apply List.ext_getElem?
  intro i
  grind

section

variable {t : Nat} {s : State} {k : TaskRef} (h : TrnRuns t s k)
include h

theorem trnDo_ok {f : State → Turner → TaskRef → TRes} {u : State} (hf : f s (s.trn t) k = .ok u) :
    trnDo t f s = retire u t ((s.trn t).pc + 4) := by
  simp [trnDo, h.ready, h.bound, hf]

theorem trnDo_jump {f : State → Turner → TaskRef → TRes} {u : State} {pc : Word} (hf : f s (s.trn t) k = .jump u pc) :
    trnDo t f s = retire u t pc := by
  simp [trnDo, h.ready, h.bound, hf]

theorem trnDo_exc {f : State → Turner → TaskRef → TRes} {code : Nat} (hf : f s (s.trn t) k = .exc code) :
    trnDo t f s = trnExc s t k code := by
  simp [trnDo, h.ready, h.bound, hf]

/-- R155: an instruction that changes its turner alone. -/
theorem trnReg_ok {f : Turner → Except Nat Turner} (g : Turner → Turner) (hf : f (s.trn t) = .ok (g (s.trn t))) :
    trnReg t f s = done t g s := by
  rw [trnReg, trnDo_ok h (u := s.modTrn t fun _ => g (s.trn t)) (by rw [hf]), modTrn_at, done]

theorem trnReg_error {f : Turner → Except Nat Turner} {code : Nat} (hf : f (s.trn t) = .error code) :
    trnReg t f s = trnExc s t k code := by
  rw [trnReg, trnDo_exc h (by rw [hf])]

/-- R163: an instruction with an unassigned field. -/
theorem illegal_eq : illegal t s = trnExc s t k xTRN_ILLEGAL := trnDo_exc h rfl

end

/-! ## Illegal words (R163) -/

/-- Whether a word is legal does not depend on the turner that meets it. -/
theorem trnLegal_decodeTrn (t : Nat) (w : BitVec 32) : trnLegal (decodeTrn t w) = wordLegal w := by
  unfold wordLegal decodeTrn
  split
  case h_39 | h_40 => split <;> rfl
  all_goals rfl

/-- R163: TRN_ILLEGAL on a word that is not legal. -/
theorem runs_trnIllegal {t : Nat} {s : State} {k : TaskRef} (h : TrnRuns t s k) {w : BitVec 32} (hl : wordLegal w = false) :
    Runs (.trnIllegal t w) s (trnExc s t k xTRN_ILLEGAL) :=
  next_eq ((if_neg (by simp [hl])).trans (illegal_eq h))

/-- R165: INT with an unassigned FN, or with a B that must be 0 and is not. -/
theorem intFn_unassigned {fn : Nat} {b : BitVec 5} (h : 0x11 < fn ∨ 0x10 ≤ fn ∧ b ≠ 0) (x y : DWord) :
    intFn fn b x y = .error xTRN_ILLEGAL := by
  unfold intFn
  dsimp only
  split <;> grind

/-- R158: an unassigned system register. -/
theorem sysReg_unassigned {n : Nat} (h : sysAssigned n = false) (s : State) (t : Nat) (x : Turner) (k : TaskRef) :
    sysReg s t x k n = none := by
  simp only [sysAssigned, Bool.or_eq_false_iff, Bool.and_eq_false_iff, decide_eq_false_iff_not] at h
  simp (disch := omega) only [sysReg, if_neg]

/-- R163: INT with a reserved bit set or an unassigned FN. -/
theorem runs_int_illegal {t : Nat} {s : State} {k : TaskRef} (h : TrnRuns t s k) {f : FmtN}
    (hl : trnLegal (.int t f) = false) : Runs (.int t f) s (trnExc s t k xTRN_ILLEGAL) := by
  refine next_eq (trnReg_error h ?_)
  split
  next => rfl
  next => rw [intFn_unassigned (by grind [trnLegal])]

/-- R192: SYSR of an unassigned register, or with a reserved bit set. -/
theorem runs_sysr_illegal {t : Nat} {s : State} {k : TaskRef} (h : TrnRuns t s k) {f : FmtS} (hfn : f.fn = 3)
    (hl : trnLegal (.sysr t f) = false) : Runs (.sysr t f) s (trnExc s t k xTRN_ILLEGAL) := by
  refine next_eq ((if_neg (not_not_intro hfn)).trans ?_)
  split
  next => exact illegal_eq h
  next => exact trnDo_exc h (by rw [sysReg_unassigned (by grind [trnLegal])])

/-- R163: an instruction of a word that is not legal ends the task with TRN_ILLEGAL. -/
theorem runs_of_not_trnLegal {t : Nat} {s : State} {k : TaskRef} (h : TrnRuns t s k) {i : Instr} {w : BitVec 32}
    (hi : trnWord i = some (t, w)) (hl : trnLegal i = false) : Runs i s (trnExc s t k xTRN_ILLEGAL) := by
  unfold trnWord at hi
  split at hi
  -- SWAIT, SPOLL and TYIELD have no field to be wrong; SSIG, TEND and TRAP have fields that must be 0
  case h_39 | h_41 | h_43 =>
    cases (Option.ite_none_right_eq_some.1 hi).2
    cases hl
  case h_40 | h_42 | h_44 =>
    obtain ⟨hfn, hi⟩ := Option.ite_none_right_eq_some.1 hi
    cases hi
    exact next_eq ((if_neg (not_not_intro hfn)).trans ((if_pos (by grind [trnLegal])).trans (illegal_eq h)))
  case h_45 =>
    obtain ⟨hfn, hi⟩ := Option.ite_none_right_eq_some.1 hi
    cases hi
    exact runs_sysr_illegal h hfn hl
  case h_46 =>
    obtain ⟨hw, hi⟩ := Option.ite_none_right_eq_some.1 hi
    cases hi
    exact runs_trnIllegal h (by rw [wordLegal, decodeTrn_of_wordUnassigned 0 hw]; rfl)
  case h_47 => cases hi
  all_goals cases hi
  -- every value of every field is assigned: ADDI to XORI, SLTI, branches and jumps
  case h_2 | h_3 | h_4 | h_5 | h_9 | h_11 | h_12 | h_13 | h_14 | h_15 | h_16 | h_17 | h_18 => cases hl
  case h_1 => exact runs_int_illegal h hl
  -- an immediate shift by 64 or more, LSH15 with an A
  case h_6 | h_7 | h_8 | h_10 =>
    exact next_eq (trnReg_error h (if_pos (by grind [trnLegal])))
  -- the others are guarded by their legality
  all_goals
    exact next_eq ((if_pos (by grind [trnLegal])).trans (illegal_eq h))

/-- Settles O37: every word is that of the instruction it decodes to, and each instruction is guarded by its legality. -/
theorem illegalWordsEndTheTask : Obligations.IllegalWordsEndTheTask := fun t _ _ w h hl =>
  ⟨runs_of_not_trnLegal h (trnWord_decodeTrn t w) hl, runs_trnIllegal h ((trnLegal_decodeTrn t w).symm.trans hl)⟩

end Sys2Proof.Machine

namespace Sys2Proof.Machine

/-! Scalar instructions, branches and jumps of a turner (R155, R165-R167). -/

open Sys2Proof

/-! ## Scalar registers (R155) -/

@[simp] theorem Turner.s_zero (x : Turner) : x.s 0 = 0 := rfl

@[simp] theorem Turner.setS_zero (x : Turner) (r : DWord) : x.setS 0 r = x := rfl

theorem Turner.s_setS_same {x : Turner} {i : BitVec 5} (hi : i ≠ 0) (hlen : x.sreg.length = 32) (r : DWord) :
    (x.setS i r).s i = r := by
  have hlt : i.toNat < x.sreg.length := hlen ▸ i.isLt
  rw [Turner.setS, if_neg hi, Turner.s, if_neg hi]
  simp [List.getD, hlt]

theorem Turner.s_setS_ne {x : Turner} {i j : BitVec 5} (hij : i ≠ j) (r : DWord) : (x.setS i r).s j = x.s j := by
  by_cases hi : i = 0
  · rw [Turner.setS, if_pos hi]
  · have hne : i.toNat ≠ j.toNat := fun e => hij (BitVec.eq_of_toNat_eq e)
    rw [Turner.setS, if_neg hi, Turner.s, Turner.s]
    simp [List.getD, hne]

/-! ## INT (R165) -/

/-- R165: the place of the lowest bit set, 64 where there is none. -/
theorem find_lowestBit {x : DWord} {n : Nat} (hn : ((List.range 64).find? fun i => x.getLsbD i).getD 64 = n) :
    (∀ i, i < n → x.getLsbD i = false) ∧ (n = 64 ∨ n < 64 ∧ x.getLsbD n = true) := by
  cases hf : (List.range 64).find? fun i => x.getLsbD i with
  | none =>
    obtain rfl : 64 = n := by rw [← hn, hf]; rfl
    simpa using hf
  | some i =>
    obtain rfl : i = n := by rw [← hn, hf]; rfl
    obtain ⟨hset, hlt, hbelow⟩ := List.find?_range_eq_some.1 hf
    simp only [Bool.not_eq_true', List.mem_range] at hlt hbelow
    exact ⟨hbelow, .inr ⟨hlt, hset⟩⟩

section

variable {t : Nat} {s : State} {k : TaskRef} (h : TrnRuns t s k)
include h

theorem runs_int {f : FmtN} {r : DWord} (hz : f.z = 0)
    (hr : intFn f.fn.toNat f.b ((s.trn t).s f.a) ((s.trn t).s f.b) = .ok r) :
    Runs (.int t f) s (done t (fun z => z.setS f.d r) s) :=
  next_eq (trnReg_ok h (fun z => z.setS f.d r) (by rw [if_neg (not_not_intro hz), hr]))

theorem runs_int_error {f : FmtN} {c : Nat} (hz : f.z = 0)
    (hr : intFn f.fn.toNat f.b ((s.trn t).s f.a) ((s.trn t).s f.b) = .error c) :
    Runs (.int t f) s (trnExc s t k c) :=
  next_eq (trnReg_error h (by rw [if_neg (not_not_intro hz), hr]))

/-! ## Immediate forms (R166) -/

theorem immOp_eq (f : FmtI) (op : DWord → DWord → DWord) :
    immOp t f op s = done t (fun z => z.setS f.d (op ((s.trn t).s f.a) (immS f))) s :=
  trnReg_ok h (fun z => z.setS f.d (op ((s.trn t).s f.a) (immS f))) rfl

theorem shiftOp_eq {f : FmtI} (hf : f.imm.toNat < 64) (op : DWord → Nat → DWord) :
    shiftOp t f op s = done t (fun z => z.setS f.d (op ((s.trn t).s f.a) f.imm.toNat)) s :=
  trnReg_ok h (fun z => z.setS f.d (op ((s.trn t).s f.a) f.imm.toNat)) (if_neg (Nat.not_le.2 hf))

/-! ## Branches and jumps (R167) -/

/-- R167, R194: a jump to an address of the body, or beyond it. -/
theorem trnDo_jumpTo {f : State → Turner → TaskRef → TRes} {dest : Word} {u : State}
    (hf : f s (s.trn t) k = jumpTo s k dest u) :
    trnDo t f s = if bodyLen s k ≤ dest.toNat then trnExc s t k xTRN_ADDR else retire u t dest := by
  unfold jumpTo at hf
  split at hf
  next hlen => rw [if_pos hlen, trnDo_exc h hf]
  next hlen => rw [if_neg hlen, trnDo_jump h hf]

theorem branchOp_eq (f : FmtI) (c : DWord → DWord → Bool) :
    branchOp t f c s =
      if c ((s.trn t).s f.a) ((s.trn t).s f.d) then
        if bodyLen s k ≤ (relTarget (s.trn t).pc f).toNat then trnExc s t k xTRN_ADDR
        else retire s t (relTarget (s.trn t).pc f)
      else retire s t ((s.trn t).pc + 4) := by
  split
  next hc => exact trnDo_jumpTo h (if_pos hc)
  next hc => exact trnDo_ok h (if_neg hc)

end

/-- Settles O33: INT by its table of functions, the immediate forms, branches and jumps from what their shared operations do. -/
theorem scalarResultsAndBranches : Obligations.ScalarResultsAndBranches := by
  unfold Obligations.ScalarResultsAndBranches
  refine ⟨⟨fun t s k h => ⟨fun f hz => ⟨?table, fun hb => ?divide, fun hb hfn => ?divideByZero, fun hb hfn => ?trailingZeros,
    fun hb hfn => ?population⟩, fun f => ?immediate⟩, fun x i j r => ⟨x.s_zero, x.setS_zero r,
    fun hi hlen => Turner.s_setS_same hi hlen r, fun hij => Turner.s_setS_ne hij r⟩⟩,
    fun t s k f h => ?jumps⟩
  case table =>
    intro e he hfn
    refine runs_int h hz ?_
    rw [hfn]
    simp only [List.mem_cons, List.not_mem_nil, or_false] at he
    rcases he with rfl | rfl | rfl | rfl | rfl | rfl | rfl | rfl | rfl | rfl | rfl | rfl | rfl | rfl <;> rfl
  case divide =>
    exact ⟨fun hfn => runs_int h hz (by rw [hfn]; exact if_neg hb),
      fun hfn => runs_int h hz (by rw [hfn]; exact if_neg hb)⟩
  case divideByZero => rcases hfn with hfn | hfn <;> exact runs_int_error h hz (by rw [hfn]; exact if_pos hb)
  case trailingZeros => exact ⟨_, runs_int h hz (by rw [hfn]; exact if_pos hb), find_lowestBit rfl⟩
  case population =>
    rw [List.countP_eq_length_filter]
    exact runs_int h hz (by rw [hfn]; exact if_pos hb)
  case immediate =>
    have himm := fun op => next_eq (immOp_eq h f op)
    exact ⟨himm _, himm _, himm _, himm _, himm _,
      fun hf => ⟨next_eq (shiftOp_eq h hf _), next_eq (shiftOp_eq h hf _), next_eq (shiftOp_eq h hf _)⟩,
      fun ha => next_eq (trnReg_ok h _ (if_neg (not_not_intro ha)))⟩
  case jumps =>
    have hbranch := fun c => next_eq (branchOp_eq h f c)
    refine ⟨hbranch _, hbranch _, hbranch _, hbranch _, hbranch _, hbranch _, next_eq (trnDo_jumpTo h rfl),
      fun hal => next_eq (trnDo_exc h (if_pos hal)), fun n hn hal => ?_⟩
    have hlen : bodyLen s k = n.len := by simp [bodyLen, hn]
    rw [← hlen]
    exact ⟨fun hin => next_eq (trnDo_jump h ((if_neg (not_not_intro hal)).trans (if_neg (Nat.not_le.2 hin)))),
      fun hout => next_eq (trnDo_exc h ((if_neg (not_not_intro hal)).trans (if_pos hout)))⟩

end Sys2Proof.Machine

namespace Sys2Proof.Machine

/-! Loads and stores of a turner (R156, R168-R170): windows read and written byte by byte; from it the accesses. -/

open Sys2Proof

/-! ## Windows (R156) -/

/-- The offset at which a window begins. -/
def Win.off : Win → Nat
  | .scratch o => o
  | .near o => o

/-- The store that a window of turner `t` lies in. -/
def winMem (s : State) (t : Nat) : Win → Memory
  | .scratch _ => (s.trn t).scratch
  | .near _ => s.nearOf (clusterOfTrn t)

/-- The byte at a window of turner `t`. -/
def winByte (s : State) (t : Nat) (b : Win) : Byte := mbyte (winMem s t b) b.off

/-- The units are those of a package, and `t` is one of its turners. -/
structure UnitsOf (s : State) (t : Nat) : Prop where
  /-- the turner's number -/
  turner : t < 64
  /-- R20: 64 turners -/
  turners : s.turners.length = 64
  /-- R20: a near store for each of the 8 clusters -/
  near : s.near.length = 8

@[simp] theorem Win.covers_add (w : Win) (o n i : Nat) : (w.add o).covers n (w.add i) = true ↔ o ≤ i ∧ i < o + n := by
  cases w <;> simp [Win.add, Win.covers] <;> omega

@[simp] theorem Win.covers_self_add (w : Win) (n i : Nat) : w.covers n (w.add i) = true ↔ i < n := by
  cases w <;> simp [Win.add, Win.covers]

theorem Win.covers_of_add {w b : Win} {o n m : Nat} (hin : o + n ≤ m) (h : (w.add o).covers n b = true) :
    w.covers m b = true := by
  cases w <;> cases b <;> simp [Win.add, Win.covers] at h ⊢ <;> omega

theorem Win.off_add (w : Win) (o : Nat) : (w.add o).off = w.off + o := by cases w <;> rfl

theorem Win.add_zero (w : Win) : w.add 0 = w := by cases w <;> rfl

/-- The bytes read from a store are its bytes one by one. -/
theorem mread_eq_map (m : Memory) (a n : Nat) : mread m a n = (List.range n).map fun i => mbyte m (a + i) := by
  unfold mread
  refine List.map_congr_left fun i hi => ?_
  have := List.mem_range.1 hi
  unfold mbyte
  rw [find_filter_eq _ _ (by intro c _ hc; simp; omega)]

theorem winRead_eq_map (s : State) (t : Nat) (w : Win) (n : Nat) :
    winRead s t w n = (List.range n).map fun i => winByte s t (w.add i) := by
  cases w <;> exact mread_eq_map ..

theorem winRead_one (s : State) (t : Nat) (b : Win) : winRead s t b 1 = [winByte s t b] := by
  rw [winRead_eq_map]
  simp [Win.add_zero]

/-- A store changes the near stores and the turners only. -/
theorem winWrite_frame (s : State) (t : Nat) (w : Win) (bs : Bytes) :
    winWrite s t w bs = { s with near := (winWrite s t w bs).near, turners := (winWrite s t w bs).turners } := by
  cases w <;> rfl

theorem unitsOf_winWrite {s : State} {t : Nat} (h : UnitsOf s t) (w : Win) (bs : Bytes) : UnitsOf (winWrite s t w bs) t := by
  cases w
  · exact ⟨h.turner, (List.length_modify ..).trans h.turners, h.near⟩
  · exact ⟨h.turner, h.turners, (List.length_modify ..).trans h.near⟩

theorem cluster_lt {s : State} {t : Nat} (h : UnitsOf s t) : clusterOfTrn t < s.near.length := by
  have := h.turner
  rw [h.near, clusterOfTrn]
  omega

/-- A byte stored reads back; every other byte reads as before. -/
theorem winByte_winWrite {s : State} {t : Nat} (h : UnitsOf s t) (w : Win) (bs : Bytes) (b : Win) :
    winByte (winWrite s t w bs) t b = if w.covers bs.length b then bs.getD (b.off - w.off) 0 else winByte s t b := by
  have ht : t < s.turners.length := h.turners ▸ h.turner
  cases w with
  | scratch o =>
    cases b with
    | scratch a => simp [winByte, winMem, winWrite, trn_modTrn s t _ ht, mbyte_mwrite, Win.covers, Win.off]
    | near a => rfl
  | near o =>
    cases b with
    | scratch a => rfl
    | near a =>
      simp [winByte, winMem, winWrite, State.nearWrite, nearOf_modNear s _ _ (cluster_lt h), mbyte_mwrite, Win.covers, Win.off]

/-- Stores one after another of runs that agree on a byte. -/
theorem winByte_foldl_winWrite {s : State} {t : Nat} (h : UnitsOf s t) (w b : Win) (v : Byte) (rs : List (Nat × Bytes))
    (hv : ∀ r ∈ rs, (w.add r.1).covers r.2.length b = true → r.2.getD (b.off - (w.add r.1).off) 0 = v) :
    winByte (rs.foldl (fun u r => winWrite u t (w.add r.1) r.2) s) t b =
      if rs.any fun r => (w.add r.1).covers r.2.length b then v else winByte s t b := by
  induction rs generalizing s with
  | nil => rfl
  | cons r rs ih =>
    rw [List.foldl_cons, ih (unitsOf_winWrite h ..) fun q hq => hv q (List.mem_cons_of_mem r hq), winByte_winWrite h]
    have := hv r List.mem_cons_self
    grind

/-! ## Masked stores (R170) -/

theorem length_leBytes (k n : Nat) : (leBytes k n).length = k := by
  induction k generalizing n with
  | zero => rfl
  | succ k ih => simp [leBytes, ih]

theorem getD_leBytes {k i : Nat} (hi : i < k) (n : Nat) : (leBytes k n).getD i 0 = BitVec.ofNat 8 (n / 256 ^ i) := by
  induction k generalizing n i with
  | zero => omega
  | succ k ih =>
    cases i with
    | zero => simp [leBytes]
    | succ i =>
      rw [leBytes, List.getD_cons_succ, ih (by omega), Nat.div_div_eq_div_mul, Nat.pow_succ']

theorem getD_vbytes {i : Nat} (hi : i < 64) (x : VReg) : (vbytes x).getD i 0 = BitVec.ofNat 8 (x.toNat >>> (8 * i)) := by
  apply BitVec.eq_of_toNat_eq
  simp [vbytes, elems, List.getD, hi]

theorem getElem?_elems (w : Nat) (x : VReg) (e : Nat) :
    (elems w x)[e]? = if e < 512 / w then some (x.toNat >>> (w * e) % 2 ^ w) else none := by
  by_cases he : e < 512 / w <;> simp [elems, he]

/-- R170: the run that VSTM stores for element `e` of `m` bytes. -/
def elemRun (m : Nat) (x : VReg) (e : Nat) : Nat × Bytes := (m * e, leBytes m (x.toNat >>> (8 * m * e) % 2 ^ (8 * m)))

theorem mem_activeRuns {m : Nat} {p : DWord} {x : VReg} {r : Nat × Bytes} :
    r ∈ activeRuns (8 * m) p x ↔ ∃ e, e < 512 / (8 * m) ∧ active p e = true ∧ elemRun m x e = r := by
  simp only [activeRuns, List.mem_filterMap, Prod.exists, List.mem_zipIdx_iff_getElem?, getElem?_elems,
    Option.ite_none_right_eq_some, Option.some.injEq, Nat.mul_div_cancel_left m (show 0 < 8 by decide), elemRun]
  constructor
  · rintro ⟨_, e, ⟨he, rfl⟩, hact, rfl⟩
    exact ⟨e, he, hact, rfl⟩
  · rintro ⟨e, he, hact, rfl⟩
    exact ⟨_, e, ⟨he, rfl⟩, hact, rfl⟩

/-- The byte at `i` lies in the run of the element that it belongs to. -/
theorem covers_elemRun {m : Nat} (hm : 0 < m) (x : VReg) (e : Nat) (w : Win) (i : Nat) :
    (w.add (elemRun m x e).1).covers (elemRun m x e).2.length (w.add i) = true ↔ i / m = e := by
  rw [Win.covers_add, elemRun, length_leBytes, Nat.div_eq_iff hm, Nat.mul_comm m e]
  omega

/-- A byte of an element is a byte of its register. -/
theorem getD_elemRun {m i : Nat} (hm : 0 < m) (hi : i < 64) (x : VReg) :
    (elemRun m x (i / m)).2.getD (i - m * (i / m)) 0 = (vbytes x).getD i 0 := by
  have hlo := Nat.mul_div_le i m
  have hhi := Nat.lt_mul_div_succ i hm
  rw [elemRun, getD_leBytes (by rw [Nat.mul_succ] at hhi; omega), getD_vbytes hi, show 256 = 2 ^ 8 from rfl, ← Nat.pow_mul]
  apply BitVec.eq_of_getLsbD_eq
  intro b hb
  have hin : b + 8 * (i - m * (i / m)) < 8 * m := by rw [Nat.mul_succ] at hhi; omega
  have hpos : 8 * m * (i / m) + (b + 8 * (i - m * (i / m))) = 8 * i + b := by rw [Nat.mul_assoc]; omega
  simp only [BitVec.getLsbD_ofNat, Nat.testBit_div_two_pow, Nat.testBit_mod_two_pow, Nat.testBit_shiftRight, hin, hpos,
    decide_true, Bool.true_and]

/-- R170: the state after the masked store of the elements of `m` bytes of a register at a window. -/
def maskedStore (s : State) (t : Nat) (w : Win) (m : Nat) (p : DWord) (x : VReg) : State :=
  (activeRuns (8 * m) p x).foldl (fun u r => winWrite u t (w.add r.1) r.2) s

theorem maskedStore_frame (s : State) (t : Nat) (w : Win) (m : Nat) (p : DWord) (x : VReg) :
    maskedStore s t w m p x =
      { s with near := (maskedStore s t w m p x).near, turners := (maskedStore s t w m p x).turners } :=
  List.foldlRecOn (motive := fun u : State => u = { s with near := u.near, turners := u.turners }) _ _ rfl
    fun u hu r _ => by rw [winWrite_frame, hu]

section

variable {s : State} {t m : Nat} (h : UnitsOf s t) (hwhole : 512 / (8 * m) * m = 64) (w : Win) (p : DWord) (x : VReg)
include h hwhole

/-- R170: a byte of the window takes the register's byte where its element is active. -/
theorem winByte_maskedStore (hm : 0 < m) {i : Nat} (hi : i < 64) : winByte (maskedStore s t w m p x) t (w.add i) =
    if active p (i / m) then (vbytes x).getD i 0 else winByte s t (w.add i) := by
  have hlt : i / m < 512 / (8 * m) := (Nat.div_lt_iff_lt_mul hm).2 (hwhole ▸ hi)
  rw [maskedStore, winByte_foldl_winWrite h (v := (vbytes x).getD i 0)]
  · congr 1
    simp only [List.any_eq_true, mem_activeRuns, eq_iff_iff]
    constructor
    · rintro ⟨_, ⟨e, -, hact, rfl⟩, hc⟩
      rwa [(covers_elemRun hm ..).1 hc]
    · exact fun hact => ⟨_, ⟨_, hlt, hact, rfl⟩, (covers_elemRun hm ..).2 rfl⟩
  · intro r hr hc
    obtain ⟨e, -, -, rfl⟩ := mem_activeRuns.1 hr
    obtain rfl := (covers_elemRun hm ..).1 hc
    rw [Win.off_add, Win.off_add, Nat.add_sub_add_left]
    exact getD_elemRun hm hi x

/-- R170: no byte outside the window changes. -/
theorem winByte_maskedStore_outside {b : Win} (hb : w.covers 64 b = false) :
    winByte (maskedStore s t w m p x) t b = winByte s t b := by
  have hout : ∀ r ∈ activeRuns (8 * m) p x, (w.add r.1).covers r.2.length b = false := by
    intro r hr
    obtain ⟨e, he, -, rfl⟩ := mem_activeRuns.1 hr
    rw [← Bool.not_eq_true] at hb ⊢
    refine mt (Win.covers_of_add ?_) hb
    rw [elemRun, length_leBytes, ← hwhole, Nat.mul_comm m e, ← Nat.succ_mul]
    exact Nat.mul_le_mul_right m he
  have hnone : ((activeRuns (8 * m) p x).any fun r => (w.add r.1).covers r.2.length b) = false :=
    List.any_eq_false.2 fun r hr => by simp [hout r hr]
  rw [maskedStore, winByte_foldl_winWrite h (v := 0) _ _ _ fun r hr hc => absurd hc (by simp [hout r hr]), hnone]
  rfl

end

/-- R172: an element has 1, 2 or 4 bytes, and the elements fill the register. -/
theorem etBits_bytes (et : Nat) : ∃ m, etBits et = 8 * m ∧ 0 < m ∧ 512 / (8 * m) * m = 64 := by
  unfold etBits
  split
  · exact ⟨1, rfl, by decide, rfl⟩
  · split
    · exact ⟨2, rfl, by decide, rfl⟩
    · exact ⟨4, rfl, by decide, rfl⟩

/-! ## Accesses (R168-R170) -/

theorem access_ok {s : State} {a n : Nat} {w : Win} (hal : a % n = 0) (hw : window s a n = some w) : access s a n = .ok w := by
  rw [access, if_neg (not_not_intro hal), hw]

theorem access_error {s : State} {a n c : Nat}
    (hc : a % n ≠ 0 ∧ c = xTRN_ALIGN ∨ a % n = 0 ∧ window s a n = none ∧ c = xTRN_ADDR) : access s a n = .error c := by
  rcases hc with ⟨hal, rfl⟩ | ⟨hal, hw, rfl⟩
  · exact if_pos hal
  · rw [access, if_neg (not_not_intro hal), hw]

section

variable {t : Nat} {s : State} {k : TaskRef} (h : TrnRuns t s k)
include h

theorem loadOp_ok {f : FmtM} {n : Nat} {w : Win} (ha : access s (mAddr (s.trn t) f n) n = .ok w)
    (g : Turner → Bytes → Turner) :
    loadOp t f n g s = done t (fun z => g z (winRead s t w n)) s :=
  trnDo_ok h (by rw [ha])

theorem storeOp_ok {f : FmtM} {n : Nat} {w : Win} (ha : access s (mAddr (s.trn t) f n) n = .ok w) (g : Turner → Bytes) :
    storeOp t f n g s = retire (winWrite s t w (g (s.trn t))) t ((s.trn t).pc + 4) :=
  trnDo_ok h (by rw [ha])

theorem loadOp_exc {f : FmtM} {n c : Nat} (ha : access s (mAddr (s.trn t) f n) n = .error c) (g : Turner → Bytes → Turner) :
    loadOp t f n g s = trnExc s t k c :=
  trnDo_exc h (by rw [ha])

theorem storeOp_exc {f : FmtM} {n c : Nat} (ha : access s (mAddr (s.trn t) f n) n = .error c) (g : Turner → Bytes) :
    storeOp t f n g s = trnExc s t k c :=
  trnDo_exc h (by rw [ha])

/-- R170: VSTM. -/
theorem runs_vstm {f : FmtV} {w : Win} {m : Nat} (het : etOK f.et.toNat = true) (hvb : f.vb = 0) (hfn : f.fn = 0)
    (hm : etBits f.et.toNat = 8 * m) (ha : access s ((s.trn t).s f.va).toNat 64 = .ok w) :
    Runs (.vstm t f) s
      (retire (maskedStore s t w m ((s.trn t).p f.p.toNat) ((s.trn t).v f.vd.toNat)) t ((s.trn t).pc + 4)) :=
  next_eq ((if_neg (by simp [het, hvb, hfn])).trans (trnDo_ok h (by rw [ha, hm]; rfl)))

theorem lt_of_trnRuns : t < 64 := by
  have hready := h.ready
  simp only [trnReady, Bool.and_eq_true, decide_eq_true_eq] at hready
  obtain ⟨⟨⟨⟨⟨-, hlt⟩, -⟩, -⟩, -⟩, -⟩ := hready
  exact hlt

end

/-- R156: what a store at a window leaves. -/
theorem winWrite_leaves {s : State} {t : Nat} (h : UnitsOf s t) (w : Win) (bs : Bytes) :
    winRead (winWrite s t w bs) t w bs.length = bs ∧
    (∀ b, w.covers bs.length b = false → winRead (winWrite s t w bs) t b 1 = winRead s t b 1) ∧
    (∀ u, u ≠ t → (winWrite s t w bs).trn u = s.trn u) ∧
    (∀ c, c ≠ clusterOfTrn t → (winWrite s t w bs).nearOf c = s.nearOf c) := by
  refine ⟨?_, fun b hb => ?_, fun u hu => ?_, fun c hc => ?_⟩
  · rw [winRead_eq_map]
    apply List.ext_getElem
    · simp
    · intro i hi hib
      simp [winByte_winWrite h, Win.off_add, hib]
  · rw [winRead_one, winRead_one, winByte_winWrite h, hb]
    rfl
  · cases w with
    | scratch o => exact trn_modTrn_ne s t u _ hu
    | near o => rfl
  · cases w with
    | scratch o => rfl
    | near o => exact nearOf_modNear_ne s _ c _ hc

/-- Settles O34: an aligned access from its window, a store from what a byte reads as after it, VSTM from the runs of the
active elements. -/
theorem loadsAndStoresMoveBytes : Obligations.LoadsAndStoresMoveBytes := by
  unfold Obligations.LoadsAndStoresMoveBytes
  refine ⟨fun t s k h => ⟨fun f w hal hw => ?elements, fun f w hf hal hw => ?registers, fun f hf c hc => ?exceptions,
    fun f w het hvb hfn hturn hnear hal hw => ?masked⟩,
    fun s t w bs ht hturn hnear => winWrite_leaves ⟨ht, hturn, hnear⟩ w bs⟩
  case elements =>
    have ha := access_ok hal hw
    exact ⟨fun hf => next_eq ((if_neg (Nat.not_lt.2 hf)).trans (loadOp_ok h ha _)),
      fun hf => next_eq ((if_neg (Nat.not_lt.2 hf)).trans (loadOp_ok h ha _)),
      fun hf => next_eq ((if_neg (Nat.not_lt.2 hf)).trans (storeOp_ok h ha _)),
      fun hf => next_eq ((if_neg (Nat.not_lt.2 hf)).trans (loadOp_ok h ha _))⟩
  case registers =>
    have ha := access_ok hal hw
    exact ⟨next_eq ((if_neg (not_not_intro hf)).trans (loadOp_ok h ha _)),
      next_eq ((if_neg (not_not_intro hf)).trans (storeOp_ok h ha _))⟩
  case exceptions =>
    have ha := access_error hc
    exact ⟨next_eq ((if_neg (by omega)).trans (loadOp_exc h ha _)),
      next_eq ((if_neg (Nat.not_lt.2 hf)).trans (loadOp_exc h ha _)),
      next_eq ((if_neg (by omega)).trans (storeOp_exc h ha _))⟩
  case masked =>
    obtain ⟨m, hm, hpos, hwhole⟩ := etBits_bytes f.et.toNat
    have hu : UnitsOf s t := ⟨lt_of_trnRuns h, hturn, hnear⟩
    refine ⟨_, runs_vstm h het hvb hfn hm (access_ok hal hw), maskedStore_frame .., ?inside, fun b hb => ?outside⟩
    case inside =>
      rw [winRead_eq_map]
      refine List.map_congr_left fun i hi => ?_
      have hi := List.mem_range.1 hi
      rw [winByte_maskedStore hu hwhole _ _ _ hpos hi, hm, Nat.mul_div_cancel_left m (by decide), winRead_eq_map]
      simp [List.getD, hi]
    case outside => rw [winRead_one, winRead_one, winByte_maskedStore_outside hu hwhole _ _ _ hb]

end Sys2Proof.Machine

namespace Sys2Proof.Machine

/-! CAVE_WRITE without a slice (R293, R570): a refused command's data leave its stream before it ends, which the statement on the
cave's regions does not say. -/

open Sys2Proof

/-! ## Streams (R570) -/

/-- A stream's buffer that has been set reads back. -/
theorem tgetD_putBuf (t : Tab Bytes) (stream : Nat) (b : Bytes) : tgetD (putBuf t stream b) stream [] = b := by
  unfold putBuf
  split
  next hb => rw [tgetD, tget_terase_same, List.isEmpty_iff.1 hb, Option.getD_none]
  next => rw [tgetD, tget_tset_same, Option.getD_some]

/-- R570: the bytes that a command takes are gone from its stream. -/
theorem streamBuf_takeStream (p : Port) (stream n : Nat) (s : State) :
    streamBuf p stream (takeStream p stream n s) = (streamBuf p stream s).drop n := by
  cases p <;> exact tgetD_putBuf ..

@[simp] theorem streamBuf_countCommand (p q : Port) (stream : Nat) (s : State) :
    streamBuf p stream (countCommand q s) = streamBuf p stream s := by
  cases p <;> rfl

/-- R571: a record queued for a port leaves its streams. -/
@[simp] theorem streamBuf_pushRec (p : Port) (stream : Nat) (r : Rec) (s : State) :
    streamBuf p stream (pushRec p r s) = streamBuf p stream s := by
  unfold pushRec ibiIf
  cases p <;> grind [streamBuf, State.portq, HostSt.portq, State.modPort, HostSt.modPort]

/-- R572: a REPLY without result data leaves the port's streams. -/
theorem streamBuf_reply_err (p : Port) (tag stream k st : Nat) (s : State) :
    streamBuf p k (reply p tag stream (Ans.err st) s) = streamBuf p k s :=
  streamBuf_pushRec ..

/-! ## A command with data that its own rules refuse (R567-R570) -/

section

variable {h : Hdr} {n : Need} {s : State} {d : Bytes} (a : AcceptedData h n s d) (hp : h.port = .usb)
include a hp

/-- R570: the data of a USB record that no check of acceptance refuses are its own, even where its own rules refuse it. -/
theorem drains_of_acceptedData : drains h n (countCommand h.port s) = true := by
  have hfine := a.fine
  have hdata := a.some
  have hstreams (p : Port) : hostFetchStreams (countCommand p s) = hostFetchStreams s := rfl
  have hflags : h.flags = 0 → bit h.flags 0 = false := fun h0 => by rw [h0]; rfl
  simp only [refusal, hp] at hfine
  simp only [drains, hstreams, hp]
  grind

/-- R569, R570: a USB command whose data are there and which its own rules refuse ends once its data have been taken. -/
theorem hostCmdPre_refused {ans : Ans} (pre : State → Option Ans) (eff : Effect) (c : Instr)
    (hpre : pre (countCommand h.port s) = some ans) :
    hostCmdPre h n pre eff c s =
      reply h.port h.tag h.stream ans (takeStream h.port h.stream h.dlen (countCommand h.port s)) := by
  have hdrain := drains_of_acceptedData a hp
  obtain ⟨-, hfree, hlen, -⟩ := a.here.resolve_left (by simp [hp])
  have hbusy : streamBusy h.port h.stream (countCommand h.port s) = false := by rw [hp] at hfree ⊢; exact hfree
  simp [hostCmdPre, a.taken, a.fine, hpre, refuse, hdrain, hbusy, hlen]

end

section

variable {h : Hdr} {s : State} {d : Bytes} (a : AcceptedData h {} s d) (hp : h.port = .usb)
include a hp

/-- R293, R570: a CAVE_WRITE from USB without a slice ends NO_SLICE, and its data are gone from the stream. -/
theorem runs_caveWrite_no_slice (region entry count : Nat) (hmode : s.cave.mode ≠ 4) (hslice : s.cave.slice = none) :
    Runs (.caveWrite h region entry count) s (reply h.port h.tag h.stream (Ans.err stNO_SLICE)
      (takeStream h.port h.stream h.dlen (countCommand h.port s))) :=
  next_eq (hostCmdPre_refused a hp _ _ _ (by simp [countCommand, hmode, hslice]))

/-- R570: it does not end with its stream as it was. -/
theorem not_runs_caveWrite_stream_kept (region entry count : Nat) (hmode : s.cave.mode ≠ 4) (hslice : s.cave.slice = none) :
    ¬Runs (.caveWrite h region entry count) s
      (reply h.port h.tag h.stream (Ans.err stNO_SLICE) (countCommand h.port s)) := by
  intro hrun
  have heq := Host.Outcome.next.inj ((runs_caveWrite_no_slice a hp region entry count hmode hslice).symm.trans hrun)
  have hlen := congrArg (fun t => (streamBuf h.port h.stream t).length) heq
  simp only [streamBuf_reply_err, streamBuf_takeStream, streamBuf_countCommand, List.length_drop] at hlen
  obtain ⟨-, -, hthere, -⟩ := a.here.resolve_left (by simp [hp])
  have hdata := a.some
  omega

end

/-! ## The statement -/

/-- A READY package owned by USB, with one byte arrived on stream 1; no slice is granted. -/
def byteArrived : State :=
  { State.reset with
    pkg := { Pkg.reset with phase := .ready }
    host := { HostSt.reset with usb := { PortQ.reset with attached := true, sbuf := [(1, [0])] }, owner := some .usb } }

/-- A command record of USB that brings the byte. -/
def byteRecord : Hdr := { port := .usb, tag := 0, flags := 1, stream := 1, dlen := 1, rsv := 0, tail := 0 }

theorem acceptedData_byteRecord : AcceptedData byteRecord {} byteArrived [0] where
  taken := rfl
  fine := by decide
  some := by decide
  here := by decide

/-- Refutes O45: a CAVE_WRITE that ends NO_SLICE has had its byte taken from its stream (R570), where the statement keeps it
there. -/
theorem not_caveRegionsAreOpenedAndErased : ¬ Obligations.CaveRegionsAreOpenedAndErased := by
  unfold Obligations.CaveRegionsAreOpenedAndErased
  rintro ⟨-, hwrite, -⟩
  obtain ⟨hnoSlice, -⟩ := hwrite byteRecord byteArrived [0] 1 0 1 acceptedData_byteRecord
  exact not_runs_caveWrite_stream_kept acceptedData_byteRecord rfl 1 0 1 (by decide) rfl (hnoSlice (by decide) rfl)

end Sys2Proof.Machine

namespace Sys2Proof.Machine

/-! Reads of the cave (R300-R313): what counting them, relocation and the ladder leave; from it the statement on reads, repair,
relocation and checkpoints. -/

open Sys2Proof

/-! ## What a budget calls for leaves the counters (R300-R306) -/

/-- R300, R311: the object table, and of the cave the map, the read counters and the repair cache. -/
def readView (s : State) :=
  (s.obj, s.cave.map, s.cave.reads, s.cave.readBase, s.cave.nReads, s.cave.repair)

@[simp] theorem readView_sendEvent (code : Nat) (b : Bytes) (s : State) : readView (sendEvent code b s) = readView s := by
  simp [readView]

@[simp] theorem readView_modRegion (s : State) (n : Nat) (f : Region → Region) : readView (modRegion s n f) = readView s := rfl

/-- A free choice takes at most one free value. -/
theorem pickOf_frame {α : Type} (xs : List α) (s : State) : (pickOf xs s).2 = { s with fresh := (pickOf xs s).2.fresh } := by
  match xs with
  | [] | [_] | _ :: _ :: _ => rfl

@[simp] theorem readView_takeSpare (s : State) (ch : Nat) : readView (takeSpare s ch).2 = readView s := by
  have hframe := pickOf_frame (s.cave.spares.getD ch []) s
  unfold takeSpare spareEvent
  split
  next b t hp =>
    rw [hp] at hframe
    dsimp only at hframe ⊢
    rw [hframe]
    split
    · exact readView_sendEvent ..
    · rfl
  next t hp =>
    rw [hp] at hframe
    dsimp only at hframe ⊢
    rw [hframe]
    rfl

@[simp] theorem readView_startRelocs (s : State) : readView (startRelocs s) = readView s := by
  refine foldl_keeps readView (fun t b => ?_) s.cave.relocQ s
  have hspare := readView_takeSpare t b.2
  split
  · rfl
  · split
    next hp => rw [hp] at hspare; exact hspare
    next hp => rw [hp] at hspare; exact hspare

@[simp] theorem readView_queueReloc (s : State) (b : Block) : readView (queueReloc s b) = readView s := by
  unfold queueReloc
  split <;> rfl

@[simp] theorem readView_grantSlice (s : State) (excl : Bool) (dur : Nat) : readView (grantSlice s excl dur) = readView s :=
  readView_startRelocs _

@[simp] theorem readView_takeAuto (s : State) : readView (takeAuto s) = readView s := by
  unfold takeAuto
  split
  · rfl
  · split
    · rw [readView_grantSlice, readView_sendEvent]
    · rfl

/-- R300: what counting reads of a block leaves of the read counters: its own counter and the total are raised. -/
theorem readView_countReads (s : State) (b : Block) (n : Nat) :
    readView (countReads s b n) = (s.obj, s.cave.map,
      tset s.cave.reads (blockKey s.cave b) ((blockReads s.cave b + n) % 2 ^ 32), s.cave.readBase,
      satAdd64 s.cave.nReads n, s.cave.repair) := by
  unfold countReads
  dsimp only
  split
  · rw [readView_takeAuto]
    split
    · split
      · rw [readView_modRegion, readView_sendEvent, readView_startRelocs, readView_queueReloc]; rfl
      · rw [readView_startRelocs, readView_queueReloc]; rfl
    · rw [readView_startRelocs, readView_queueReloc]; rfl
  · rw [readView_takeAuto]; rfl

/-- R300: `n` reads of a block raise its counter and the total by `n`; no other block's counter changes. -/
theorem countReads_counts (s : State) (b : Block) (n : Nat) :
    blockReads (countReads s b n).cave b = (blockReads s.cave b + n) % 2 ^ 32 ∧
    (countReads s b n).cave.nReads = satAdd64 s.cave.nReads n ∧ (countReads s b n).obj = s.obj ∧
    ∀ a, blockKey s.cave a ≠ blockKey s.cave b → blockReads (countReads s b n).cave a = blockReads s.cave a := by
  have h := readView_countReads s b n
  simp only [readView, Prod.mk.injEq] at h
  obtain ⟨hobj, hmap, hreads, hbase, htotal, -⟩ := h
  have hkey (a : Block) : blockKey (countReads s b n).cave a = blockKey s.cave a := by
    rw [blockKey, blockKey, Cave.blockAt, Cave.blockAt, hmap]
  refine ⟨?_, htotal, hobj, fun a ha => ?_⟩
  · rw [blockReads, hkey, hreads, tgetD, tget_tset_same, Option.getD_some]
  · rw [blockReads, hkey, hreads, hbase, tgetD, tget_tset_ne _ _ _ _ ha]; rfl

/-! ## The ladder (R310-R313) -/

/-- R310: a page stands at the step at which it has been put. -/
theorem ladderStep_setLadder (s : State) (p : CPage) (st : Nat) : ladderStep (setLadder s p st) p = st := by
  have hout : (s.cave.ladder.filter (·.1 != p)).find? (·.1 == p) = none := by
    rw [List.find?_eq_none]
    intro e he
    simpa using (List.mem_filter.1 he).2
  by_cases hst : st = 0 <;> simp [ladderStep, setLadder, modCave, List.find?_append, hout, hst]

/-- R299: a page that has been served is waited for by no promotion. -/
theorem not_mem_pages_servePage (s : State) (p : CPage) : ∀ r ∈ (servePage s p).obj.mig, p ∉ r.pages := by
  intro r hr hp
  obtain ⟨q, -, rfl⟩ := List.mem_map.1 hr
  simpa using (List.mem_filter.1 hp).2

/-- R300, R308, R311, R313: what CAVE_PAGE_READ does with a page that may be read. -/
theorem cavePageRead_readable {s : State} {set stripe ch : Nat} (hm : s.cave.mounted = true) (hstripe : stripe < 1024)
    (hch : ch < 32) (hread : readable_ s (set, stripe, ch) = true) (hbad : s.cave.bad.contains (set, stripe, ch) = false)
    (ok : Bool) :
    let p := (set, stripe, ch)
    Runs (.cavePageRead set stripe ch ok) s
      (if repaired s p then servePage s p
      else if s.isFenced siteCAVE ch then setLadder s p 2
      else if ok then servePage (countReads s (set, ch) 1) p
      else setLadder (modCave (countReads s (set, ch) 1) fun c => { c with retries := satAdd32 c.retries 1 }) p 1) := by
  intro p
  have hgo : (!s.cave.mounted || decide (1024 ≤ stripe) || decide (32 ≤ ch) || !readable_ s p ||
      s.cave.bad.contains p) = false := by
    simp [hm, hread, hbad, p, Nat.not_le.2 hstripe, Nat.not_le.2 hch, -List.contains_eq_mem]
  refine next_eq ((if_neg (by rw [hgo]; exact Bool.false_ne_true)).trans ?_)
  split
  · rfl
  next hrep =>
    have hrep : repaired s p = false := by simpa using hrep
    simp only [readPage, hrep, hbad, p, Bool.or_self, Bool.false_eq_true, if_false]

/-- R308: a page that may not be read, or is damaged, is not read. -/
theorem cavePageRead_unreadable {s : State} {set stripe ch : Nat}
    (h : readable_ s (set, stripe, ch) = false ∨ s.cave.bad.contains (set, stripe, ch) = true) (ok : Bool) :
    Runs (.cavePageRead set stripe ch ok) s s :=
  next_eq (if_pos (by rcases h with h | h <;> simp [h, -List.contains_eq_mem]))

/-- R300, R310: READ_RETRY of a page at step 1. -/
theorem readRetry_run {s : State} {set stripe ch : Nat} (h : ladderStep s (set, stripe, ch) = 1) (ok : Bool) :
    let p := (set, stripe, ch)
    Runs (.readRetry set stripe ch ok) s
      (if ok then servePage (setLadder (countReads (advance s) (set, ch) (drawn s % 7 + 1)) p 0) p
      else setLadder (countReads s (set, ch) 7) p 2) :=
  next_eq (if_neg (by simp [h]))

/-- R310: CAVE_REBUILD of a page at step 2. -/
theorem caveRebuild_run {s : State} {set stripe ch : Nat} (h : ladderStep s (set, stripe, ch) = 2) (ok : Bool) :
    let p := (set, stripe, ch)
    let u := (otherPages p).foldl readOther (setLadder s p 0)
    Runs (.caveRebuild set stripe ch ok) s
      (if ok && !stripeLost s p then pageRebuilt u p else servePage (declareDamage u p) p) :=
  next_eq (if_neg (by simp [h]))

/-- R311, R313: a page of the stripe in the repair cache, damaged, or on a fenced channel is not read. -/
theorem readOther_unread {s : State} {p : CPage}
    (h : repaired s p = true ∨ s.cave.bad.contains p = true ∨ s.isFenced siteCAVE p.2.2 = true) : readOther s p = s :=
  if_pos (by rcases h with h | h | h <;> simp [h, -List.contains_eq_mem])

/-- R300, R310: any other is read once, and again up to 7 times. -/
theorem blockReads_readOther {s : State} {p : CPage} (hrep : repaired s p = false) (hbad : s.cave.bad.contains p = false)
    (hfence : s.isFenced siteCAVE p.2.2 = false) :
    ∃ k, 1 ≤ k ∧ k ≤ 8 ∧
      blockReads (readOther s p).cave (p.1, p.2.2) = (blockReads s.cave (p.1, p.2.2) + k) % 2 ^ 32 := by
  refine ⟨drawn s % 8 + 1, by omega, by omega, ?_⟩
  rw [readOther, if_neg (by simp [hrep, hbad, hfence, -List.contains_eq_mem])]
  exact (countReads_counts ..).1

/-- R311: a rebuilt page goes into the repair cache, where it has room. -/
theorem repair_pageRebuilt (s : State) (p : CPage) : (pageRebuilt s p).cave.repair =
    if s.cave.repair.length < 1024 then
      s.cave.repair ++ [(p, ((regionOfSet s p.1).map fun e => rebuildPage e.2 p).getD (zeros 16384))]
    else s.cave.repair := by
  have hview (t : State) (b : Block) : readView (startRelocs (queueReloc t b)) = readView t := by simp
  exact congrArg (·.2.2.2.2.2) (hview _ _)

/-! ## Relocation (R306-R309) -/

/-- R306: without a slice no block starts to be relocated. -/
theorem startRelocs_of_no_slice {s : State} (h : s.cave.slice = none) : startRelocs s = s := by
  have hstay (b : Block) : mayRelocate s b.2 = false := by simp [mayRelocate, dieLimit, h]
  unfold startRelocs
  refine List.foldlRecOn (motive := fun t => t = s) _ _ rfl fun t ht b _ => ?_
  rw [ht, if_pos (by rw [hstay, Bool.not_false])]

theorem nget_nset (t : Tab Nat) (k v : Nat) : nget (nset t k v) k = v := by
  unfold nset
  split
  next hv => rw [nget, tgetD, tget_terase_same, hv, Option.getD_none]
  next => rw [nget, tgetD, tget_tset_same, Option.getD_some]

/-- R300: a counter that has been cleared reads 0. -/
theorem tgetD_clearReads (c : Cave) (key : Nat) : tgetD (clearReads c key) key c.readBase = 0 := by
  unfold clearReads
  split
  next hbase => rw [tgetD, tget_terase_same, hbase, Option.getD_none]
  next => rw [tgetD, tget_tset_same, Option.getD_some]

/-- R315: while the journal has room, an entry that is journaled changes the journal only. -/
theorem note_of_room {c : Cave} (h : c.journal.length < 4096) (e : JEntry) :
    c.note e = { c with journal := c.journal ++ [e] } := by
  simp only [Cave.note, if_neg (Nat.not_le.2 h)]

/-- R307, R311: the cave once the map has flipped for a relocated place. -/
def flippedCave (c : Cave) (r : Reloc) : Cave :=
  let old := c.blockAt (r.set, r.ch)
  { c with
    copied := c.copied.filter (· != r), map := tset c.map (32 * r.set + r.ch) r.blk, reads := clearReads c (keyOf r.blk r.ch)
    relocs := satAdd32 c.relocs 1, repair := c.repair.filter fun e => !(e.1.1 == r.set && e.1.2.2 == r.ch)
    spares := c.spares.modify r.ch fun l => l ++ [old]
    erases := nset c.erases (keyOf old r.ch) (nget c.erases (keyOf old r.ch) + 1)
    journal := c.journal ++ [.block r.set r.ch r.blk] }

/-- R307: a flip between slices, with room in the journal, changes the cave only. -/
theorem flipMap_between_slices {s : State} (hslice : s.cave.slice = none) (hroom : s.cave.journal.length < 4096)
    (r : Reloc) : flipMap s r = { s with cave := flippedCave s.cave r } := by
  unfold flipMap
  rw [startRelocs_of_no_slice, modCave, note_of_room]
  · rfl
  · exact hroom
  · rw [modCave, note_of_room]
    · exact hslice
    · exact hroom

/-- R307, R311: what the flip leaves of the place, of its old block and of the repair cache. -/
theorem flippedCave_leaves (c : Cave) (r : Reloc) (hch : r.ch < c.spares.length) :
    let old := c.blockAt (r.set, r.ch)
    let d := flippedCave c r
    r ∉ d.copied ∧ d.blockAt (r.set, r.ch) = r.blk ∧ blockReads d (r.set, r.ch) = 0 ∧ d.relocs = satAdd32 c.relocs 1 ∧
      d.spares.getD r.ch [] = c.spares.getD r.ch [] ++ [old] ∧
      (∀ e ∈ d.repair, ¬(e.1.1 = r.set ∧ e.1.2.2 = r.ch)) ∧
      nget d.erases (keyOf old r.ch) = nget c.erases (keyOf old r.ch) + 1 := by
  intro old d
  have hblock : d.blockAt (r.set, r.ch) = r.blk := by
    simp only [d, Cave.blockAt, flippedCave, tgetD, tget_tset_same, Option.getD_some]
  refine ⟨fun hmem => ?copied, hblock, ?reads, rfl, ?spares, fun e he ⟨hset, hchan⟩ => ?repair, ?erases⟩
  case copied => simpa using (List.mem_filter.1 hmem).2
  case reads => rw [blockReads, blockKey, hblock]; exact tgetD_clearReads c _
  case spares => simp [d, old, flippedCave, List.getD, hch]
  case repair => exact absurd (List.mem_filter.1 he).2 (by rw [hset, hchan, beq_self_eq_true, beq_self_eq_true]; decide)
  case erases =>
    simp only [d, flippedCave]
    exact nget_nset ..

/-- R307: MAP_FLIP for a block that has been copied, between steps, with no read of it outstanding. -/
theorem mapFlip_run {s : State} {set ch : Nat} {r : Reloc}
    (hfind : s.cave.copied.find? (fun r => (r.set, r.ch) == (set, ch)) = some r) (hsteps : s.acc.steps = [])
    (hreads : readsOutstanding s (set, ch) = false) : Runs (.mapFlip set ch) s (flipMap s r) := by
  change execMapFlip set ch s = _
  simp [execMapFlip, hfind, hsteps, hreads]

/-- R307: while a step is admitted the map does not flip. -/
theorem mapFlip_in_step {s : State} (h : s.acc.steps ≠ []) (set ch : Nat) : Runs (.mapFlip set ch) s s := by
  refine next_eq ?_
  split
  · exact if_neg (by simp [h])
  · rfl

/-- R306, R308: RELOCATION_DONE while a slice runs and no page of the block stands in the ladder. -/
theorem relocationDone_run {s : State} {set ch : Nat} {r : Reloc} (hslice : s.cave.slice.isSome = true)
    (hfind : s.cave.relocating.find? (fun r => (r.set, r.ch) == (set, ch)) = some r)
    (hladder : ∀ e ∈ s.cave.ladder, ¬(e.1.1 = set ∧ e.1.2.2 = ch)) :
    Runs (.relocationDone set ch) s
      (countReads { s with cave := { s.cave with
        relocating := s.cave.relocating.filter (· != r), copied := s.cave.copied ++ [r] } } (set, ch)
        (1024 - r.read.length - cachedPages s.cave r)) := by
  have hclear : (s.cave.ladder.any fun e => e.1.1 == set && e.1.2.2 == ch) = false :=
    List.any_eq_false.2 fun e he => by simpa using hladder e he
  have hgo : (s.cave.slice.isNone || s.cave.ladder.any fun e => e.1.1 == set && e.1.2.2 == ch) = false := by
    rw [hclear, Bool.or_false, ← Option.not_isSome, hslice, Bool.not_true]
  change execRelocationDone set ch s = _
  simp only [execRelocationDone, hfind, hgo, Bool.false_eq_true, if_false]
  rfl

/-- R300: a checkpoint saves the read counters and empties the journal; counters and regions stay. -/
theorem checkpoint_leaves (c : Cave) : c.checkpoint.ckpt = c.reads ∧ c.checkpoint.ckptBase = c.readBase ∧
    c.checkpoint.journal = [] ∧ c.checkpoint.reads = c.reads ∧ c.checkpoint.regions = c.regions := by
  simp only [Cave.checkpoint, Cave.eraseBoot, and_self]

/-! ## The statement -/

/-- Settles O46: the counters from the one view of a counted read, the ladder from what its three rows do, the flip from the cave
that it leaves. -/
theorem caveReadsAreCountedAndRepaired : Obligations.CaveReadsAreCountedAndRepaired := by
  unfold Obligations.CaveReadsAreCountedAndRepaired
  refine ⟨countReads_counts, fun s set stripe ch hm hstripe hch => ⟨cavePageRead_unreadable, fun hread hbad => ?read⟩,
    fun s set stripe ch => ⟨fun h1 => ⟨⟨_, by omega, by omega, readRetry_run h1 true⟩, readRetry_run h1 false⟩,
      fun h2 => ?rebuild, readOther_unread, blockReads_readOther, ⟨_, repair_pageRebuilt ..⟩, not_mem_pages_servePage s _,
      ladderStep_setLadder .., ladderStep_setLadder .., ladderStep_setLadder ..⟩,
    fun s i hwait => next_eq (if_pos hwait), checkpoint_leaves,
    fun s => ⟨fun hslice => ?sliceEnd, fun hm => next_eq (if_pos hm), fun set ch => ⟨fun r => relocationDone_run,
      fun r hfind hsteps hreads hslice hch hroom => ?flip, fun h => mapFlip_in_step h set ch⟩⟩⟩
  case read =>
    have hrun := cavePageRead_readable hm hstripe hch hread hbad
    refine ⟨fun ok hrep => ?_, fun hrep => ⟨fun ok hfence => ?_, fun hfence => ⟨?_, ?_⟩⟩⟩
    · simpa only [hrep, if_true] using hrun ok
    · simpa only [hrep, hfence, Bool.false_eq_true, if_false, if_true] using hrun ok
    · simpa only [hrep, hfence, Bool.false_eq_true, if_false, if_true] using hrun true
    · have hfail := hrun false
      simp only [hrep, hfence, Bool.false_eq_true, if_false] at hfail
      exact ⟨_, hfail, ladderStep_setLadder .., rfl, rfl⟩
  case rebuild =>
    have hrun := caveRebuild_run h2
    refine ⟨hrun false, fun hlost => ?_, fun hlost => ?_⟩
    · simpa only [hlost, Bool.not_true, Bool.and_false, Bool.false_eq_true, if_false] using hrun true
    · simpa only [hlost, Bool.not_false, Bool.and_true, if_true] using hrun true
  case sliceEnd => exact next_eq (if_neg (by simp [← Option.not_isSome, hslice]))
  case flip =>
    have hplace := List.find?_some hfind
    simp only [beq_iff_eq, Prod.mk.injEq] at hplace
    obtain ⟨rfl, rfl⟩ := hplace
    exact ⟨_, (mapFlip_run hfind hsteps hreads).trans (next_eq (flipMap_between_slices hslice hroom r)), rfl,
      flippedCave_leaves s.cave r hch⟩

end Sys2Proof.Machine

namespace Sys2Proof.Machine

/-! Decode tables (R332-R335): what writing, retiring and freeing a slot leave of the table set; from it the statement on
TABLE_LOAD, TABLE_REPLACE, TABLE_DROP and TABLE_SLOT_FREE. -/

open Sys2Proof

/-! ## A command with data (R569-R571) -/

@[simp] theorem enteredData_cmp (h : Hdr) (c : Instr) (s : State) : (enteredData h c s).cmp = s.cmp := by
  simp [enteredData, takeStream, apply_ite State.cmp]

@[simp] theorem enteredData_obj (h : Hdr) (c : Instr) (s : State) : (enteredData h c s).obj = s.obj := by
  simp [enteredData, takeStream, apply_ite State.obj]

/-- R570: a command record with data that is accepted has its effect at once where its data are there. -/
theorem hostCmd_acceptedData {h : Hdr} {n : Need} {s : State} {d : Bytes} (a : AcceptedData h n s d) (eff : Effect)
    (c : Instr) : hostCmd h n eff c s = runEffect h.port h.tag eff d (enteredData h c s) := by
  have hbusy : streamBusy h.port h.stream (countCommand h.port s) = streamBusy h.port h.stream s := by cases h.port <;> rfl
  simp only [hostCmd, hostCmdPre, a.taken, refusal_countCommand, a.fine, a.some, Bool.not_true, Bool.false_eq_true, if_false,
    Option.map_none, Option.orElse_eq_orElse, Option.orElse_none, enteredData]
  rcases a.here with ⟨hmgt, rfl⟩ | ⟨hport, hfree, hlen, rfl⟩
  · rw [if_pos hmgt, if_pos hmgt]
    rfl
  · simp [hport, hbusy, hfree, hlen, entered]

/-- R571: an effect that answers without result data is replied to. -/
theorem runEffect_answers {eff : Effect} {d : Bytes} {s t : State} {a : Ans} (he : eff d s = (some a, t))
    (hbare : a.rdata = none) (p : Port) (tag : Nat) : runEffect p tag eff d s = answer p tag a t := by
  simp [runEffect, he, capMgt, hbare]

/-- R569: an effect that does not answer leaves its command outstanding. -/
theorem runEffect_waits {eff : Effect} {d : Bytes} {s t : State} (he : eff d s = (none, t)) (p : Port) (tag : Nat) :
    runEffect p tag eff d s = t := by
  simp [runEffect, he]

/-- A free choice from a list that is not empty takes one of its elements, and at most one free value. -/
theorem pickOf_of_ne_nil {α : Type} {xs : List α} (h : xs ≠ []) (s : State) :
    ∃ x ∈ xs, ∃ k, pickOf xs s = (some x, { s with fresh := k }) := by
  match xs with
  | [x] => exact ⟨x, List.mem_singleton_self x, s.fresh, rfl⟩
  | x :: y :: ys =>
    have hlt : drawn s % (x :: y :: ys).length < (x :: y :: ys).length := Nat.mod_lt _ (Nat.succ_pos _)
    exact ⟨_, List.getElem_mem hlt, s.fresh + 1, Prod.ext (List.getElem?_eq_getElem hlt) rfl⟩

/-! ## The states of the slots (R332) -/

section

variable {s t : State} (hcmp : t.cmp = s.cmp)
include hcmp

theorem slotState_congr (n : Nat) : slotState t n = slotState s n := by rw [slotState, slotState, hcmp]

theorem slotsIn_congr (st : Nat) : slotsIn t st = slotsIn s st := by rw [slotsIn, slotsIn, hcmp]

theorem tableStatus_congr (old : Option Nat) (b : Bytes) : tableStatus t old b = tableStatus s old b := by
  simp only [tableStatus, slotState_congr hcmp, hcmp]

end

theorem slotState_of_getElem? {s : State} {n : Nat} {x : Slot} (h : s.cmp.slots[n]? = some x) : slotState s n = x.state := by
  simp [slotState, h]

/-- R332: a slot that is not FREE is one of the set. -/
theorem exists_slot_of_state {s : State} {n st : Nat} (h : slotState s n = st) (hst : st ≠ 0) :
    ∃ x, s.cmp.slots[n]? = some x ∧ x.state = st := by
  cases hx : s.cmp.slots[n]? with
  | none => exact absurd (by rw [← h, slotState, hx]; rfl) hst
  | some x => exact ⟨x, rfl, (slotState_of_getElem? hx).symm.trans h⟩

theorem mem_slotsIn {s : State} {n st : Nat} :
    n ∈ slotsIn s st ↔ n < 8 ∧ ∃ x, s.cmp.slots[n]? = some x ∧ x.state = st := by
  simp [slotsIn, Option.any_eq_true]

/-- R334: a slot that a TABLE_REPLACE may name is CURRENT. -/
theorem slotState_of_tableStatus {s : State} {o : Nat} {b : Bytes} (h : tableStatus s (some o) b = none) :
    slotState s o = 2 := by
  unfold tableStatus at h
  refine Decidable.byContradiction fun hne => ?_
  split at h
  · cases h
  · rw [if_pos (by simp [hne])] at h
    cases h

/-! ## Retiring and writing a slot (R334) -/

theorem slotState_retireSlot {s : State} {n : Nat} (h : slotState s n = 2) : slotState (retireSlot s n) n = 3 := by
  obtain ⟨x, hx, -⟩ := exists_slot_of_state h (by decide)
  simp [slotState, retireSlot, hx]

theorem slots_retireSlot_ne (s : State) {n m : Nat} (h : m ≠ n) : (retireSlot s n).cmp.slots[m]? = s.cmp.slots[m]? := by
  simp [retireSlot, h.symm]

section

variable {s : State} {n : Nat} {old : Option Nat} (b : Bytes)

/-- R332: the slot that is written is CURRENT, with the table's version and frequencies. -/
theorem slots_writeSlot_same (hn : n < s.cmp.slots.length) (hold : old ≠ some n) :
    (writeSlot s n old b).cmp.slots[n]? = some { state := 2, version := bnum b 4 2, freq := tableFreq b } := by
  cases old with
  | none => simp [writeSlot, hn]
  | some o =>
    refine (slots_retireSlot_ne _ fun h => hold (congrArg some h.symm)).trans ?_
    simp [hn]

/-- R334: the old slot retires in the same instant. -/
theorem slotState_writeSlot_old {o : Nat} (ho : slotState s o = 2) (hne : o ≠ n) :
    slotState (writeSlot s n (some o) b) o = 3 := by
  refine slotState_retireSlot ?_
  simpa [slotState, hne.symm] using ho

/-- R334: every other slot stays as it is. -/
theorem slots_writeSlot_ne {m : Nat} (hm : m ≠ n) (hold : old ≠ some m) :
    (writeSlot s n old b).cmp.slots[m]? = s.cmp.slots[m]? := by
  cases old with
  | none => simp [writeSlot, hm.symm]
  | some o =>
    refine (slots_retireSlot_ne _ fun h => hold (congrArg some h.symm)).trans ?_
    simp [hm.symm]

@[simp] theorem writeSlot_obj (s : State) (n : Nat) (old : Option Nat) (b : Bytes) : (writeSlot s n old b).obj = s.obj := by
  cases old <;> rfl

@[simp] theorem writeSlot_waiting (s : State) (n : Nat) (old : Option Nat) (b : Bytes) :
    (writeSlot s n old b).cmp.waiting = s.cmp.waiting := by
  cases old <;> rfl

/-- R334: where the checks of a table pass, a FREE slot is not the one that is replaced. -/
theorem old_ne_of_free (hst : tableStatus s old b = none) (hfree : slotState s n = 0) : old ≠ some n := by
  rintro rfl
  rw [slotState_of_tableStatus hst] at hfree
  cases hfree

/-- R332, R334: what writing a FREE slot leaves of the table set, once the checks of the table have passed. -/
theorem writeSlot_leaves (hst : tableStatus s old b = none) (hfree : slotState s n = 0) (hn : n < s.cmp.slots.length) :
    (writeSlot s n old b).cmp.slots[n]? = some { state := 2, version := bnum b 4 2, freq := tableFreq b } ∧
    (∀ o, old = some o → slotState s o = 2 ∧ slotState (writeSlot s n old b) o = 3) ∧
    ∀ m, m ≠ n → old ≠ some m → (writeSlot s n old b).cmp.slots[m]? = s.cmp.slots[m]? := by
  have hold := old_ne_of_free b hst hfree
  refine ⟨slots_writeSlot_same b hn hold, ?_, fun m => slots_writeSlot_ne b⟩
  rintro o rfl
  have ho := slotState_of_tableStatus hst
  exact ⟨ho, slotState_writeSlot_old b ho fun h => hold (congrArg some h)⟩

end

/-! ## TABLE_LOAD and TABLE_REPLACE (R334, R335) -/

section

variable {h : Hdr} {s : State} {old : Option Nat} {b : Bytes}

theorem tableWrite_refused {st : Nat} (hst : tableStatus s old b = some st) :
    tableWrite h old b s = (some (Ans.err st), s) := by
  simp [tableWrite, hst]

variable (hst : tableStatus s old b = none)
include hst

/-- R334: a slot that is FREE is taken, freely chosen where there are several. -/
theorem tableWrite_free (hfree : slotsIn s 0 ≠ []) : ∃ n ∈ slotsIn s 0, ∃ k,
    tableWrite h old b s = (some (Ans.ok n), writeSlot { s with fresh := k } n old b) := by
  obtain ⟨n, hn, k, hpick⟩ := pickOf_of_ne_nil hfree s
  exact ⟨n, hn, k, by simp [tableWrite, hst, hpick]⟩

theorem tableWrite_no_slot (hfree : slotsIn s 0 = []) (hret : slotsIn s 3 = []) :
    tableWrite h old b s = (some (Ans.err stNO_SLOT), s) := by
  simp [tableWrite, hst, hfree, hret, pickOf]

/-- R335: the command waits for a RETIRING slot, and TABLE_WAIT names those there are. -/
theorem tableWrite_waits (hfree : slotsIn s 0 = []) (hret : slotsIn s 3 ≠ []) :
    tableWrite h old b s = (none, sendEvent evTABLE_WAIT ((slotsIn s 3).flatMap le4) { s with cmp := { s.cmp with
      waiting := s.cmp.waiting ++ [(h.port, h.tag, old, b)], waits := satAdd32 s.cmp.waits 1 } }) := by
  simp [tableWrite, hst, hfree, hret, pickOf, modCmp]

end

/-- R334: TABLE_LOAD, or TABLE_REPLACE of an old slot. -/
def tableCommand (h : Hdr) : Option Nat → Instr
  | none => .tableLoad h
  | some n => .tableReplace h n

/-- R334, R570: an accepted TABLE_LOAD or TABLE_REPLACE with its table there has its effect. -/
theorem runs_tableCommand {h : Hdr} {s : State} {d : Bytes} (a : AcceptedData h { dlen := 528 } s d) (old : Option Nat) :
    Runs (tableCommand h old) s (runEffect h.port h.tag (tableWrite h old) d (enteredData h (tableCommand h old) s)) := by
  cases old with
  | none => exact next_eq (hostCmd_acceptedData a _ _)
  | some n => exact next_eq (hostCmd_acceptedData a _ _)

section

variable {h : Hdr} {s : State} {d : Bytes} (a : AcceptedData h { dlen := 528 } s d) {old : Option Nat}
include a

theorem runs_tableCommand_refused {st : Nat} (hst : tableStatus s old d = some st) :
    Runs (tableCommand h old) s (answer h.port h.tag (Ans.err st) (enteredData h (tableCommand h old) s)) := by
  have hst := (tableStatus_congr (enteredData_cmp h (tableCommand h old) s) old d).trans hst
  exact (runs_tableCommand a old).trans (next_eq (runEffect_answers (tableWrite_refused hst) rfl _ _))

variable (hst : tableStatus s old d = none)
include hst

/-- R332, R334: with a slot FREE the table is written into it, and the old slot retires in the same instant. -/
theorem runs_tableCommand_free (hlen : s.cmp.slots.length = 8) (hfree : slotsIn s 0 ≠ []) :
    ∃ t n, Runs (tableCommand h old) s (answer h.port h.tag (Ans.ok n) t) ∧ slotState s n = 0 ∧ n < 8 ∧
      t.cmp.slots[n]? = some { state := 2, version := bnum d 4 2, freq := tableFreq d } ∧
      (∀ o, old = some o → slotState s o = 2 ∧ slotState t o = 3) ∧
      (∀ m, m ≠ n → old ≠ some m → t.cmp.slots[m]? = s.cmp.slots[m]?) ∧ t.obj = s.obj := by
  have hcmp := enteredData_cmp h (tableCommand h old) s
  have hfree := mt (slotsIn_congr hcmp 0).symm.trans hfree
  obtain ⟨n, hn, k, he⟩ := tableWrite_free (h := h) ((tableStatus_congr hcmp old d).trans hst) hfree
  obtain ⟨hlt, x, hx, hzero⟩ := mem_slotsIn.1 hn
  rw [hcmp] at hx
  have hstate : slotState s n = 0 := (slotState_of_getElem? hx).trans hzero
  let v : State := { enteredData h (tableCommand h old) s with fresh := k }
  have hv : v.cmp = s.cmp := hcmp
  obtain ⟨hnew, hretired, hothers⟩ := writeSlot_leaves (s := v) d ((tableStatus_congr hv old d).trans hst)
    ((slotState_congr hv n).trans hstate) (by rw [hv, hlen]; exact hlt)
  simp only [slotState_congr hv] at hretired
  simp only [hv] at hothers
  exact ⟨_, n, (runs_tableCommand a old).trans (next_eq (runEffect_answers he rfl _ _)), hstate, hlt, hnew, hretired, hothers,
    by simp⟩

/-- R335: with no slot FREE or RETIRING the command ends NO_SLOT. -/
theorem runs_tableCommand_no_slot (hfree : slotsIn s 0 = []) (hret : slotsIn s 3 = []) :
    Runs (tableCommand h old) s (answer h.port h.tag (Ans.err stNO_SLOT) (enteredData h (tableCommand h old) s)) := by
  have hcmp := enteredData_cmp h (tableCommand h old) s
  exact (runs_tableCommand a old).trans (next_eq (runEffect_answers (tableWrite_no_slot ((tableStatus_congr hcmp old d).trans hst)
    ((slotsIn_congr hcmp 0).trans hfree) ((slotsIn_congr hcmp 3).trans hret)) rfl _ _))

/-- R335: with no slot FREE and one RETIRING the command waits. -/
theorem runs_tableCommand_waits (hfree : slotsIn s 0 = []) (hret : slotsIn s 3 ≠ []) :
    let u := enteredData h (tableCommand h old) s
    Runs (tableCommand h old) s (sendEvent evTABLE_WAIT ((slotsIn s 3).flatMap le4) { u with cmp := { u.cmp with
      waiting := s.cmp.waiting ++ [(h.port, h.tag, old, d)], waits := satAdd32 s.cmp.waits 1 } }) := by
  intro u
  have hcmp : u.cmp = s.cmp := enteredData_cmp ..
  have he := tableWrite_waits (h := h) ((tableStatus_congr hcmp old d).trans hst) ((slotsIn_congr hcmp 0).trans hfree)
    (mt (slotsIn_congr hcmp 3).symm.trans hret)
  rw [slotsIn_congr hcmp, hcmp] at he
  rw [hcmp]
  exact (runs_tableCommand a old).trans (next_eq (runEffect_waits he _ _))

end

/-! ## TABLE_DROP (R334) -/

section

variable {h : Hdr} {s : State} (a : Accepted h {} s) {n : Nat}
include a

theorem runs_tableDrop_refused (hn : slotState s n ≠ 2) :
    Runs (.tableDrop h n) s (answer h.port h.tag (Ans.err stSTATE) (entered h (.tableDrop h n) s)) := by
  have hn := mt (slotState_congr (entered_cmp h (.tableDrop h n) s) n).symm.trans hn
  exact next_eq ((hostCmd_accepted a _ _).trans (runEffect_answers (by simp [tableDrop, hn]) rfl _ _))

theorem runs_tableDrop (hn : slotState s n = 2) :
    Runs (.tableDrop h n) s (replied h (.tableDrop h n) s 0 fun u => retireSlot u n) := by
  have hn := (slotState_congr (entered_cmp h (.tableDrop h n) s) n).trans hn
  exact next_eq (hostCmd_ok a _ _ 0 _ (by simp [tableDrop, hn]))

end

/-! ## TABLE_SLOT_FREE (R332, R335) -/

/-- R332: slot `n` FREE again. -/
def freedSlot (s : State) (n : Nat) : State :=
  { s with cmp := { s.cmp with slots := s.cmp.slots.set n Slot.reset } }

theorem slotState_freedSlot (s : State) (n : Nat) : slotState (freedSlot s n) n = 0 := by
  simp only [slotState, freedSlot, List.getElem?_set_self']
  cases s.cmp.slots[n]? <;> rfl

theorem slots_freedSlot_ne (s : State) {n m : Nat} (h : m ≠ n) : (freedSlot s n).cmp.slots[m]? = s.cmp.slots[m]? :=
  List.getElem?_set_ne h.symm

/-- R332: a slot that falls free where none was is the one FREE slot. -/
theorem head?_slotsIn_freedSlot {s : State} {n : Nat} (hn : n < s.cmp.slots.length) (hlt : n < 8) (hfull : slotsIn s 0 = []) :
    (slotsIn (freedSlot s n) 0).head? = some n := by
  have hmem (m : Nat) (hm : m ∈ slotsIn (freedSlot s n) 0) : m = n := by
    refine Decidable.byContradiction fun hne => ?_
    rw [mem_slotsIn, slots_freedSlot_ne s hne, ← mem_slotsIn, hfull] at hm
    cases hm
  have hfree : n ∈ slotsIn (freedSlot s n) 0 := mem_slotsIn.2 ⟨hlt, Slot.reset, by simp [freedSlot, hn], rfl⟩
  cases hl : slotsIn (freedSlot s n) 0 with
  | nil => rw [hl] at hfree; cases hfree
  | cons m ms => exact congrArg some (hmem m (by rw [hl]; exact List.mem_cons_self))

/-- R332: TABLE_SLOT_FREE of a RETIRING slot that no block names frees it, and serves the commands that wait. -/
theorem runs_tableSlotFree {s : State} {n : Nat} {x : Slot} (hx : s.cmp.slots[n]? = some x) (hret : x.state = 3)
    (hrefs : slotRefs s n = 0) (hready : s.pkg.phase = .ready) :
    Runs (.tableSlotFree n) s (serveTables (s.cmp.waiting.length + 1) (freedSlot s n)) := by
  refine next_eq ?_
  rw [hx]
  exact if_pos ⟨hret, hrefs, hready⟩

theorem serveTables_of_no_waiting {s : State} (h : s.cmp.waiting = []) (fuel : Nat) : serveTables (fuel + 1) s = s := by
  simp [serveTables, h]

/-- R335: the command that waits takes the FREE slot. -/
theorem serveTables_one {s : State} {p : Port} {tag n : Nat} {old : Option Nat} {b : Bytes}
    (hwait : s.cmp.waiting = [(p, tag, old, b)]) (hst : tableStatus s old b = none) (hn : (slotsIn s 0).head? = some n)
    (fuel : Nat) : serveTables (fuel + 2) s = answer p tag { status := stWAITED, value := n }
      (writeSlot (modCmp s fun c => { c with waiting := [] }) n old b) := by
  rw [serveTables, hwait]
  simp only [hst, hn]
  exact serveTables_of_no_waiting (by simp) fuel

/-! ## The statement -/

/-- Settles O47: the commands from the four cases of a table's write and from a slot that retires, TABLE_SLOT_FREE from the
slot that it frees. -/
theorem tablesAreReplacedInOneInstant : Obligations.TablesAreReplacedInOneInstant := by
  unfold Obligations.TablesAreReplacedInOneInstant
  refine ⟨fun h s d old a hlen => ⟨fun st => runs_tableCommand_refused a,
      fun hst => ⟨runs_tableCommand_free a hst hlen, runs_tableCommand_no_slot a hst,
        fun hfree hret => ⟨_, runs_tableCommand_waits a hst hfree hret, rfl⟩⟩⟩,
    fun h s n a => ⟨runs_tableDrop_refused a, fun hn => ⟨_, runs_tableDrop a hn, ?retired, fun m hm => ?others⟩⟩,
    fun s n x hx hret hrefs hready => ⟨fun hwait => ?free, fun p tag old d hwait hlen hfull => ?served⟩⟩
  case retired => exact slotState_retireSlot ((slotState_congr (entered_cmp ..) n).trans hn)
  case others => rw [slots_retireSlot_ne _ hm, entered_cmp]
  case free =>
    have hrun := runs_tableSlotFree hx hret hrefs hready
    rw [serveTables_of_no_waiting (s := freedSlot s n) hwait] at hrun
    exact ⟨_, hrun, slotState_freedSlot s n, rfl, fun m => slots_freedSlot_ne s⟩
  case served =>
    intro u hst
    change tableStatus (freedSlot s n) old d = none at hst
    have hn : n < s.cmp.slots.length := (List.getElem?_eq_some_iff.1 hx).1
    have hrun := runs_tableSlotFree hx hret hrefs hready
    have hfirst := head?_slotsIn_freedSlot hn (hlen ▸ hn) hfull
    rw [hwait, List.length_singleton, serveTables_one (s := freedSlot s n) hwait hst hfirst] at hrun
    obtain ⟨hnew, hretired, -⟩ := writeSlot_leaves (s := modCmp (freedSlot s n) fun c => { c with waiting := [] }) d hst
      (slotState_freedSlot s n) (by simpa [freedSlot] using hn)
    exact ⟨_, hrun, slotState_of_getElem? hnew, writeSlot_waiting .., fun o ho => (hretired o ho).2⟩

end Sys2Proof.Machine

namespace Sys2Proof.Machine

/-! ACC_SUBMIT refused by its own rules (R385, R570): a refused command's data leave its stream before it ends, which the statement
on submissions does not say. -/

open Sys2Proof

/-! ## What a refused record leaves (R569, R570) -/

/-- R569: a record that no check of acceptance refuses has a TAG that no outstanding command of its port has. -/
theorem findOut_eq_none_of_refusal {h : Hdr} {n : Need} {s : State} (hfine : refusal h n s = none) :
    findOut h.port h.tag s = none := by
  have htag : (s.portq h.port).outst.any (·.tag == h.tag) = false := by
    rw [← Bool.not_eq_true]
    intro hdup
    simp [refusal, hdup] at hfine
  rw [findOut, List.find?_eq_none]
  intro o ho
  simp [List.any_eq_false.1 htag o ho]

@[simp] theorem findOut_takeStream (p : Port) (stream n tag : Nat) (s : State) :
    findOut p tag (takeStream p stream n s) = findOut p tag s := by
  cases p <;> rfl

/-- R571: a record queued for a port leaves its outstanding commands. -/
@[simp] theorem findOut_pushRec (p : Port) (r : Rec) (tag : Nat) (s : State) :
    findOut p tag (pushRec p r s) = findOut p tag s := by
  unfold pushRec ibiIf
  cases p <;> grind [findOut, State.portq, HostSt.portq, State.modPort, HostSt.modPort]

section

variable {h : Hdr} {n : Need} {s : State} {d : Bytes} (a : AcceptedData h n s d) (hp : h.port = .usb)
include a hp

/-- R570: a REPLY sent once the data have been taken is not one that leaves them in their stream. -/
theorem reply_taken_ne_reply_kept (st : Nat) :
    reply h.port h.tag h.stream (Ans.err st) (takeStream h.port h.stream h.dlen (countCommand h.port s)) ≠
      reply h.port h.tag h.stream (Ans.err st) (countCommand h.port s) := by
  intro heq
  have hlen := congrArg (fun t => (streamBuf h.port h.stream t).length) heq
  simp only [streamBuf_reply_err, streamBuf_takeStream, streamBuf_countCommand, List.length_drop] at hlen
  obtain ⟨-, -, hthere, -⟩ := a.here.resolve_left (by simp [hp])
  have hdata := a.some
  omega

end

/-- R385, R570: an ACC_SUBMIT from USB that its own rules refuse ends with their status, and its data are gone from the stream. -/
theorem runs_accSubmit_refused {h : Hdr} {p : SubmitP} {s : State} {d : Bytes} {st : Nat} (a : AcceptedData h { dlen := 8 } s d)
    (hp : h.port = .usb) (hst : submitStatus h p s = some st) :
    Runs (.accSubmit h p) s (reply h.port h.tag h.stream (Ans.err st)
      (takeStream h.port h.stream h.dlen (countCommand h.port s))) := by
  have hend := hostCmdPre_refused a hp (fun t => (submitStatus h p t).map fun st => Ans.err st) (accSubmit h p) (.accSubmit h p)
    (congrArg (Option.map fun st => Ans.err st) hst)
  have hgone : findOut h.port h.tag (reply h.port h.tag h.stream (Ans.err st)
      (takeStream h.port h.stream h.dlen (countCommand h.port s))) = none := by
    rw [reply, Ans.err, findOut_pushRec, findOut_takeStream, findOut_countCommand]
    exact findOut_eq_none_of_refusal a.fine
  change execAccSubmit h p s = _
  simp only [execAccSubmit, hend, hgone, Option.any_none, Bool.false_and, Bool.false_eq_true, if_false]

/-! ## The statement -/

/-- A READY package owned by USB, with a SEED and one prompt token arrived on stream 1; no service record is set. -/
def promptArrived : State :=
  { State.reset with
    pkg := { Pkg.reset with phase := .ready }
    host := { HostSt.reset with usb := { PortQ.reset with attached := true, sbuf := [(1, zeros 12)] }, owner := some .usb } }

/-- A command record of USB that brings them. -/
def promptRecord : Hdr := { port := .usb, tag := 0, flags := 1, stream := 1, dlen := 12, rsv := 0, tail := 0 }

/-- A submission of one prompt token to service 0. -/
def promptSubmission : SubmitP :=
  { service := 0, prompt := 0, n := 1, policy := 0, adapter := 0xFF, stopset := 255, topk := 1, draftMax := 0, temp := 0, topp := 1,
    deadline := 1, maxnew := 1 }

theorem acceptedData_promptRecord : AcceptedData promptRecord { dlen := 8 } promptArrived (zeros 12) where
  taken := rfl
  fine := by decide
  some := by decide
  here := by decide

theorem submitStatus_promptSubmission : submitStatus promptRecord promptSubmission promptArrived = some stSERVICE := rfl

/-- Refutes O48: an ACC_SUBMIT that ends SERVICE has had its data taken from its stream (R570), where the statement keeps them
there. -/
theorem not_servicesAndSubmissions : ¬ Obligations.ServicesAndSubmissions := by
  unfold Obligations.ServicesAndSubmissions
  rintro ⟨-, -, hsubmit, -⟩
  have hrefused := (hsubmit promptRecord promptSubmission promptArrived (zeros 12) acceptedData_promptRecord).1 stSERVICE
    submitStatus_promptSubmission
  have htaken := runs_accSubmit_refused acceptedData_promptRecord rfl submitStatus_promptSubmission
  exact reply_taken_ne_reply_kept acceptedData_promptRecord rfl stSERVICE (Host.Outcome.next.inj (htaken.symm.trans hrefused))

end Sys2Proof.Machine

namespace Sys2Proof.Machine

/-! Accessions under control (R386, R387, R399, R403): what the commands on one accession answer, what holding and resuming all of
them leave, and what the restart of the clocks leaves of them; from it the statement on all of these. -/

open Sys2Proof

@[simp] theorem accAt_entered (h : Hdr) (c : Instr) (s : State) (a : Nat) : accAt (entered h c s) a = accAt s a := by
  simp [accAt]

theorem accAt_modAcc_ne (s : State) {a j : Nat} (hj : j ≠ a) (f : Acc → Acc) : accAt (modAcc s a f) j = accAt s j := by
  simp [accAt, modAcc, tget_tmod, hj]

/-- R571: an accepted command without data whose effect answers without result data is replied to. -/
theorem hostCmd_answers {h : Hdr} {n : Need} {s t : State} {ans : Ans} (a : Accepted h n s) {eff : Effect} {c : Instr}
    (he : eff [] (entered h c s) = (some ans, t)) (hbare : ans.rdata = none) :
    hostCmd h n eff c s = answer h.port h.tag ans t :=
  (hostCmd_accepted a eff c).trans (runEffect_answers he hbare _ _)

/-! ## ACC_CANCEL, ACC_SUSPEND and ACC_RESUME (R387, R399) -/

section

variable {h : Hdr} {s : State} {a : Nat} (acc : Accepted h {} s)
include acc

theorem runs_accCancel_no_accession {tag : Nat} (hno : ∀ x, accAt s a = some x → x.tag ≠ tag) :
    Runs (.accCancel h a tag) s (answer h.port h.tag (Ans.err stNO_ACCESSION) (entered h (.accCancel h a tag) s)) := by
  refine next_eq (hostCmd_answers acc ?_ rfl)
  cases hx : accAt s a with
  | none => simp [accCancel, hx]
  | some x => simp [accCancel, hx, hno x hx]

theorem runs_accSuspend_no_accession (hx : accAt s a = none) :
    Runs (.accSuspend h a) s (answer h.port h.tag (Ans.err stNO_ACCESSION) (entered h (.accSuspend h a) s)) :=
  next_eq (hostCmd_answers acc (by simp [accSuspend, hx]) rfl)

theorem runs_accResume_no_accession (hx : accAt s a = none) :
    Runs (.accResume h a) s (answer h.port h.tag (Ans.err stNO_ACCESSION) (entered h (.accResume h a) s)) :=
  next_eq (hostCmd_answers acc (by simp [accResume, hx]) rfl)

variable {x : Acc} (hx : accAt s a = some x)
include hx

theorem runs_accCancel_too_late (hdone : x.state = asDONE) :
    Runs (.accCancel h a x.tag) s (answer h.port h.tag (Ans.err stTOO_LATE)
      { entered h (.accCancel h a x.tag) s with acc := { s.acc with tooLate := satAdd32 s.acc.tooLate 1 } }) :=
  next_eq (hostCmd_answers acc (by simp [accCancel, hx, hdone, asDONE, asFREE]) rfl)

variable (hlive : x.state ≠ asFREE)
include hlive

/-- R399: the cancel waits with its accession; where no step is in flight it acts at once. -/
theorem runs_accCancel (hdone : x.state ≠ asDONE) :
    let u := modAcc (entered h (.accCancel h a x.tag) s) a fun x => { x with cancel := x.cancel ++ [(h.port, h.tag)] }
    Runs (.accCancel h a x.tag) s (if s.acc.steps.isEmpty then cancelPoint u else u) :=
  next_eq (hostCmd_wait acc _ _ _ (by simp [accCancel, hx, hlive, hdone]))

/-- R387: within a step the suspension waits for the step's end. -/
theorem runs_accSuspend_pending (hl : x.live = true) (hstep : x.instep = true) :
    Runs (.accSuspend h a) s (replied h (.accSuspend h a) s 0 fun u => modAcc u a fun x => { x with susp := true }) :=
  next_eq (hostCmd_answers acc (by simp [accSuspend, hx, hlive, hl, hstep]) rfl)

theorem runs_accSuspend (hstep : x.instep = false)
    (hst : x.state = asQUEUED ∨ x.state = asDECODE ∨ x.state = asPAGE_WAIT) :
    Runs (.accSuspend h a) s (replied h (.accSuspend h a) s 0 fun u => modAcc u a Acc.suspend) :=
  next_eq (hostCmd_answers acc (by simp [accSuspend, hx, hlive, hstep, hst]) rfl)

theorem runs_accResume (hst : x.state = asSUSPENDED) :
    Runs (.accResume h a) s (replied h (.accResume h a) s 0 fun u => modAcc u a fun x => { x with state := x.prev }) :=
  next_eq (hostCmd_answers acc (by simp [accResume, hx, hlive, if_pos hst]) rfl)

theorem runs_accResume_state (hst : x.state ≠ asSUSPENDED) :
    Runs (.accResume h a) s (answer h.port h.tag (Ans.err stSTATE) (entered h (.accResume h a) s)) :=
  next_eq (hostCmd_answers acc (by simp [accResume, hx, hlive, hst]) rfl)

end

theorem suspend_of_not_held {x : Acc} (hst : x.state ≠ asHELD) :
    x.suspend = { x with prev := x.state, state := asSUSPENDED, susp := false } :=
  if_neg hst

/-! ## What the end of a turner's wait leaves (R191, R192)

The restart of the clocks lets turners go on, which may end tasks and whole runs of graphs. -/

/-- R403, R527: the accessions, whether they are all held, whether the coolant stops the package, and the alerts. -/
def heldView (s : State) : Tab Acc × Bool × Bool × Bool × List Nat :=
  (s.acc.tab, s.acc.holdAll, s.pwr.coolStop, s.pwr.coolBack, s.pkg.alert)

@[simp] theorem heldView_modRun (s : State) (k : TaskRef) (f : Run → Run) : heldView (modRun s k f) = heldView s := rfl
@[simp] theorem heldView_modGraph (s : State) (g : Nat) (f : Graph → Graph) : heldView (modGraph s g f) = heldView s := rfl
@[simp] theorem heldView_signal (s : State) (c : Nat) : heldView (signal s c) = heldView s := rfl
@[simp] theorem heldView_releaseUnits (s : State) (k : TaskRef) (b : Bool) : heldView (releaseUnits s k b) = heldView s := rfl
@[simp] theorem heldView_setStream (s : State) (i st v : Nat) : heldView (setStream s i st v) = heldView s := rfl
@[simp] theorem heldView_modTrn (s : State) (t : Nat) (f : Turner → Turner) : heldView (s.modTrn t f) = heldView s := rfl
@[simp] theorem heldView_retire (s : State) (t : Nat) (pc : Word) : heldView (retire s t pc) = heldView s := rfl

@[simp] theorem heldView_pushRec (p : Port) (r : Rec) (s : State) : heldView (pushRec p r s) = heldView s := by
  simp [heldView]

@[simp] theorem heldView_sendCtl (dst ty group : Nat) (body : List Nat) (s : State) :
    heldView (sendCtl dst ty group body s) = heldView s := by
  rw [sendCtl_frame]
  rfl

@[simp] theorem heldView_objWrite (s : State) (i off : Nat) (bs : Bytes) : heldView (objWrite s i off bs) = heldView s := by
  unfold objWrite
  split
  · rfl
  · split <;> rfl

@[simp] theorem heldView_dropSurplus (s : State) (i : Nat) : heldView (dropSurplus s i) = heldView s := by
  unfold dropSurplus
  split <;> rfl

@[simp] theorem heldView_unpin (s : State) (is : List Nat) : heldView (unpin s is) = heldView s := by
  refine foldl_keeps heldView (fun t i => ?_) is s
  exact heldView_dropSurplus ..

@[simp] theorem heldView_recordUse (s : State) (is : List Nat) : heldView (recordUse s is) = heldView s := by
  refine foldl_keeps heldView (fun t i => ?_) is s
  rfl

@[simp] theorem heldView_ungive (s : State) (m : Move) : heldView (ungive s m) = heldView s := by
  unfold ungive
  split
  · split <;> rfl
  · rfl

@[simp] theorem heldView_dropMove (s : State) (m : Move) : heldView (dropMove s m) = heldView s := by
  have hpins : heldView (if m.pinWait then s else unpin s (moveObjs s m.req)) = heldView s := by
    split <;> simp
  rw [← hpins, dropMove, heldView_modRun]
  split
  · rfl
  · exact heldView_ungive ..

@[simp] theorem heldView_unqueue (s : State) (k : TaskRef) : heldView (unqueue s k) = heldView s :=
  foldl_keeps heldView heldView_dropMove _ s

@[simp] theorem heldView_writeEntry (s : State) (k : TaskRef) (status : Nat) : heldView (writeEntry s k status) = heldView s := by
  unfold writeEntry
  split
  · dsimp only
    split
    · exact heldView_objWrite ..
    · rfl
  · rfl

@[simp] theorem heldView_sendEdges (s : State) (k : TaskRef) (ok : Bool) : heldView (sendEdges s k ok) = heldView s := by
  unfold sendEdges
  split
  · split
    · exact foldl_keeps heldView (fun _ _ => heldView_sendCtl ..) _ s
    · rfl
  · rfl

@[simp] theorem heldView_endTask (s : State) (k : TaskRef) (status : Nat) : heldView (endTask s k status) = heldView s := by
  unfold endTask
  split
  next d r _ _ =>
    have hcount (t : State) : heldView { t with gra := { t.gra with tasks := satAdd64 t.gra.tasks 1 } } = heldView t := rfl
    simp [apply_ite heldView, hcount]
  next => rfl

@[simp] theorem heldView_settleTask (s : State) (k : TaskRef) : heldView (settleTask s k) = heldView s := by
  unfold settleTask
  split
  · simp [apply_ite heldView]
  · rfl

@[simp] theorem heldView_settlePass (s : State) (g n : Nat) : heldView (settlePass s g n) = heldView s :=
  foldl_keeps heldView (fun _ _ => heldView_settleTask ..) _ s

@[simp] theorem heldView_settleLoop (g n fuel : Nat) (s : State) : heldView (settleLoop g n fuel s) = heldView s := by
  induction fuel generalizing s with
  | zero => rfl
  | succ fuel ih =>
    simp only [settleLoop, apply_ite heldView, ih, heldView_settlePass, ite_self]

/-- R398: of the accession engine the record of a graph that has ended changes the steps. -/
@[simp] theorem heldView_deliverInstance (g : Nat) (n : Inst) (rec : Bytes) (s : State) :
    heldView (deliverInstance g n rec s) = heldView s := by
  unfold deliverInstance
  split
  · rfl
  · exact heldView_pushRec ..

@[simp] theorem heldView_finishInstance (s : State) (g : Nat) : heldView (finishInstance s g) = heldView s := by
  have hcount (t : State) : heldView { t with gra := { t.gra with instances := satAdd64 t.gra.instances 1 } } = heldView t := rfl
  unfold finishInstance
  split
  · simp [apply_ite heldView, hcount]
  · rfl

@[simp] theorem heldView_sweepStreams (s : State) : heldView (sweepStreams s) = heldView s := by
  refine foldl_keeps heldView (fun t e => ?_) _ s
  split
  · rfl
  · split
    · rfl
    · split <;> rfl

@[simp] theorem heldView_settle (s : State) (g : Nat) : heldView (settle s g) = heldView s := by
  unfold settle
  split <;> simp

@[simp] theorem heldView_taskSignal (s : State) (k : TaskRef) (c : Nat) : heldView (taskSignal s k c) = heldView s := by
  unfold taskSignal
  split
  · rfl
  · simp [apply_ite heldView]

@[simp] theorem heldView_taskException (s : State) (k : TaskRef) (code pc : Nat) :
    heldView (taskException s k code pc) = heldView s := by
  unfold taskException
  split <;> rfl

@[simp] theorem heldView_trnProceed (s : State) (t : Nat) : heldView (trnProceed s t) = heldView s := by
  unfold trnProceed
  dsimp only
  split
  · rfl
  next k _ =>
    split
    · rfl
    · split
      · split
        · simp
        · exact heldView_taskException ..
      · rfl
      · rfl
      · rfl

@[simp] theorem heldView_goOnAll (s : State) : heldView (goOnAll s) = heldView s :=
  foldl_keeps heldView heldView_trnProceed _ s

/-! ## The restart of the clocks (R119, R526) -/

@[simp] theorem heldView_thrLeave (r : Nat) (s : State) : heldView (thrLeave r s) = heldView s := rfl

@[simp] theorem heldView_thrEnter (r cause : Nat) (s : State) : heldView (thrEnter r cause s) = heldView s := by
  unfold thrEnter
  split <;> rfl

@[simp] theorem heldView_askGrant (s : State) (v : Nat) : heldView (askGrant s v) = heldView s := by
  unfold askGrant
  split
  · rfl
  · dsimp only
    split
    · exact heldView_thrEnter ..
    · rfl

@[simp] theorem heldView_restartVats (s : State) : heldView (restartVats s) = heldView s := by
  refine (heldView_goOnAll _).trans (foldl_keeps heldView (fun t v => ?_) _ s)
  split
  · exact heldView_askGrant ..
  · rfl

/-- R458: a PACE sent leaves the accessions. -/
@[simp] theorem heldView_sendPace (n : PaceN) (s : State) : heldView (sendPace n s) = heldView s := by
  unfold sendPace
  split
  · rfl
  · exact foldl_keeps heldView (fun _ _ => heldView_sendCtl ..) _ s

/-! ## ACC_HOLD_ALL and ACC_RESUME_ALL (R403, R527) -/

/-- The entry of a key in a table whose entries have been changed in place. -/
theorem tget_map_entries {α : Type} (t : Tab α) (f : α → α) (k : Nat) :
    tget (t.map fun e => (e.1, f e.2)) k = (tget t k).map f := by
  simp [tget, List.find?_map, Function.comp_def]

/-- R403: an accession as a hold leaves it. -/
def Acc.hold (x : Acc) : Acc :=
  if x.live ∧ x.state ≠ asHELD then
    { x with prevSusp := if x.state = asSUSPENDED then x.prev else x.prevSusp, prev := x.state, state := asHELD }
  else x

/-- R403: an accession as the end of a hold leaves it. -/
def Acc.unhold (x : Acc) : Acc :=
  if x.state = asHELD then { x with state := x.prev, prev := if x.prev = asSUSPENDED then x.prevSusp else x.prev } else x

theorem accAt_holdAccs (s : State) (a : Nat) : accAt (holdAccs s) a = (accAt s a).map Acc.hold := by
  refine Eq.trans (congrArg (tget · a) ?_) (tget_map_entries ..)
  refine List.map_congr_left fun e _ => ?_
  simp only [Acc.hold]
  split <;> rfl

theorem accAt_resumeAccs (s : State) (a : Nat) : accAt (resumeAccs s) a = (accAt s a).map Acc.unhold := by
  refine Eq.trans (congrArg (tget · a) ?_) (tget_map_entries ..)
  refine List.map_congr_left fun e _ => ?_
  simp only [Acc.unhold]
  split <;> rfl

/-- R403: what a hold does to an accession outside FREE and DONE, and to any other. -/
theorem Acc.hold_cases (x : Acc) : (x.live = true → x.hold.state = asHELD) ∧ (x.live = false → x.hold = x) ∧
    (x.live = true → x.state ≠ asHELD → x.hold.prev = x.state) := by
  refine ⟨fun hl => ?_, fun hl => if_neg (by simp [hl]), fun hl hst => by simp [Acc.hold, hl, hst]⟩
  by_cases hst : x.state = asHELD <;> simp [Acc.hold, hl, hst]

/-- R403: what the end of a hold does to a HELD accession, and to any other. -/
theorem Acc.unhold_cases (x : Acc) : (x.state = asHELD → x.unhold.state = x.prev) ∧ (x.state ≠ asHELD → x.unhold = x) :=
  ⟨fun hst => by simp [Acc.unhold, hst], fun hst => if_neg hst⟩

/-- R403: every accession held. -/
def allHeld (s : State) : State := { holdAccs s with acc := { (holdAccs s).acc with holdAll := true } }

/-- R403, R527: the accessions resumed, the coolant stop over and its alert gone; the clocks are yet to restart. -/
def resumed (s : State) : State :=
  { resumeAccs s with
    pwr := { s.pwr with coolStop := false, coolBack := false }
    pkg := { s.pkg with alert := s.pkg.alert.filter (· != 1) } }

/-- R403, R527: ACC_RESUME_ALL leaves the accessions and the alerts as resuming them does: restart and PACE change neither. -/
theorem accResumeAll_resumes {s : State} (hcool : s.pwr.coolStop = true → s.pwr.coolBack = true) (d : Bytes) :
    ∃ t, accResumeAll d s = (some (Ans.ok 0), t) ∧ heldView t = heldView (resumed s) := by
  have hgo : (s.pwr.coolStop && !s.pwr.coolBack) = false := by grind
  refine ⟨_, by rw [accResumeAll, hgo]; rfl, ?_⟩
  have hrestart : heldView (if s.pwr.coolStop then restartVats (resumed s) else resumed s) = heldView (resumed s) := by
    simp [apply_ite heldView]
  refine (heldView_thrLeave ..).trans (Eq.trans ?_ hrestart)
  split
  · split
    · exact heldView_sendPace ..
    · rfl
  · rfl

/-- R403, R527: what holds of a state in which the accessions stand as resumed. -/
theorem leaves_of_heldView {s t : State} (ht : heldView t = heldView (resumed s)) :
    t.pwr.coolStop = false ∧ t.pwr.coolBack = false ∧ 1 ∉ t.pkg.alert ∧ t.acc.holdAll = false ∧
      ∀ a, accAt t a = (accAt s a).map Acc.unhold := by
  simp only [heldView, Prod.mk.injEq] at ht
  obtain ⟨htab, hall, hstop, hback, halert⟩ := ht
  refine ⟨hstop, hback, ?_, hall, fun a => ?_⟩
  · rw [halert]
    simp [resumed]
  · rw [accAt, htab]
    exact accAt_resumeAccs s a

section

variable {h : Hdr} {s : State} (acc : Accepted h {} s)
include acc

theorem runs_accHoldAll :
    Runs (.accHoldAll h) s (answer h.port h.tag (Ans.ok 0) (allHeld (entered h (.accHoldAll h) s))) :=
  next_eq (hostCmd_answers acc rfl rfl)

theorem runs_accResumeAll_refused (hstop : s.pwr.coolStop = true) (hback : s.pwr.coolBack = false) :
    Runs (.accResumeAll h) s (answer h.port h.tag (Ans.err stSTATE) (entered h (.accResumeAll h) s)) :=
  next_eq (hostCmd_answers acc (by simp [accResumeAll, hstop, hback]) rfl)

theorem runs_accResumeAll (hcool : s.pwr.coolStop = true → s.pwr.coolBack = true) :
    ∃ t, Runs (.accResumeAll h) s (answer h.port h.tag (Ans.ok 0) t) ∧ t.pwr.coolStop = false ∧ t.pwr.coolBack = false ∧
      1 ∉ t.pkg.alert ∧ t.acc.holdAll = false ∧ ∀ a, accAt t a = (accAt s a).map Acc.unhold := by
  obtain ⟨t, heff, hview⟩ := accResumeAll_resumes (s := entered h (.accResumeAll h) s) (by simpa using hcool) []
  have hleft := leaves_of_heldView hview
  simp only [accAt_entered] at hleft
  exact ⟨t, next_eq (hostCmd_answers acc heff rfl), hleft⟩

end

/-! ## FINAL_RECORD_SENT (R386) -/

section

variable {s : State} {a : Nat} {x : Acc} (hx : accAt s a = some x)
include hx

theorem runs_finalRecordSent (hdone : x.state = asDONE) (hheld : x.heldRecs = [])
    (hsent : ∀ r ∈ (s.portq x.port).recs, ¬(r.ty = tyRESULT ∧ bnum r.payload 0 2 = a)) :
    Runs (.finalRecordSent a) s (freeAcc s a) := by
  have hnone : ((s.portq x.port).recs.any fun r => r.ty == tyRESULT && bnum r.payload 0 2 == a) = false :=
    List.any_eq_false.2 fun r hr => by simpa using hsent r hr
  refine next_eq ?_
  simp [hx, hdone, hheld, hnone]

theorem runs_finalRecordSent_waits (hqueued : ∃ r ∈ (s.portq x.port).recs, r.ty = tyRESULT ∧ bnum r.payload 0 2 = a) :
    Runs (.finalRecordSent a) s s := by
  have hany : ((s.portq x.port).recs.any fun r => r.ty == tyRESULT && bnum r.payload 0 2 == a) = true :=
    List.any_eq_true.2 (by simpa using hqueued)
  refine next_eq ?_
  simp [hx, hany]

end

theorem accAt_freeAcc_same (s : State) (a : Nat) : accAt (freeAcc s a) a = none := tget_terase_same ..

theorem accAt_freeAcc_ne (s : State) {a j : Nat} (hj : j ≠ a) : accAt (freeAcc s a) j = accAt s j := tget_terase_ne _ _ _ hj

/-! ## The statement -/

/-- Settles O49: the commands on one accession by the state of its entry, the two on all of them from what a hold and its end do to
each entry and from what the restart of the clocks leaves. -/
theorem accessionsAreControlled : Obligations.AccessionsAreControlled := by
  unfold Obligations.AccessionsAreControlled
  refine ⟨fun h s a acc => ⟨fun hx => ⟨fun tag => ?absent, runs_accSuspend_no_accession acc hx,
        runs_accResume_no_accession acc hx⟩,
      fun x hx hlive => ⟨fun tag htag => ?otherTag, fun hdone => ⟨_, runs_accCancel_too_late acc hx hdone, ?counted, ?stays⟩,
        fun hdone hsteps => ?waits, fun hdone hsteps => ?atOnce, runs_accSuspend_pending acc hx hlive,
        fun hstep hst => ⟨runs_accSuspend acc hx hlive hstep hst, suspend_of_not_held ?notHeld⟩,
        runs_accResume acc hx hlive, runs_accResume_state acc hx hlive⟩⟩,
    fun h s acc => ⟨⟨_, runs_accHoldAll acc, rfl, rfl, fun a x hx => ⟨x.hold, ?held, x.hold_cases⟩⟩,
      runs_accResumeAll_refused acc, fun hcool => ?resumeAll⟩,
    fun s a x hx hdone hheld => ⟨fun hsent => ⟨_, runs_finalRecordSent hx hdone hheld hsent, accAt_freeAcc_same s a,
      fun j => accAt_freeAcc_ne s, rfl, rfl⟩, runs_finalRecordSent_waits hx⟩⟩
  case absent => exact runs_accCancel_no_accession acc (by simp [hx])
  case otherTag => exact runs_accCancel_no_accession acc fun y hy => by rwa [Option.some.inj (hy.symm.trans hx)]
  case counted => rfl
  case stays => exact hx
  case waits =>
    have hrun := runs_accCancel acc hx hlive hdone
    simp only [List.isEmpty_iff, if_neg hsteps] at hrun
    refine ⟨_, hrun, by rw [accAt_modAcc, accAt_entered, hx]; rfl, fun j hj => ?_⟩
    rw [accAt_modAcc_ne _ hj, accAt_entered]
  case atOnce => simpa only [hsteps, List.isEmpty_nil, if_true] using runs_accCancel acc hx hlive hdone
  case notHeld => rcases hst with hst | hst | hst <;> simp [hst, asHELD, asQUEUED, asDECODE, asPAGE_WAIT]
  case held =>
    refine (accAt_holdAccs ..).trans ?_
    rw [accAt_entered, hx, Option.map_some]
  case resumeAll =>
    obtain ⟨t, hrun, hstop, hback, halert, hall, hacc⟩ := runs_accResumeAll acc hcool
    exact ⟨t, hrun, hstop, hback, halert, hall, fun a x hx => ⟨x.unhold, by rw [hacc, hx, Option.map_some], x.unhold_cases⟩⟩

end Sys2Proof.Machine
